-- ==== Sys2Proof/Word.lean ====
section
/-! DEFINITION. The plainest types of the model: bytes, line bits and the names the commands use for axes and ends. -/

namespace Sys2Proof

/-- A byte of a payload or of the configuration image. Bit 7 is the most significant (R192). -/
abbrev Byte := BitVec 8

/-- A bit as it stands on the zone bus: `true` is recessive (1), `false` is dominant (0), as 01 opens. -/
abbrev LineBit := Bool

/-- The two motion axes (08). -/
inductive Axis where
  | A
  | B
deriving DecidableEq, Repr

/-- A direction of travel; PLUS leads away from the minus end (08). -/
inductive Direction where
  | plus
  | minus
deriving DecidableEq, Repr

/-- The other direction (R154). -/
def Direction.reverse : Direction → Direction
  | .plus => .minus
  | .minus => .plus

end Sys2Proof
end

