-- ==== Sys2Proof/Syntax.lean ====
section
/-! DEFINITION. The commands of the block: one constructor for each row of spec/opcode_table.json.
A command carries what only the station's surroundings know; see notes/assumptions/1.md, 5.md and 6.md. -/

namespace Sys2Proof

/-- The events of a boundary that leave or ask for ramp slots, and that R110 lets come before or after the stepping of the
pool. -/
inductive BoundaryEvent where
  | silentEntry
  | freshnessLapse (address : Nat)
  | leaseEnd (ax : Axis)
  | stall (ax : Axis)
  | scheduleDueRun
deriving DecidableEq, Repr

/-- What a boundary finds beside the keys: whether any ESTOP sample since the boundary before read asserted (R19), and how
the other events of its instant stand to the stepping of the pool (R110; notes/assumptions/41.md). -/
structure BoundaryFound where
  /-- An ESTOP sample since the boundary before read asserted. -/
  estopRead : Bool := false
  /-- The slots given at this instant by commands that came before this one. -/
  given : List (Fin 16) := []
  /-- The events of the boundary that come before the stepping, in their order. -/
  early : List BoundaryEvent := []
  /-- Commands that follow at this instant come before the stepping too: it is left to RAMP_COMPLETION. -/
  stepsLater : Bool := false
deriving DecidableEq, Repr

/-- The events and operations of the ZC-24. `bits` are the line bits read since the line command before,
oldest first, the last one being the bit at which the event falls. -/
inductive Instr where
  /-- HARD_RESET: the reset takes effect with this number on the address straps (R184, R185). -/
  | hardReset (straps : BitVec 6)
  /-- HELD_IN_RESET: the supply falls out of range or RESET is driven low (R184). -/
  | heldInReset
  /-- ATTEMPT_FAIL: the memory refuses selection or holds the data line (R187). -/
  | attemptFail
  /-- IMAGE_JUDGED: the next bytes of the image come in; with the 1024th it is judged (R187, R188). -/
  | imageJudged (bytes : List Byte)
  /-- PERIOD_BOUNDARY: the key inputs as sampled (bit n is KEYn, low reads pressed), and what else the boundary finds
  (R25, R64). -/
  | periodBoundary (keys : BitVec 8) (found : BoundaryFound)
  /-- RAMP_COMPLETION of a slot: the pool's stepping of the boundary, where it is owed, with the completions that it brings
  (R108, R109, R110). -/
  | rampCompletion (slot : Fin 16)
  /-- SILENCE_TIMER_EXPIRY (R28). -/
  | silenceTimerExpiry
  /-- BEACON_OFFER (R29). -/
  | beaconOffer
  /-- REFERENCE_LOST (R32). -/
  | referenceLost
  /-- SCHEDULE_DUE_RUN (R42). -/
  | scheduleDueRun
  /-- ANNOUNCE_EXPIRY (R49). -/
  | announceExpiry
  /-- FRESHNESS_LAPSE of the entry of an address (R56). -/
  | freshnessLapse (address : Nat)
  /-- RUN_STEP (R93). -/
  | runStep
  /-- KEY_DEBOUNCE_ESTABLISH (R64). -/
  | keyDebounceEstablish (key : Fin 8)
  /-- KEY_PRESS (R64). -/
  | keyPress (key : Fin 8)
  /-- KEY_RELEASE (R64). -/
  | keyRelease (key : Fin 8)
  /-- LEASE_END (R149). -/
  | leaseEnd (ax : Axis)
  /-- STALL (R156). -/
  | stall (ax : Axis)
  /-- BLANKING_END (R125). -/
  | blankingEnd (ax : Axis)
  /-- HOLD_OFF_END (R170). -/
  | holdOffEnd
  /-- FRAME_BEGIN: the bits read until the line is idle; the station then sends its start bit (R5). -/
  | frameBegin (bits : List LineBit)
  /-- CONTENTION_LOST (R6). -/
  | contentionLost (bits : List LineBit)
  /-- CONTENTION_WON (R6, R7). -/
  | contentionWon (bits : List LineBit)
  /-- BIT_ERROR (R8). -/
  | bitError (bits : List LineBit)
  /-- HEADER_END_LATCH (R7, R30). -/
  | headerEndLatch (bits : List LineBit)
  /-- SENDER_ENTERS_SLOT (R9). -/
  | senderEntersSlot (bits : List LineBit)
  /-- SLOT_END: the level read in the acknowledgment slot (R9). -/
  | slotEnd (level : LineBit)
  /-- START_BIT_READ: the last bit is the dominant one (R1). -/
  | startBitRead (bits : List LineBit)
  /-- FRAME_RECEIVE_INTACT (R10, R11, R12). -/
  | frameReceiveIntact (bits : List LineBit)
  /-- RECEIVE_ERROR (R10). -/
  | receiveError (bits : List LineBit)
  /-- INVALID_SOURCE_DISCARD (R10). -/
  | invalidSourceDiscard (bits : List LineBit)
  /-- DEFERRED_ERROR_COUNT: the last bit is the first recessive one (R8, R10). -/
  | deferredErrorCount (bits : List LineBit)
  /-- BEACON_RECEIVE of the beacon handed over (R31). -/
  | beaconReceive
  /-- ANNOUNCE_RECEIVE of the announcement handed over (R53). -/
  | announceReceive
  /-- SILENT_ENTRY (R16). -/
  | silentEntry
  /-- ALLSTOP_ENTRY: the last bit is the 40th dominant one (R17, R166). -/
  | allstopEntry (bits : List LineBit)
  /-- ALLSTOP_EXIT: the last bit is the tenth recessive one (R17, R168). -/
  | allstopExit (bits : List LineBit)
  /-- ESTOP_ASSERT: a sample reads ESTOP asserted (R18, R19). -/
  | estopAssert
  /-- ESTOP_RELEASE (R19). -/
  | estopRelease
  /-- TRAVEL_PULSE, read with the direction level high or low (R136). -/
  | travelPulse (ax : Axis) (high : Bool)
  /-- END_SWITCH_CHANGE of the plus or minus switch to active or inactive (R137). -/
  | endSwitchChange (ax : Axis) (which : Direction) (active : Bool)
  /-- SENSE_SAMPLE: the modulator bits a channel takes, oldest first (R117, R120). -/
  | senseSample (channel : Fin 4) (bits : List Bool)
  /-- OBSTRUCTION_SIGNAL (R153). -/
  | obstructionSignal (ax : Axis)
  /-- CLIP (R129). -/
  | clip (channel : Fin 4)
  /-- DECODE_TAKE (R63). -/
  | decodeTake
  /-- GOTO at its decode completion (R146). -/
  | goto
  /-- JOG at its decode completion (R148). -/
  | jog
  /-- JOG_RELEASE at its decode completion (R65). -/
  | jogRelease
  /-- STOP at its decode completion (R150). -/
  | stop
  /-- AXIS CLEAR at its decode completion (R152). -/
  | axisClear
  /-- REFERENCE at its decode completion (R151). -/
  | reference
  /-- TARE at its decode completion (R123). -/
  | tare
  /-- SCENE RECALL at its decode completion (R86). -/
  | sceneRecall
  /-- A key's group recall at its decode completion (R65). -/
  | groupRecallRequest
  /-- LEVEL SET at its decode completion (R87). -/
  | levelSet
  /-- LIGHTS ENABLE at its decode completion (R82). -/
  | lightsEnable
  /-- CHANNEL ENABLE at its decode completion (R83). -/
  | channelEnable
  /-- NIGHT SET at its decode completion (R88). -/
  | nightSet
  /-- NIGHT OFF at its decode completion (R89). -/
  | nightOff
  /-- RUN SET at its decode completion (R90). -/
  | runSet
  /-- RUN START at its decode completion (R91). -/
  | runStart
  /-- RUN STOP at its decode completion (R92). -/
  | runStop
  /-- SCENE TIME at its decode completion (R85). -/
  | sceneTime
  /-- ALARM CLEAR at its decode completion (R178). -/
  | alarmClear
  /-- MAP CLEAR at its decode completion (R37). -/
  | mapClear
  /-- RESTART at its decode completion (R78). -/
  | restart
  /-- READ with the selector AXIS (R162). -/
  | readAxis
  /-- READ with the selector SENSE (R130). -/
  | readSense
  /-- READ with the selector TIME (R38). -/
  | readTime
  /-- READ with the selector ALARMS (R180). -/
  | readAlarms
  /-- READ with the selector LIGHT (R101). -/
  | readLight
  /-- READ with the selector PEER (R58). -/
  | readPeer
  /-- READ with the selector SCENE (R102). -/
  | readScene
  /-- LEVEL WINDOW at its decode completion (R75). -/
  | levelWindow
  /-- LEVEL DATA at its decode completion (R76). -/
  | levelData
  /-- A class-4 entry at its decode completion (R68). -/
  | replyDiscard
  /-- A kind not taken in its class at its decode completion (R68). -/
  | unknownKind
deriving DecidableEq, Repr

end Sys2Proof
end

