-- ==== Sys2Proof/Decode.lean ====
section
/-! DEFINITION. The table gives no row any bits, so no word spells a command (notes/assumptions/29.md). -/

namespace Sys2Proof

/-- The command that the word `w` of `nbits` bits spells: none, since spec/opcode_table.json gives bits to no row. -/
def decodeTableWord (_nbits _w : Nat) : Option Instr := none

end Sys2Proof
end

