-- ==== Sys2Proof/Config.lean ====
section
/-! DEFINITION. What the configuration fixes from the end of LOADING until the next hard reset (R189, R197), with the
defaults an UNCONFIGURED or LISTEN-ONLY station takes in its place (R191). The spec calls no value undefined, so there
is no free value here. -/

namespace Sys2Proof

/-- Axis kind (R134, R198). -/
inductive AxisKind where
  | none
  | hatch
  | windlass
deriving DecidableEq, Repr

/-- Obstruction response (R153). -/
inductive Response where
  | stop
  | stopBackOff
deriving DecidableEq, Repr

/-- The directions an interlock term covers (R172). -/
inductive Scope where
  | plus
  | minus
  | both
deriving DecidableEq, Repr

/-- One interlock term (R172). A `damaged` term is never satisfied (R190). -/
structure Term where
  station : Nat
  flag : Nat
  required : Nat
  scope : Scope
  damaged : Bool
deriving DecidableEq, Repr

/-- The axis section of the image (08, R197). `bound` is the bound sense channel. -/
structure AxisConfig where
  kind : AxisKind
  travelMax : Nat
  runDuty : Nat
  creepDuty : Nat
  creepDistance : Nat
  rampUp : Nat
  rampDown : Nat
  startBlanking : Nat
  stallTime : Nat
  jogLease : Nat
  bound : Option (Fin 4)
  obstructionLimit : Nat
  persistence : Nat
  response : Response
  backOffDistance : Nat
  runShed : Nat
  terms : List Term
  holdMask : BitVec 23
deriving DecidableEq, Repr

/-- A sense section of the image (07, R197). `ratio` is R and `rate` is t. -/
structure SenseConfig where
  enabled : Bool
  ratio : Nat
  rate : Nat
  threshold : Int
deriving DecidableEq, Repr

/-- Key function (R65). The axis and direction codes are kept as the image gives them (notes/assumptions/16.md). -/
inductive KeyFunction where
  | none
  | inputOnly
  | sceneLocal (scene : Nat)
  | sceneGroup (scene group : Nat)
  | jog (axis direction : Byte)
  | stop (axis : Byte)
deriving DecidableEq, Repr

/-- Condition flag source (R46). -/
inductive FlagSource where
  | zero
  | key (k : Fin 8)
  | minusEnd (ax : Axis)
  | plusEnd (ax : Axis)
  | moving (ax : Axis)
  | sense (channel : Fin 4)
  | estop
deriving DecidableEq, Repr

/-- Axis action of a trigger row (R165). -/
inductive AxisAction where
  | none
  | stopImmediate
  | stopRamp
deriving DecidableEq, Repr

/-- Light action of a trigger row (R165). -/
inductive LightAction where
  | none
  | recall
deriving DecidableEq, Repr

/-- A row of the trigger table (R165). -/
structure TriggerRow where
  axisAction : AxisAction
  lightAction : LightAction
  holdOff : Nat
deriving DecidableEq, Repr

/-- The trigger table (R165). -/
structure TriggerTable where
  allstop : TriggerRow
  silent : TriggerRow
  erratic : TriggerRow
deriving DecidableEq, Repr

/-- The configuration a station works with. `budget` is B and `silentTime` is T of 01; `interval` is I of 03. -/
structure Configuration where
  beaconCapable : Bool
  budget : Nat
  silentTime : Nat
  interval : Nat
  powerGroup : Nat
  alertScene : Option (Fin 8)
  powerOnScene : Option (Fin 8)
  flagSources : Vector FlagSource 8
  reportMask : BitVec 23
  axisA : AxisConfig
  axisB : AxisConfig
  sense : Vector SenseConfig 4
  keys : Vector KeyFunction 8
  trigger : TriggerTable
deriving DecidableEq, Repr

/-- The section of the named axis. -/
def Configuration.axis (c : Configuration) : Axis → AxisConfig
  | .A => c.axisA
  | .B => c.axisB

/-- An axis of kind NONE; its other items are not used (R134, R191). -/
def AxisConfig.absent : AxisConfig :=
  { kind := .none, travelMax := 1, runDuty := 0, creepDuty := 0, creepDistance := 0, rampUp := 0, rampDown := 0,
    startBlanking := 0, stallTime := 5, jogLease := 10, bound := none, obstructionLimit := 0, persistence := 1,
    response := .stop, backOffDistance := 0, runShed := 0, terms := [], holdMask := 0 }

/-- A sense channel that is not enabled (R191). -/
def SenseConfig.absent : SenseConfig := { enabled := false, ratio := 16, rate := 0, threshold := 0 }

/-- The defaults taken in place of an image (R191, R165). -/
def Configuration.defaults : Configuration :=
  { beaconCapable := false, budget := 16, silentTime := 50, interval := 100, powerGroup := 0, alertScene := none,
    powerOnScene := none, flagSources := Vector.replicate 8 .zero, reportMask := 0, axisA := .absent,
    axisB := .absent, sense := Vector.replicate 4 .absent, keys := Vector.replicate 8 .none,
    trigger := { allstop := ⟨.stopImmediate, .none, 0⟩, silent := ⟨.none, .none, 0⟩,
                 erratic := ⟨.none, .none, 0⟩ } }

end Sys2Proof
end

