-- ==== Sys2Proof/Machine/State.lean ====
section
/-! DEFINITION. The state of the station, block by block as 00_scope.md lists them, and the state after reset. -/

namespace Sys2Proof.Machine

/-- Why the machine stops with a fault: never. The spec names no condition that stops the part, so nobody raises one;
this is safe, and notes/assumptions/28.md says so. -/
inductive Fault where
deriving DecidableEq, Repr

/-- Why a command has no meaning. -/
inductive Refusal where
  /-- Raised by an arm of `exec` whose command has no meaning yet; safe, since nothing can be proved of it. -/
  | notModelled (mnemonic : String)
deriving DecidableEq, Repr

/-! ## Alarms, outcomes and codes -/

/-- The 23 alarms (R174, R198). -/
inductive Alarm where
  | allstopSeen
  | silentSeen
  | erraticSeen
  | realigned
  | lateRun
  | scheduleLost
  | intakeFull
  | sendDrop
  | addressClash
  | rampShort
  | configBad
  | obstruction (ax : Axis)
  | stall (ax : Axis)
  | interlock (ax : Axis)
  | endConflict (ax : Axis)
  | clip (channel : Fin 4)
deriving DecidableEq, Repr

/-- Outcome codes (04, R198). -/
inductive Code where
  | ok
  | scheduled
  | late
  | stale
  | held
  | busy
  | interlocked
  | badParam
  | expired
  | full
  | notOwner
  | locked
  | absent
  | notReady
  | unknownKind
deriving DecidableEq, Repr

/-- Axis states (R139, R198). -/
inductive AxisState where
  | disabled
  | stopped
  | starting
  | running
  | stopping
  | reversing
  | held
  | fault
deriving DecidableEq, Repr

/-- Stop reasons (R160, R198). -/
inductive StopReason where
  | none
  | target
  | endReached
  | stopCmd
  | leaseEnd
  | obstruction
  | interlock
  | allstop
  | silent
  | erratic
  | stall
  | holdAlarm
  | endConflict
  | restart
deriving DecidableEq, Repr

/-- Lock states (R34). -/
inductive LockState where
  | free
  | locked
  | slewing
deriving DecidableEq, Repr

/-- Beacon engine states (R27). -/
inductive EngineState where
  | listener
  | standby
  | timekeeper
deriving DecidableEq, Repr

/-- Station states (R184). -/
inductive Station where
  | loading
  | configured
  | unconfigured
  | listenOnly
deriving DecidableEq, Repr

/-! ## Requests -/

/-- Who a request came from (R62): a peer's address, or a key. -/
inductive Source where
  | peer (address : Nat)
  | key
deriving DecidableEq, Repr

/-- How a request was addressed (R61). -/
inductive Addressing where
  | station
  | group (g : Nat)
  | all
deriving DecidableEq, Repr

/-- Where a GOTO goes (R146). -/
inductive Target where
  | position (p : Nat)
  | endPlus
  | endMinus
deriving DecidableEq, Repr

/-- A request that may carry an at byte, with its parameters as clamped (R39). -/
inductive Timed where
  | goto (ax : Axis) (target : Target) (token : Option Byte)
  | stop (ax : Axis)
  | sceneRecall (scene : Fin 8) (fade : Option Nat)
  | levelSet (channel : Option (Fin 24)) (level : Nat) (fade : Nat)
  | runStart
  | runStop
deriving DecidableEq, Repr

/-- A key's request (R65). -/
inductive KeyRequest where
  | recall (scene : Nat)
  | groupRecall (scene group : Nat)
  | jog (axis direction : Byte)
  | jogRelease (axis direction : Byte)
  | stop (axis : Byte)
deriving DecidableEq, Repr

/-- What a request asks: a frame's class, kind and payload, or one of the two requests that only a key makes. -/
inductive Body where
  | frame (cls kind : Nat) (payload : List Byte)
  | groupRecall (scene group : Nat)
  | jogRelease (axis direction : Byte)
deriving DecidableEq, Repr

/-- A request as the decoder holds it (R62). -/
structure Request where
  source : Source
  addressing : Addressing
  body : Body
deriving DecidableEq, Repr

/-! ## Line Unit -/

/-- Own-frame states (01, 1.2). -/
inductive OwnFrame where
  | none
  | contending
  | sending
  | slot
deriving DecidableEq, Repr

/-- Where the line stands for the station: outside a frame, in one, or at its acknowledgment slot (R1, R10). -/
inductive LinePlace where
  | outside
  | inFrame
  | slot
deriving DecidableEq, Repr

/-- A frame of the send queue (R20). An ANNOUNCE and a BEACON carry no payload until it is filled (R7, R30). -/
structure SendFrame where
  cls : Nat
  kind : Nat
  dest : Nat
  payload : Option (List Byte)
  onLine : Bool
deriving DecidableEq, Repr

/-- The Line Unit (R23). `errorOwed` is an error read on a dominant bit and not yet counted (R8, R10). -/
structure LineUnit where
  idleCount : Nat
  dominantCount : Nat
  allstop : Bool
  silent : Bool
  erratic : Bool
  estop : Bool
  releaseCount : Nat
  estopSeen : Bool
  own : OwnFrame
  place : LinePlace
  bits : List LineBit
  errorOwed : Bool
  ackDrive : Bool
  queue : List SendFrame
  refresh : Bool
  leaveOnLoss : Bool
  budget : Nat
  silence : Nat
deriving DecidableEq, Repr

/-! ## Time Base -/

/-- The station's own count at the header end of a class-2 frame, and the phase units since (R30, R35). -/
structure Latch where
  p : BitVec 16
  phi : Nat
  age : Nat
deriving DecidableEq, Repr

/-- The offset of the last beacon used for alignment (R36). -/
inductive LastDelta where
  | none
  | gross
  | value (d : Int)
deriving DecidableEq, Repr

/-- An entry of the schedule list (R39). -/
structure Entry where
  request : Timed
  source : Source
  addressing : Addressing
  due : BitVec 16
  order : Nat
deriving DecidableEq, Repr

/-- The Time Base (R44). `elapsed` is the number of phase units since the period opened; φ is read from it. -/
structure TimeBase where
  p : BitVec 16
  elapsed : Nat
  periodLength : Nat
  slew : Int
  lock : LockState
  engine : EngineState
  silenceTimer : Nat
  reference : Option Nat
  referenceAge : Nat
  latch : Option Latch
  arrivals : BitVec 16
  lastDelta : LastDelta
  schedule : List Entry
  nextOrder : Nat
deriving DecidableEq, Repr

/-! ## Peer Unit -/

/-- The parts of the own announce content whose change makes a request (R45, R48). -/
structure Content where
  flags : BitVec 8
  demand : Nat
  stateA : AxisState
  stateB : AxisState
  lock : LockState
  engine : EngineState
deriving DecidableEq, Repr

/-- A peer's last announcement as received, less the bits its layout does not assign (R53, R195). -/
structure PeerContent where
  role : BitVec 5
  group : BitVec 3
  demand : BitVec 2
  flags : BitVec 8
  interval : Nat
  stateA : Byte
  stateB : Byte
  alarmCount : Byte
  lock : BitVec 2
  engine : BitVec 2
deriving DecidableEq, Repr

/-- A peer table entry (R52). It is announced when it has a content. -/
structure PeerEntry where
  address : Nat
  content : Option PeerContent
  age : Nat
  fresh : Bool
  pinned : Bool
deriving DecidableEq, Repr

/-- The Peer Unit (R59). -/
structure PeerUnit where
  content : Content
  counter : Nat
  table : List PeerEntry
  shed : Nat
deriving DecidableEq, Repr

/-! ## Command Unit -/

/-- A debounced level or a sample of a key (R64). -/
inductive KeyLevel where
  | pressed
  | released
deriving DecidableEq, Repr

/-- A key record (R64, R66); an unknown level and a last sample of none are `none`. -/
structure KeyRecord where
  level : Option KeyLevel
  lastSample : Option KeyLevel
  count : Nat
  pending : Option KeyRequest
deriving DecidableEq, Repr

/-- The level window (R75). -/
structure Window where
  owner : Nat
  scene : Fin 8
  first : Nat
  last : Nat
  pointer : Nat
deriving DecidableEq, Repr

/-- An entry of the intake queue (R61); its addressing follows from the destination. -/
structure IntakeEntry where
  cls : Nat
  source : Nat
  dest : Nat
  kind : Nat
  payload : List Byte
deriving DecidableEq, Repr

/-- The request in flight and the phase units since it was taken (R62). -/
structure InFlight where
  request : Request
  age : Nat
deriving DecidableEq, Repr

/-- The Command Unit (R79). -/
structure CommandUnit where
  intake : List IntakeEntry
  decoder : Option InFlight
  keys : Vector KeyRecord 8
  window : Option Window
deriving DecidableEq, Repr

/-! ## Light Unit and Ramp Pool -/

/-- A channel's fade record (05). -/
structure Fade where
  start : Nat
  goal : Nat
  slot : Fin 16
deriving DecidableEq, Repr

/-- A channel record (05). -/
structure Channel where
  enabled : Bool
  level : Nat
  fade : Option Fade
  groups : BitVec 32
  lastScene : Option (Fin 8)
deriving DecidableEq, Repr

/-- A scene: a fade time and 24 levels, each present or absent (05, 5.3). -/
structure Scene where
  fadeTime : Nat
  levels : Vector (Option Nat) 24
deriving DecidableEq, Repr

/-- The night setting (R88). -/
structure Night where
  on : Bool
  first : Nat
  last : Nat
  cap : Nat
deriving DecidableEq, Repr

/-- The run region (R90). -/
structure RunRegion where
  head : Nat
  span : Nat
  tail : Nat
  steps : Nat
deriving DecidableEq, Repr

/-- The Light Unit (R103). -/
structure LightUnit where
  channels : Vector Channel 24
  master : Bool
  scenes : Vector Scene 8
  night : Night
  region : Option RunRegion
  stepping : Bool
  offset : Nat
  stepCount : Nat
  override : Bool
  outputs : Vector Nat 24
deriving DecidableEq, Repr

/-- Owner kind of a slot; a motor slot holds the two ends of its duty ramp (06). -/
inductive SlotOwner where
  | light
  | motor (ax : Axis) (start goal : Nat)
deriving DecidableEq, Repr

/-- What a busy slot holds (R105). A free slot is `none`. -/
structure Slot where
  owner : SlotOwner
  length : Nat
  elapsed : Nat
  members : Nat
deriving DecidableEq, Repr

/-! ## Sense Unit -/

/-- Channel states (R116). -/
inductive SenseState where
  | off
  | settling
  | running
deriving DecidableEq, Repr

/-- A sense channel (07, R132). -/
structure SenseChannel where
  state : SenseState
  bitCount : Nat
  i1 : BitVec 24
  i2 : BitVec 24
  i3 : BitVec 24
  v : BitVec 24
  c1 : BitVec 24
  c2 : BitVec 24
  settle : Nat
  sample : Int
  baseline : Int
  force : Int
  obstruction : Nat
  flag : Bool
  runLength : Nat
  lastBit : Bool
deriving DecidableEq, Repr

/-! ## Motion Unit -/

/-- How the current or last movement was started (08). -/
inductive Mode where
  | goto
  | jog
deriving DecidableEq, Repr

/-- A jog lease (R149). -/
structure Lease where
  holder : Source
  remaining : Nat
deriving DecidableEq, Repr

/-- An axis record (08). -/
structure AxisRecord where
  state : AxisState
  direction : Option Direction
  mode : Option Mode
  target : Option Target
  position : Nat
  referenced : Bool
  duty : Nat
  slot : Option (Fin 16)
  lease : Option Lease
  stallCount : Nat
  blanking : Nat
  backOff : Nat
  token : BitVec 8
  reason : StopReason
  peak : Nat
deriving DecidableEq, Repr

/-- The two axis records. -/
structure MotionUnit where
  a : AxisRecord
  b : AxisRecord
deriving DecidableEq, Repr

/-! ## Safety Unit -/

/-- What the Safety Unit keeps of one axis: its hold state, its term states and its permitted directions (09). -/
structure AxisSafety where
  held : Bool
  terms : List Bool
  plus : Bool
  minus : Bool
deriving DecidableEq, Repr

/-- The Safety Unit (R182). `raised` are alarms reported within the present command and not yet taken
(notes/assumptions/10.md); it is empty between commands. `within` says that further events of the present instant are still to
be taken within the present command, and that no end of a hold is reported before they are (R181, notes/assumptions/48.md); it
is false between commands. -/
structure SafetyUnit where
  holdOff : Nat
  a : AxisSafety
  b : AxisSafety
  alarms : BitVec 23
  count : BitVec 8
  raised : List Alarm
  within : Bool
deriving DecidableEq, Repr

/-! ## Start-up Loader, pins and the events owed -/

/-- The Start-up Loader (10). -/
structure Loader where
  station : Station
  address : Option Nat
  attempt : Nat
  staging : List Byte
  check : BitVec 16
deriving DecidableEq, Repr

/-- The input pins as last presented: an end switch is `true` while active, a key bit is the pin's level. -/
structure Pins where
  straps : BitVec 6
  keys : BitVec 8
  estop : Bool
  minusA : Bool
  plusA : Bool
  minusB : Bool
  plusB : Bool
deriving DecidableEq, Repr

/-- An event that has come about and that its own command has not yet carried out (notes/assumptions/3.md). `slotStep` is the
boundary's step of a slot, where some slot completes at that boundary; `obstruction` is the modulator bit at whose sample a
channel signals. -/
inductive Owed where
  | slotStep (slot : Fin 16)
  | silenceTimerExpiry
  | beaconOffer
  | referenceLost
  | scheduleDueRun
  | announceExpiry
  | freshnessLapse (address : Nat)
  | runStep
  | keyEstablish (key : Fin 8)
  | keyPress (key : Fin 8)
  | keyRelease (key : Fin 8)
  | leaseEnd (ax : Axis)
  | stall (ax : Axis)
  | blankingEnd (ax : Axis)
  | holdOffEnd
  | silentEntry
  | estopRelease
  | beacon (source : Nat) (pb : BitVec 16) (phib : Nat) (latch : Latch)
  | announce (source : Nat) (payload : List Byte)
  | obstruction (ax : Axis) (channel : Fin 4) (bit : Bool)
  | clip (channel : Fin 4)
deriving DecidableEq, Repr

/-- The whole station. -/
structure State where
  pending : List Instr
  inReset : Bool
  pins : Pins
  loader : Loader
  cfg : Configuration
  line : LineUnit
  time : TimeBase
  peer : PeerUnit
  cmd : CommandUnit
  light : LightUnit
  pool : Vector (Option Slot) 16
  sense : Vector SenseChannel 4
  motion : MotionUnit
  safety : SafetyUnit
  owed : List Owed
deriving DecidableEq, Repr

/-! ## The values after hard reset -/

/-- The Line Unit after hard reset (R23); N stands at the default budget until the end of loading
(notes/assumptions/8.md, DESIGN CHOICE, unsafe). -/
def LineUnit.cold : LineUnit :=
  { idleCount := 0, dominantCount := 0, allstop := false, silent := false, erratic := false, estop := false,
    releaseCount := 0, estopSeen := false, own := .none, place := .outside, bits := [], errorOwed := false,
    ackDrive := false, queue := [], refresh := false, leaveOnLoss := false, budget := 16, silence := 0 }

/-- The Time Base after hard reset (R44). The acceptance order of R39 counts from 0 without a bound, and a soft restart keeps
it (notes/assumptions/35.md, DESIGN CHOICE, safe). -/
def TimeBase.cold : TimeBase :=
  { p := 0, elapsed := 0, periodLength := 1000, slew := 0, lock := .free, engine := .listener, silenceTimer := 0,
    reference := none, referenceAge := 0, latch := none, arrivals := 0, lastDelta := .none, schedule := [],
    nextOrder := 0 }

/-- The Peer Unit after hard reset (R59). -/
def PeerUnit.cold : PeerUnit :=
  { content := { flags := 0, demand := 0, stateA := .disabled, stateB := .disabled, lock := .free,
                 engine := .listener },
    counter := 100, table := [], shed := 0 }

/-- A key record after hard reset (R79). -/
def KeyRecord.cold : KeyRecord := { level := none, lastSample := none, count := 0, pending := none }

/-- The Command Unit after hard reset (R79). -/
def CommandUnit.cold : CommandUnit :=
  { intake := [], decoder := none, keys := Vector.replicate 8 .cold, window := none }

/-- A light channel after hard reset (R103). -/
def Channel.cold : Channel := { enabled := true, level := 0, fade := none, groups := 0, lastScene := none }

/-- A scene after hard reset (R103). -/
def Scene.cold : Scene := { fadeTime := 0, levels := Vector.replicate 24 none }

/-- The Light Unit after hard reset (R103). -/
def LightUnit.cold : LightUnit :=
  { channels := Vector.replicate 24 .cold, master := true, scenes := Vector.replicate 8 .cold,
    night := { on := false, first := 0, last := 23, cap := 4095 }, region := none, stepping := false, offset := 0,
    stepCount := 0, override := false, outputs := Vector.replicate 24 0 }

/-- A sense channel after hard reset (R132). -/
def SenseChannel.cold : SenseChannel :=
  { state := .off, bitCount := 0, i1 := 0, i2 := 0, i3 := 0, v := 0, c1 := 0, c2 := 0, settle := 0, sample := 0,
    baseline := 0, force := 0, obstruction := 0, flag := false, runLength := 0, lastBit := false }

/-- The record of an axis of kind NONE (R163); it also stands while no record exists (notes/assumptions/9.md). -/
def AxisRecord.disabled : AxisRecord :=
  { state := .disabled, direction := none, mode := none, target := none, position := 0, referenced := false,
    duty := 0, slot := none, lease := none, stallCount := 0, blanking := 0, backOff := 0, token := 0,
    reason := .none, peak := 0 }

/-- An axis without terms: free, and permitted both ways (R173, R182). -/
def AxisSafety.cold : AxisSafety := { held := false, terms := [], plus := true, minus := true }

/-- The Safety Unit before its alarm set is formed (R182). -/
def SafetyUnit.cold : SafetyUnit :=
  { holdOff := 0, a := .cold, b := .cold, alarms := 0, count := 0, raised := [], within := false }

/-- The Start-up Loader at the strap read (R185): 1..62 is the station address and the image is read; 0 and 63
make the station LISTEN-ONLY, which reads no image; the attempt and the running check then stand at the values a read begins with
(notes/assumptions/51.md, DESIGN CHOICE, unsafe). -/
def Loader.cold (straps : BitVec 6) : Loader :=
  let listenOnly := straps == 0 || straps == 63
  { station := if listenOnly then .listenOnly else .loading,
    address := if listenOnly then none else some straps.toNat, attempt := 1, staging := [], check := 0xFFFF }

/-- Every block at its values after hard reset (R184), with the pins as they stand. A LISTEN-ONLY station is at its
end of LOADING in the same instant, and all the values it takes there are these (R185, R22, R51). -/
def State.cold (pins : Pins) : State :=
  { pending := [], inReset := false, pins := pins, loader := .cold pins.straps, cfg := .defaults, line := .cold,
    time := .cold, peer := .cold, cmd := .cold, light := .cold, pool := Vector.replicate 16 none,
    sense := Vector.replicate 4 .cold, motion := { a := .disabled, b := .disabled }, safety := .cold, owed := [] }

/-- Pins at rest: keys released, emergency stop released, end switches inactive, and the straps of the worked
start-up of 10, which read 27 (notes/assumptions/7.md, DESIGN CHOICE, unsafe). -/
def Pins.rest : Pins :=
  { straps := 27, keys := 0xFF, estop := false, minusA := false, plusA := false, minusB := false, plusB := false }

/-- The machine right after reset: LOADING, at the strap read, with no command waiting. -/
def State.reset : State := State.cold Pins.rest

end Sys2Proof.Machine
end

