-- ==== Sys2Proof/Machine/Bytes.lean ====
section
/-! DEFINITION. Bytes, 16-bit fields and bits of the formats: high byte first, most significant bit first (R192). -/

namespace Sys2Proof.Machine

/-- The low byte of a number. -/
def byteOf (n : Nat) : Byte := BitVec.ofNat 8 n

/-- A 16-bit field, high byte first (R192). -/
def word16 (n : Nat) : List Byte := [byteOf (n / 256), byteOf n]

/-- A signed field in 16-bit two's complement (R192). -/
def signed16 (i : Int) : List Byte := word16 (BitVec.ofInt 16 i).toNat

/-- A 24-bit field, high byte first (R192). -/
def word24 (n : Nat) : List Byte := [byteOf (n / 65536), byteOf (n / 256), byteOf n]

/-- A 32-bit field, high byte first (R192). -/
def word32 (n : Nat) : List Byte := [byteOf (n / 16777216), byteOf (n / 65536), byteOf (n / 256), byteOf n]

/-- Byte `i` of a payload or an image section. -/
def byteAt (bytes : List Byte) (i : Nat) : Byte := bytes.getD i 0

/-- The number in byte `i`. -/
def natAt (bytes : List Byte) (i : Nat) : Nat := (byteAt bytes i).toNat

/-- The 16-bit number whose high byte is byte `i` (R192). -/
def nat16At (bytes : List Byte) (i : Nat) : Nat := natAt bytes i * 256 + natAt bytes (i + 1)

/-- The 24-bit number whose high byte is byte `i` (R192). -/
def nat24At (bytes : List Byte) (i : Nat) : Nat := natAt bytes i * 65536 + nat16At bytes (i + 1)

/-- The 32-bit number whose high byte is byte `i` (R192). -/
def nat32At (bytes : List Byte) (i : Nat) : Nat := nat16At bytes i * 65536 + nat16At bytes (i + 2)

/-- The signed 16-bit number whose high byte is byte `i` (R192). -/
def int16At (bytes : List Byte) (i : Nat) : Int := (BitVec.ofNat 16 (nat16At bytes i)).toInt

/-- A flag as a number. -/
def bit (b : Bool) : Nat := if b then 1 else 0

/-- The bits of a word, most significant first. -/
def bitsOf {w : Nat} (x : BitVec w) : List Bool := (List.range w).map fun i => x.getMsbD i

/-- The number whose bits these are, most significant first. -/
def natOfBits (bits : List Bool) : Nat := bits.foldl (fun n b => 2 * n + bit b) 0

/-- The bits of a list of bytes in the order they are sent (R3). -/
def bitsOfBytes (bytes : List Byte) : List Bool := bytes.flatMap bitsOf

/-- The bytes whose bits these are; a last run of fewer than eight bits makes no byte. -/
def bytesOfBits : Nat → List Bool → List Byte
  | 0, _ => []
  | n + 1, bits => BitVec.ofNat 8 (natOfBits (bits.take 8)) :: bytesOfBits n (bits.drop 8)

/-- How many bits of a word are 1. -/
def popcount {w : Nat} (x : BitVec w) : Nat := ((List.range w).filter fun i => x.getLsbD i).length

end Sys2Proof.Machine
end

