-- ==== Sys2Proof/Machine/LineCode.lean ====
section
/-! DEFINITION. The coding of frames on the zone bus: header, check, transition insertion, and what a receiver and a
sender find in the bits they read (R2, R3, R4, R6, R8, R10). -/

namespace Sys2Proof.Machine

/-- One place of the check register (R4): 5935h is the generator without its leading term. -/
def crcStep (r : BitVec 16) (b : Bool) : BitVec 16 :=
  if r.msb != b then (r <<< 1) ^^^ 0x5935 else r <<< 1

/-- The check register after these bits, from a given start (R4). -/
def crcFrom (r : BitVec 16) (bits : List Bool) : BitVec 16 := bits.foldl crcStep r

/-- The check of a message (R4): the register starts at FFFFh. -/
def crc (bits : List Bool) : BitVec 16 := crcFrom 0xFFFF bits

/-- A frame's header fields and payload (R3). -/
structure Frame where
  cls : Nat
  source : Nat
  dest : Nat
  kind : Nat
  payload : List Byte
deriving DecidableEq, Repr

/-- The 25 header bits (R3, R192). -/
def Frame.header (f : Frame) : List Bool :=
  bitsOf (BitVec.ofNat 3 f.cls) ++ bitsOf (BitVec.ofNat 6 f.source) ++ bitsOf (BitVec.ofNat 7 f.dest)
    ++ bitsOf (BitVec.ofNat 5 f.kind) ++ bitsOf (BitVec.ofNat 4 f.payload.length)

/-- The bits the check is computed over (R4). -/
def Frame.message (f : Frame) : List Bool := f.header ++ bitsOfBytes f.payload

/-- The content of a frame: every bit from the start bit to the last check bit (R2, R3). -/
def Frame.content (f : Frame) : List Bool := false :: (f.message ++ bitsOf (crc f.message))

/-- Transition insertion (R2): `run` equal content bits of value `v` have been sent. After seven of them one bit of the
other value is sent, and counting resumes with the next content bit as a run of one. -/
def stuff (run : Nat) (v : Bool) : List Bool → List Bool
  | [] => []
  | b :: bs =>
    let run' := if 0 < run ∧ b = v then run + 1 else 1
    if run' = 7 then b :: (!b) :: stuff 0 b bs else b :: stuff run' b bs

/-- The line bits of a frame, up to its acknowledgment slot. -/
def Frame.lineBits (f : Frame) : List LineBit := stuff 0 false f.content

/-- What a receiver makes of line bits (R2): the content, and whether an inserted bit must follow, or the level at which
a coding error was found, with the bits after it. -/
inductive Unstuffed where
  | clean (content : List Bool) (owing : Bool)
  | broken (level : LineBit) (rest : List LineBit)
deriving DecidableEq, Repr

/-- Puts a content bit before what was read after it. -/
def Unstuffed.cons (b : Bool) : Unstuffed → Unstuffed
  | .clean content owing => .clean (b :: content) owing
  | .broken level rest => .broken level rest

/-- The receiver's count over the content it has read (R2). -/
def unstuff (run : Nat) (v : Bool) : List LineBit → Unstuffed
  | [] => .clean [] (run == 7)
  | b :: bs =>
    if run = 7 then (if b = v then .broken b bs else unstuff 0 b bs)
    else Unstuffed.cons b (unstuff (if 0 < run ∧ b = v then run + 1 else 1) b bs)

/-- What the bits read of one frame, from its start bit on, amount to (R10). -/
inductive Verdict where
  /-- nothing is found yet, or the bits run past the finding -/
  | undecided
  | illegalLength
  | codingError (level : LineBit)
  | badCheck
  | badSource
  | intact (f : Frame)
deriving DecidableEq, Repr

/-- The payload length the header of this content gives (R3). -/
def lengthField (content : List Bool) : Nat := natOfBits ((content.drop 22).take 4)

/-- The frame whose content this is (R3, R192). -/
def frameOfContent (content : List Bool) : Frame :=
  { cls := natOfBits ((content.drop 1).take 3), source := natOfBits ((content.drop 4).take 6),
    dest := natOfBits ((content.drop 10).take 7), kind := natOfBits ((content.drop 17).take 5),
    payload := bytesOfBits (lengthField content) (content.drop 26) }

/-- The tests of R10, each where it can be made. An inserted bit that follows the last check bit is read as part of the
check. -/
def judge (bits : List LineBit) : Verdict :=
  match unstuff 0 false bits with
  | .broken level rest => if rest = [] then .codingError level else .undecided
  | .clean content owing =>
    if content.length < 26 then .undecided
    else if 8 < lengthField content then (if content.length = 26 then .illegalLength else .undecided)
    else if content.length ≠ 42 + 8 * lengthField content ∨ owing then .undecided
    else if crc (content.drop 1) ≠ 0 then .badCheck
    else
      let f := frameOfContent content
      if f.source = 0 ∨ f.source = 63 then .badSource else .intact f

/-- How many content bits have been read. -/
def contentCount (bits : List LineBit) : Nat :=
  match unstuff 0 false bits with
  | .clean content _ => content.length
  | .broken _ _ => 0

/-- The class field of the frame whose bits these are (R3). -/
def classField (bits : List LineBit) : Nat :=
  match unstuff 0 false bits with
  | .clean content _ => natOfBits ((content.drop 1).take 3)
  | .broken _ _ => 0

/-- What a sender finds in the bits it reads while it sends (R6, R8). -/
inductive Heard where
  | agree
  | lost
  | mismatch (level : LineBit)
  | beyond
deriving DecidableEq, Repr

/-- Compares the bits read with the line bits of the frame being sent. A recessive content bit of the class or source
field read as dominant is a loss of contention (R6); every other mismatch is a bit error (R8). Bits that run past a
mismatch, or past the frame, are `beyond`. -/
def hear (sent read : List LineBit) : Heard :=
  if read.length ≤ sent.length ∧ sent.take read.length = read then .agree
  else if read.length ≤ sent.length ∧ sent.take (read.length - 1) = read.dropLast then
    let level := read.getLastD true
    match unstuff 0 false read.dropLast with
    | .clean content owing =>
      if !owing ∧ 1 ≤ content.length ∧ content.length ≤ 9 ∧ level = false then .lost else .mismatch level
    | .broken _ _ => .beyond
  else .beyond

end Sys2Proof.Machine
end

