-- ==== Sys2Proof/Machine/Ops.lean ====
section
/-! DEFINITION. The named operations over the state that every family of commands shares: reading and writing a block,
an axis and a slot; the alarm set; the hold causes; the send queue; the announce request. -/

namespace Sys2Proof.Machine

/-! ## Writing a block -/

def State.setLoader (s : State) (x : Loader) : State := { s with loader := x }
def State.setCfg (s : State) (x : Configuration) : State := { s with cfg := x }
def State.setPins (s : State) (x : Pins) : State := { s with pins := x }
def State.setLine (s : State) (x : LineUnit) : State := { s with line := x }
def State.setTime (s : State) (x : TimeBase) : State := { s with time := x }
def State.setPeer (s : State) (x : PeerUnit) : State := { s with peer := x }
def State.setCmd (s : State) (x : CommandUnit) : State := { s with cmd := x }
def State.setLight (s : State) (x : LightUnit) : State := { s with light := x }
def State.setPool (s : State) (x : Vector (Option Slot) 16) : State := { s with pool := x }
def State.setSense (s : State) (x : Vector SenseChannel 4) : State := { s with sense := x }
def State.setMotion (s : State) (x : MotionUnit) : State := { s with motion := x }
def State.setSafety (s : State) (x : SafetyUnit) : State := { s with safety := x }
def State.setOwed (s : State) (x : List Owed) : State := { s with owed := x }

/-! ## The station -/

/-- The station state (R184). -/
def State.station (s : State) : Station := s.loader.station

/-- The station decodes frames: it is past LOADING (R22). -/
def State.decodes (s : State) : Bool := s.station != .loading

/-- The station sends frames: CONFIGURED or UNCONFIGURED (R22). -/
def State.sends (s : State) : Bool := s.station == .configured || s.station == .unconfigured

/-- The phase φ: in a period of 1001 units it holds 999 for two (R25). -/
def State.phi (s : State) : Nat := min s.time.elapsed 999

/-- The low byte of P, as OUTCOME and the at byte name it (R40, R73). -/
def State.pLow (s : State) : Byte := s.time.p.setWidth 8

/-- The group membership: the union of the channels' group sets (R13). -/
def State.membership (s : State) : BitVec 32 := s.light.channels.toList.foldl (fun m c => m ||| c.groups) 0

/-! ## Axes -/

def AxisState.motorPowered : AxisState → Bool
  | .starting | .running | .stopping | .reversing => true
  | .disabled | .stopped | .held | .fault => false

/-- The record of an axis. -/
def State.axis (s : State) : Axis → AxisRecord
  | .A => s.motion.a
  | .B => s.motion.b

/-- Writes the record of an axis. -/
def State.setAxis (s : State) (ax : Axis) (r : AxisRecord) : State :=
  match ax with
  | .A => s.setMotion { s.motion with a := r }
  | .B => s.setMotion { s.motion with b := r }

/-- The configuration of an axis. -/
def State.axisCfg (s : State) (ax : Axis) : AxisConfig := s.cfg.axis ax

/-- What the Safety Unit keeps of an axis. -/
def State.axisSafety (s : State) : Axis → AxisSafety
  | .A => s.safety.a
  | .B => s.safety.b

/-- Writes what the Safety Unit keeps of an axis. -/
def State.setAxisSafety (s : State) (ax : Axis) (r : AxisSafety) : State :=
  match ax with
  | .A => s.setSafety { s.safety with a := r }
  | .B => s.setSafety { s.safety with b := r }

/-- The end switch of an axis on the pin, active or not. -/
def State.switchPin (s : State) : Axis → Direction → Bool
  | .A, .minus => s.pins.minusA
  | .A, .plus => s.pins.plusA
  | .B, .minus => s.pins.minusB
  | .B, .plus => s.pins.plusB

/-- Writes an end switch's pin. -/
def State.setSwitchPin (s : State) (ax : Axis) (d : Direction) (active : Bool) : State :=
  match ax, d with
  | .A, .minus => s.setPins { s.pins with minusA := active }
  | .A, .plus => s.setPins { s.pins with plusA := active }
  | .B, .minus => s.setPins { s.pins with minusB := active }
  | .B, .plus => s.setPins { s.pins with plusB := active }

/-- The end switch as the Motion Unit reads it (R134): the plus-end input of a HATCH only, the minus-end input of a
HATCH or a WINDLASS. -/
def State.switchRead (s : State) (ax : Axis) (d : Direction) : Bool :=
  match (s.axisCfg ax).kind, d with
  | .hatch, _ => s.switchPin ax d
  | .windlass, .minus => s.switchPin ax .minus
  | .windlass, .plus => false
  | .none, _ => false

/-- Both end switches of a HATCH are active (R138). -/
def State.inConflict (s : State) (ax : Axis) : Bool :=
  (s.axisCfg ax).kind == .hatch && s.switchRead ax .plus && s.switchRead ax .minus

/-- The motor duty pin (R135), in per mille. -/
def State.dutyPin (s : State) (ax : Axis) : Nat := (s.axis ax).duty

/-- The direction pin (R135): high for PLUS, low for MINUS or none. -/
def State.dirPin (s : State) (ax : Axis) : Bool := (s.axis ax).direction == some .plus

/-- The brake pin (R135): active, releasing the brake, while the axis is motor-powered. -/
def State.brakePin (s : State) (ax : Axis) : Bool := (s.axis ax).state.motorPowered

/-- The axis a sense channel is bound to (R116): the axis whose configuration names it, A before B. -/
def State.boundAxis (s : State) (channel : Fin 4) : Option Axis :=
  if s.cfg.axisA.bound = some channel then some .A
  else if s.cfg.axisB.bound = some channel then some .B else none

/-! ## The alarm set -/

/-- The alarm's code, its bit in the alarm set (R198). -/
def Alarm.code : Alarm → Nat
  | .allstopSeen => 0
  | .silentSeen => 1
  | .erraticSeen => 2
  | .realigned => 3
  | .lateRun => 4
  | .scheduleLost => 5
  | .intakeFull => 6
  | .sendDrop => 7
  | .addressClash => 8
  | .rampShort => 9
  | .configBad => 10
  | .obstruction .A => 11
  | .obstruction .B => 12
  | .stall .A => 13
  | .stall .B => 14
  | .interlock .A => 15
  | .interlock .B => 16
  | .endConflict .A => 17
  | .endConflict .B => 18
  | .clip n => 19 + n.val

/-- The 23 alarms in the order of their codes (R198). -/
def Alarm.all : List Alarm :=
  [.allstopSeen, .silentSeen, .erraticSeen, .realigned, .lateRun, .scheduleLost, .intakeFull, .sendDrop,
   .addressClash, .rampShort, .configBad, .obstruction .A, .obstruction .B, .stall .A, .stall .B, .interlock .A,
   .interlock .B, .endConflict .A, .endConflict .B, .clip 0, .clip 1, .clip 2, .clip 3]

/-- The alarm is a member of a mask or a set of alarms. -/
def Alarm.within (a : Alarm) (mask : BitVec 23) : Bool := mask.getLsbD a.code

/-- The set of one alarm. -/
def Alarm.mask (a : Alarm) : BitVec 23 := 1#23 <<< a.code

/-- The alarm stands set (R174). -/
def State.alarmSet (s : State) (a : Alarm) : Bool := a.within s.safety.alarms

/-- The alarm is set, or has been reported within the present command (R140, notes/assumptions/10.md). -/
def State.alarmCounts (s : State) (a : Alarm) : Bool := s.alarmSet a || s.safety.raised.contains a

/-- An owner reports an alarm (R174). The Safety Unit takes the report when the transition that makes it is done. -/
def State.raise (s : State) (a : Alarm) : State :=
  if s.safety.raised.contains a then s else s.setSafety { s.safety with raised := s.safety.raised ++ [a] }

/-- The hold causes present for an axis (R171): ALLSTOP, local emergency stop, hold-off, hold-mask alarm. -/
structure Causes where
  allstop : Bool
  estop : Bool
  holdOff : Bool
  alarm : Bool
deriving DecidableEq, Repr

/-- The hold causes present for an axis at this instant (R171). -/
def State.causes (s : State) (ax : Axis) : Causes :=
  { allstop := s.line.allstop, estop := s.line.estop, holdOff := 0 < s.safety.holdOff,
    alarm := Alarm.all.any fun a => a.within (s.axisCfg ax).holdMask && s.alarmCounts a }

def Causes.any (c : Causes) : Bool := c.allstop || c.estop || c.holdOff || c.alarm

/-- At least one hold cause is present for the axis (R171). -/
def State.heldNow (s : State) (ax : Axis) : Bool := (s.causes ax).any

/-! ## The send queue -/

def annCls : Nat := 5
def beaconCls : Nat := 2

/-- The frames that wait: those not on the line (R20). -/
def waiting (q : List SendFrame) : List SendFrame := q.filter fun f => !f.onLine

/-- The largest class number among frames. -/
def largestClass (q : List SendFrame) : Nat := q.foldl (fun m f => max m f.cls) 0

/-- Takes out the newest waiting frame of a class (R20). -/
def displace (cls : Nat) (q : List SendFrame) : List SendFrame :=
  (q.reverse.eraseP fun f => !f.onLine && f.cls == cls).reverse

/-- What the send queue becomes when a frame is offered to it, and whether one is dropped or displaced (R20). -/
def joinQueue (q : List SendFrame) (f : SendFrame) : List SendFrame × Bool :=
  if q.length < 8 then (q ++ [f], false)
  else if (waiting q).isEmpty || largestClass (waiting q) ≤ f.cls then (q, true)
  else (displace (largestClass (waiting q)) q ++ [f], true)

/-- Offers a frame to the send queue (R20). A LOADING or LISTEN-ONLY station discards it without SEND_DROP (R22). -/
def State.offer (s : State) (f : SendFrame) : State :=
  if s.sends then
    let (q, short) := joinQueue s.line.queue f
    let s' := s.setLine { s.line with queue := q }
    if short then s'.raise .sendDrop else s'
  else s

/-- The frame of an announcement; its payload is filled when it wins contention (R7, R21). -/
def announceFrame : SendFrame := { cls := annCls, kind := 1, dest := 127, payload := none, onLine := false }

/-- An announce request (R48, R49): the down-counter is loaded with I, and the queue answers by R21. A LOADING or
LISTEN-ONLY station makes none (R51). -/
def State.announceRequest (s : State) : State :=
  if s.sends then
    let s1 := s.setPeer { s.peer with counter := s.cfg.interval }
    match s1.line.queue.find? fun f => f.cls == annCls with
    | none => s1.offer announceFrame
    | some f =>
      if f.onLine && (s1.line.own == .sending || s1.line.own == .slot) then
        s1.setLine { s1.line with refresh := true }
      else s1
  else s

/-- Makes several announce requests, one for each part that changed (R48). -/
def State.announceRequests : Nat → State → State
  | 0, s => s
  | n + 1, s => State.announceRequests n s.announceRequest

/-- The frame on the line leaves the queue (R9), and a set refresh mark places a new ANNOUNCE (R21). -/
def State.leaveLine (s : State) : State :=
  let wasAnnounce := s.line.queue.any fun f => f.onLine && f.cls == annCls
  let s1 := s.setLine { s.line with queue := waiting s.line.queue, own := .none, leaveOnLoss := false }
  if wasAnnounce && s.line.refresh then (s1.setLine { s1.line with refresh := false }).offer announceFrame
  else s1

/-! ## Events owed -/

/-- Notes an event that its own command will carry out (notes/assumptions/3.md). -/
def State.owe (s : State) (o : Owed) : State := s.setOwed (s.owed ++ [o])

/-- Notes an event if its condition holds. -/
def State.oweIf (s : State) (c : Bool) (o : Owed) : State := if c then s.owe o else s

/-- An event is no longer owed. -/
def State.disown (s : State) (o : Owed) : State := s.setOwed (s.owed.erase o)

/-- What the first owed event of a kind does, which is then no longer owed. -/
def State.takeOwed (s : State) (kind : Owed → Bool) (step : Owed → State → State) : State :=
  match s.owed.find? kind with
  | some o => step o (s.disown o)
  | none => s

end Sys2Proof.Machine
end

