-- ==== Sys2Proof/Machine/Flags.lean ====
section
/-! DEFINITION. What the station computes from its state and announces or caps its lights by: condition flags, shed
demand, own content, interlock terms, effective shed level, caps and output values. -/

namespace Sys2Proof.Machine

/-! ## Codes (R198) -/

def kindCode : AxisKind → Nat
  | .none => 0
  | .hatch => 1
  | .windlass => 2

def AxisState.code : AxisState → Nat
  | .disabled => 0
  | .stopped => 1
  | .starting => 2
  | .running => 3
  | .stopping => 4
  | .reversing => 5
  | .held => 6
  | .fault => 7

def LockState.code : LockState → Nat
  | .free => 0
  | .locked => 1
  | .slewing => 2

def EngineState.code : EngineState → Nat
  | .listener => 0
  | .standby => 1
  | .timekeeper => 2

/-! ## The own announce content -/

/-- The value of a condition flag's source (R46). -/
def State.flagValue (s : State) : FlagSource → Bool
  | .zero => false
  | .key k => s.cmd.keys[k].level == some .pressed
  | .minusEnd ax => s.switchRead ax .minus
  | .plusEnd ax => s.switchRead ax .plus
  | .moving ax => (s.axis ax).state.motorPowered
  | .sense channel => s.sense[channel].flag
  | .estop => s.line.estop

/-- The eight condition flags, F0 in bit 0 (R46, R193). -/
def State.flagsNow (s : State) : BitVec 8 :=
  BitVec.ofNat 8 (natOfBits ((s.cfg.flagSources.toList.map s.flagValue).reverse))

/-- The run-shed demand an axis makes now (R47). -/
def State.axisDemand (s : State) (ax : Axis) : Nat :=
  if (s.axis ax).state.motorPowered then (s.axisCfg ax).runShed else 0

/-- The own shed demand (R47). -/
def State.demandNow (s : State) : Nat := max (s.axisDemand .A) (s.axisDemand .B)

/-- The parts of the own content whose change makes an announce request, as they stand (R48). -/
def State.contentNow (s : State) : Content :=
  { flags := s.flagsNow, demand := s.demandNow, stateA := s.motion.a.state, stateB := s.motion.b.state,
    lock := s.time.lock, engine := s.time.engine }

/-- How many parts differ between two contents; each condition flag is a part (R48). -/
def Content.changes (old new : Content) : Nat :=
  popcount (old.flags ^^^ new.flags) + bit (old.demand != new.demand) + bit (old.stateA != new.stateA)
    + bit (old.stateB != new.stateB) + bit (old.lock != new.lock) + bit (old.engine != new.engine)

/-- The Peer Unit takes the content as it stands; each part that changed makes one announce request (R48). -/
def State.syncContent (s : State) : State :=
  if s.contentNow = s.peer.content then s
  else State.announceRequests (s.peer.content.changes s.contentNow)
    (s.setPeer { s.peer with content := s.contentNow })

/-- The number of alarms set (R175). -/
def State.alarmNumber (s : State) : Nat := popcount s.safety.alarms

/-- Byte 0 of an announcement: the role (R193). -/
def State.roleByte (s : State) : Byte :=
  byteOf (kindCode s.cfg.axisA.kind + 4 * kindCode s.cfg.axisB.kind + 16 * bit s.cfg.beaconCapable)

/-- The payload of an announcement from the values current at the moment (R7, R45, R193). -/
def State.announcePayload (s : State) : List Byte :=
  [s.roleByte, byteOf (s.cfg.powerGroup + 16 * s.demandNow), s.flagsNow, byteOf s.cfg.interval,
   byteOf s.motion.a.state.code, byteOf s.motion.b.state.code, byteOf s.alarmNumber,
   byteOf (s.time.lock.code + 4 * s.time.engine.code)]

/-! ## Interlocks -/

/-- The term is satisfied (R172): its station's entry is fresh and the announced flag holds the required value. -/
def State.termSatisfied (s : State) (t : Term) : Bool :=
  !t.damaged && s.peer.table.any fun e =>
    e.address == t.station && e.fresh &&
      match e.content with
      | some c => bit (c.flags.getLsbD t.flag) == t.required
      | none => false

def scopeCovers : Scope → Direction → Bool
  | .both, _ => true
  | .plus, .plus => true
  | .plus, .minus => false
  | .minus, .plus => false
  | .minus, .minus => true

/-- Every term of the axis that covers the direction is satisfied (R173). -/
def State.permittedNow (s : State) (ax : Axis) (d : Direction) : Bool :=
  (s.axisCfg ax).terms.all fun t => !scopeCovers t.scope d || s.termSatisfied t

/-- The permitted directions as last evaluated (R173). -/
def AxisSafety.permitted (a : AxisSafety) : Direction → Bool
  | .plus => a.plus
  | .minus => a.minus

/-- Evaluates the terms of an axis and records its permitted directions (R173). -/
def State.evaluate (s : State) (ax : Axis) : State :=
  s.setAxisSafety ax { s.axisSafety ax with
    terms := (s.axisCfg ax).terms.map s.termSatisfied,
    plus := s.permittedNow ax .plus, minus := s.permittedNow ax .minus }

/-! ## The effective shed level -/

/-- The demand an entry makes of a station in this power group (R57). -/
def PeerEntry.demandIn (e : PeerEntry) (group : Nat) : Nat :=
  match e.content with
  | some c => if e.fresh && c.group.toNat == group then c.demand.toNat else 0
  | none => 0

/-- The effective shed level (R57). -/
def State.shedNow (s : State) : Nat :=
  s.peer.table.foldl (fun m e => max m (e.demandIn s.cfg.powerGroup)) s.demandNow

/-- The shed cap of a level (R57, R95). -/
def shedCap : Nat → Nat
  | 0 => 4095
  | 1 => 3072
  | 2 => 2048
  | _ => 1024

/-! ## Light outputs -/

/-- Channel `i` is inside the night area (R88). -/
def Night.inside (n : Night) (i : Nat) : Bool :=
  if n.first ≤ n.last then n.first ≤ i && i ≤ n.last else n.first ≤ i || i ≤ n.last

/-- The channel whose level channel `i` shows (R94). -/
def LightUnit.sourceChannel (l : LightUnit) (i : Fin 24) : Fin 24 :=
  match l.region with
  | none => i
  | some r =>
    if r.head ≤ i.val ∧ i.val < r.head + r.span then
      Fin.ofNat 24 (r.head + (i.val - r.head + l.offset) % r.span)
    else i

/-- The logical level (R94). -/
def LightUnit.logical (l : LightUnit) (i : Fin 24) : Nat := l.channels[l.sourceChannel i].level

/-- The cap of channel `i` under a shed level (R95). -/
def LightUnit.cap (l : LightUnit) (shed : Nat) (i : Fin 24) : Nat :=
  if l.night.on && !l.night.inside i.val then min (shedCap shed) l.night.cap else shedCap shed

/-- The output value of channel `i` (R95). -/
def LightUnit.compose (l : LightUnit) (shed : Nat) (i : Fin 24) : Nat :=
  if !l.channels[i].enabled || !l.master then 0
  else if l.override then l.logical i else min (l.logical i) (l.cap shed i)

/-- The effective shed level and the 24 output values take the values that belong to the state (R57, R96). -/
def State.publish (s : State) : State :=
  let s1 := s.setPeer { s.peer with shed := s.shedNow }
  s1.setLight { s1.light with outputs := Vector.ofFn fun i => s1.light.compose s1.peer.shed i }

end Sys2Proof.Machine
end

