-- ==== Sys2Proof/Machine/Pool.lean ====
section
/-! DEFINITION. The Ramp Pool and the changes of light levels that go through it (05, 06). -/

namespace Sys2Proof.Machine

/-- The value of a ramp after `n` of `T` steps: the division truncates toward zero (R108). -/
def interpolate (start goal n T : Nat) : Nat :=
  ((start : Int) + Int.tdiv (((goal : Int) - start) * n) T).toNat

/-- The lowest-numbered free slot (R106). -/
def freeSlot (pool : Vector (Option Slot) 16) : Option (Fin 16) :=
  (List.finRange 16).find? fun k => pool[k].isNone

/-- The channel is a member of slot `k` (R105). -/
def Channel.inSlot (c : Channel) (k : Fin 16) : Bool :=
  match c.fade with
  | some f => f.slot == k
  | none => false

/-- Gives slot `k` to a change; it takes its first step at the next boundary (R106, R110). -/
def State.giveSlot (s : State) (k : Fin 16) (slot : Slot) : State :=
  (s.setPool (s.pool.set k (some slot))).disown (.slotStep k)

/-- How many of the selected channels are members of slot `k`. -/
def State.leaving (s : State) (sel : Fin 24 → Bool) (k : Fin 16) : Nat :=
  ((List.finRange 24).filter fun i => sel i && s.light.channels[i].inSlot k).length

/-- The slot after `n` of its members have left; at a count of 0 it is free (R107). -/
def Slot.without (slot : Slot) (n : Nat) : Option Slot :=
  if n = 0 then some slot
  else if slot.members ≤ n then none else some { slot with members := slot.members - n }

/-- Every selected channel leaves any fade it is a member of (R107). -/
def State.leaveFades (s : State) (sel : Fin 24 → Bool) : State :=
  let pool := Vector.ofFn fun k => (s.pool[k]).bind fun slot => slot.without (s.leaving sel k)
  let channels := Vector.ofFn fun i =>
    if sel i then { s.light.channels[i] with fade := none } else s.light.channels[i]
  (s.setPool pool).setLight { s.light with channels := channels }

/-- A channel with a goal takes it as its level. -/
def Channel.take (c : Channel) : Option Nat → Channel
  | some g => { c with level := g }
  | none => c

/-- Each channel with a goal takes it as its level. -/
def State.takeLevels (s : State) (aims : Fin 24 → Option Nat) : State :=
  s.setLight { s.light with channels := Vector.ofFn fun i => s.light.channels[i].take (aims i) }

/-- A channel with a goal joins slot `k`, from the level it has. -/
def Channel.join (c : Channel) (k : Fin 16) : Option Nat → Channel
  | some g => { c with fade := some ⟨c.level, g, k⟩ }
  | none => c

/-- Each channel with a goal joins slot `k` (R81). -/
def State.joinSlot (s : State) (aims : Fin 24 → Option Nat) (k : Fin 16) : State :=
  s.setLight { s.light with channels := Vector.ofFn fun i => s.light.channels[i].join k (aims i) }

/-- How many channels have a goal. -/
def goalCount (aims : Fin 24 → Option Nat) : Nat := ((List.finRange 24).filter fun i => (aims i).isSome).length

/-- Gives a set of channels new goals with one fade time, as one change (R81, R106, R112). -/
def State.changeLevels (s : State) (aims : Fin 24 → Option Nat) (fade : Nat) : State :=
  if goalCount aims = 0 then s
  else
    let s1 := s.leaveFades fun i => (aims i).isSome
    if fade = 0 then s1.takeLevels aims
    else
      match freeSlot s1.pool with
      | some k =>
        (s1.giveSlot k { owner := .light, length := fade, elapsed := 0, members := goalCount aims }).joinSlot aims k
      | none => (s1.takeLevels aims).raise .rampShort

/-- Sets the last recalled scene of the channels with a goal. -/
def State.markScene (s : State) (aims : Fin 24 → Option Nat) (scene : Option (Fin 8)) : State :=
  let channels := Vector.ofFn fun i =>
    if (aims i).isSome then { s.light.channels[i] with lastScene := scene } else s.light.channels[i]
  s.setLight { s.light with channels := channels }

/-- The channels a request selects by its addressing (R80). -/
def State.selects (s : State) (addressing : Addressing) (i : Fin 24) : Bool :=
  match addressing with
  | .station | .all => true
  | .group g => s.light.channels[i].groups.getLsbD g

/-- The goals a scene gives to a selection (R86). -/
def State.sceneGoals (s : State) (scene : Fin 8) (sel : Fin 24 → Bool) : Fin 24 → Option Nat :=
  fun i => if sel i then s.light.scenes[scene].levels[i] else none

/-- Recalls a scene on a selection, with a fade override or the scene's own fade time (R86). -/
def State.recallScene (s : State) (scene : Fin 8) (sel : Fin 24 → Bool) (fade : Option Nat) : State :=
  let aims := s.sceneGoals scene sel
  (s.changeLevels aims (fade.getD s.light.scenes[scene].fadeTime)).markScene aims (some scene)

/-- Recalls the alert scene at once (step 3 of R97, R99). -/
def State.recallAlert (s : State) : State :=
  match s.cfg.alertScene with
  | some scene => s.recallScene scene (fun _ => true) (some 0)
  | none => s

/-- Run stepping becomes off, the offset and the step count 0; a run step owed at this boundary is not made
(R92, R97, R104). -/
def State.stopRun (s : State) : State :=
  (s.setLight { s.light with stepping := false, offset := 0, stepCount := 0 }).disown .runStep

/-- A member of slot `k` takes its goal as its level and has no fade. -/
def Channel.complete (c : Channel) (k : Fin 16) : Channel :=
  match c.fade with
  | some f => if f.slot = k then { c with level := f.goal, fade := none } else c
  | none => c

/-- The members of a LIGHT slot take their goals and it is free (R109, R113, R115). -/
def State.completeLight (s : State) (k : Fin 16) : State :=
  (s.setLight { s.light with channels := Vector.ofFn fun i => s.light.channels[i].complete k }).setPool
    (s.pool.set k none)

/-- The remaining periods of a LIGHT slot (R113). -/
def lightRemaining : Option Slot → Option Nat
  | some slot => if slot.owner = .light then some (slot.length - slot.elapsed) else none
  | none => none

/-- Of the slot found so far and slot `k`, the one with fewer remaining periods; at equal ones the former (R113). -/
def nearer (pool : Vector (Option Slot) 16) (best : Option (Fin 16 × Nat)) (k : Fin 16) : Option (Fin 16 × Nat) :=
  match lightRemaining pool[k], best with
  | some n, some (j, m) => if n < m then some (k, n) else some (j, m)
  | some n, none => some (k, n)
  | none, b => b

/-- The LIGHT slot a motor seizes: the fewest remaining periods, then the lowest number (R113). -/
def seizedSlot (pool : Vector (Option Slot) 16) : Option (Fin 16) :=
  ((List.finRange 16).foldl (nearer pool) none).map Prod.fst

/-- The slot of a motor ramp (R111). -/
def motorSlot (ax : Axis) (length start goal : Nat) : Slot :=
  { owner := .motor ax start goal, length := length, elapsed := 0, members := 1 }

/-- Slot `k` is given to an axis's ramp, whose duty is the start duty until the first step (R106, R111). -/
def State.giveMotor (s : State) (ax : Axis) (length start goal : Nat) (k : Fin 16) : State :=
  let s1 := s.giveSlot k (motorSlot ax length start goal)
  s1.setAxis ax { s1.axis ax with slot := some k, duty := start }

/-- An axis asks for a ramp slot of length 1 or more (R106, R111, R113). -/
def State.askMotor (s : State) (ax : Axis) (length start goal : Nat) : State :=
  match freeSlot s.pool with
  | some k => s.giveMotor ax length start goal k
  | none =>
    match seizedSlot s.pool with
    | some k => ((s.completeLight k).giveMotor ax length start goal k).raise .rampShort
    | none => s

/-- An axis releases its ramp slot, with no completion reported (R111). -/
def State.releaseSlot (s : State) (ax : Axis) : State :=
  match (s.axis ax).slot with
  | some k => (s.setPool (s.pool.set k none)).setAxis ax { s.axis ax with slot := none }
  | none => s

/-- The slot after a step that does not complete it (R108); a completion is R109's. -/
def Slot.stepped (slot : Slot) : Slot :=
  if slot.elapsed + 1 < slot.length then { slot with elapsed := slot.elapsed + 1 } else slot

/-- The slots that step, as they stand before the step. -/
def dueSlots (pool : Vector (Option Slot) 16) (due : Fin 16 → Bool) : Vector (Option Slot) 16 :=
  Vector.ofFn fun k => if due k then pool[k] else none

/-- The step count of a slot that steps without completing. -/
def stepsTo (stepping : Vector (Option Slot) 16) (k : Fin 16) : Option (Nat × Nat) :=
  match stepping[k] with
  | some slot => if slot.elapsed + 1 < slot.length then some (slot.elapsed + 1, slot.length) else none
  | none => none

/-- A channel's level at the boundary's step (R108). -/
def Channel.stepped (c : Channel) (stepping : Vector (Option Slot) 16) : Channel :=
  match c.fade with
  | some f =>
    match stepsTo stepping f.slot with
    | some (n, T) => { c with level := interpolate f.start f.goal n T }
    | none => c
  | none => c

/-- The duty a slot's step gives an axis (R108). -/
def motorStep (slot : Slot) (duty : Nat) : Nat :=
  match slot.owner with
  | .motor _ start goal =>
    if slot.elapsed + 1 < slot.length then interpolate start goal (slot.elapsed + 1) slot.length else duty
  | .light => duty

/-- An axis's duty at the boundary's step (R108). Only an axis that is motor-powered holds a slot (R111). -/
def AxisRecord.steppedDuty (r : AxisRecord) (stepping : Vector (Option Slot) 16) : Nat :=
  if r.state.motorPowered then
    match r.slot with
    | some k => (stepping[k].map fun slot => motorStep slot r.duty).getD r.duty
    | none => r.duty
  else r.duty

/-- The slots named step, those that do not complete; each sets its members' values (R108). -/
def State.stepSlots (s : State) (due : Fin 16 → Bool) : State :=
  let stepping := dueSlots s.pool due
  let motion : MotionUnit :=
    { a := { s.motion.a with duty := s.motion.a.steppedDuty stepping },
      b := { s.motion.b with duty := s.motion.b.steppedDuty stepping } }
  let channels := Vector.ofFn fun i => s.light.channels[i].stepped stepping
  let pool := Vector.ofFn fun k => if due k then s.pool[k].map Slot.stepped else s.pool[k]
  ((s.setMotion motion).setLight { s.light with channels := channels }).setPool pool

/-- The slot's next step is its last (R108, R109). -/
def State.lastStep (s : State) (k : Fin 16) : Bool :=
  match s.pool[k] with
  | some slot => slot.length ≤ slot.elapsed + 1
  | none => false

/-- The boundary's step of slot `k` has not been taken yet. -/
def State.stepDue (s : State) (k : Fin 16) : Bool := s.owed.contains (.slotStep k)

/-- The slots whose owed step completes them. -/
def State.completingSlots (s : State) : List (Fin 16) :=
  (List.finRange 16).filter fun k => s.stepDue k && s.lastStep k

/-- An owed step of a slot. -/
def isSlotStep : Owed → Bool
  | .slotStep _ => true
  | _ => false

/-- A busy slot steps at the boundary, unless it was given at the boundary's own instant (R108, R110). -/
def State.stepsNow (s : State) (given : List (Fin 16)) (k : Fin 16) : Bool :=
  match s.pool[k] with
  | some slot => !(given.contains k && slot.elapsed == 0)
  | none => false

/-- Every slot that steps at the boundary owes its step. A slot given from now on does not (R110). -/
def State.oweSteps (s : State) (given : List (Fin 16)) : State :=
  s.setOwed (s.owed ++ ((List.finRange 16).filter (s.stepsNow given)).map Owed.slotStep)

end Sys2Proof.Machine
end

