-- ==== Sys2Proof/Machine/Drives.lean ====
section
/-! DEFINITION. The transitions of an axis that its requests, its inputs and the Safety Unit share (08). -/

namespace Sys2Proof.Machine

/-- The obstruction count of the channel bound to an axis becomes 0 (R126). -/
def State.clearObstruction (s : State) (ax : Axis) : State :=
  s.setSense (Vector.ofFn fun c =>
    if s.boundAxis c = some ax then { s.sense[c] with obstruction := 0 } else s.sense[c])

/-- An axis enters a state (R139): its token steps, the Sense Unit clears its count at the end of a movement (R126), and
the Peer Unit takes the new content (R47, R48). An axis already in that state does not change. -/
def State.enter (s : State) (ax : Axis) (st : AxisState) : State :=
  let r := s.axis ax
  if r.state = st then s
  else
    let s1 := s.setAxis ax { r with state := st, token := r.token + 1 }
    let s2 := if r.state.motorPowered && !st.motorPowered then s1.clearObstruction ax else s1
    s2.syncContent

/-- Sets the last stop reason (R160). -/
def State.setReason (s : State) (ax : Axis) (reason : StopReason) : State :=
  s.setAxis ax { s.axis ax with reason := reason }

/-- The axis is cut (R140). -/
def State.cut (s : State) (ax : Axis) : State :=
  let s1 := s.releaseSlot ax
  s1.setAxis ax { s1.axis ax with duty := 0, lease := none, stallCount := 0, blanking := 0, backOff := 0 }

/-- The axis comes to rest (R140): cut, then HELD if a hold cause is present and STOPPED otherwise. -/
def State.rest (s : State) (ax : Axis) : State :=
  let s1 := s.cut ax
  s1.enter ax (if s1.heldNow ax then .held else .stopped)

/-- The axis comes to rest with a last stop reason. -/
def State.restFor (s : State) (ax : Axis) (reason : StopReason) : State := (s.setReason ax reason).rest ax

/-- The axis is cut and enters FAULT (R138, R155, R156). -/
def State.faultFor (s : State) (ax : Axis) (reason : StopReason) : State :=
  ((s.setReason ax reason).cut ax).enter ax .fault

/-- The remaining distance of a GOTO (R143). -/
def remaining (cfg : AxisConfig) (r : AxisRecord) : Nat :=
  match r.target with
  | some (.position p) => (p - r.position) + (r.position - p)
  | some .endMinus => r.position
  | some .endPlus => cfg.travelMax - r.position
  | none => 0

/-- A GOTO is within the creep distance; for an END target only when the axis is referenced (R142, R143). -/
def creeps (cfg : AxisConfig) (r : AxisRecord) : Bool :=
  r.mode == some .goto && remaining cfg r ≤ cfg.creepDistance &&
    match r.target with
    | some (.position _) => true
    | _ => r.referenced

/-- The duty of a movement outside its ramps: the creep duty within the creep distance, the run duty elsewhere; also the
starting goal (R142, R143). -/
def movingDuty (cfg : AxisConfig) (r : AxisRecord) : Nat := if creeps cfg r then cfg.creepDuty else cfg.runDuty

/-- The axis enters RUNNING at the completion of its ramp-up (R143). -/
def State.enterRunning (s : State) (ax : Axis) : State :=
  let r := s.axis ax
  (s.setAxis ax { r with slot := none, stallCount := 0, duty := movingDuty (s.axisCfg ax) r }).enter ax .running

/-- An axis in STARTING or RUNNING enters STOPPING (R145). With a ramp-down of 0 it passes to its rest state in the same
instant. The stall count is 0 in STOPPING (R156, notes/assumptions/13.md). -/
def State.enterStopping (s : State) (ax : Axis) (reason : StopReason) : State :=
  let s1 := s.releaseSlot ax
  let s2 := (s1.setAxis ax { s1.axis ax with reason := reason, lease := none, stallCount := 0 }).enter ax .stopping
  let length := (s2.axisCfg ax).rampDown
  if length = 0 then (s2.setAxis ax { s2.axis ax with duty := 0 }).rest ax
  else s2.askMotor ax length (s2.axis ax).duty 0

/-- An axis starts (R142). With a ramp-up of 0 it passes to RUNNING in the same instant. -/
def State.start (s : State) (ax : Axis) (direction : Direction) (mode : Mode) (target : Target)
    (lease : Option Lease) : State :=
  let cfg := s.axisCfg ax
  let r := { s.axis ax with
    direction := some direction, mode := some mode, target := some target, lease := lease, reason := .none,
    peak := 0, stallCount := 0, backOff := 0, blanking := cfg.startBlanking, duty := 0 }
  let s1 := (s.setAxis ax r).enter ax .starting
  if cfg.rampUp = 0 then s1.enterRunning ax else s1.askMotor ax cfg.rampUp 0 (movingDuty cfg r)

/-- The axis is in STARTING or RUNNING. -/
def AxisState.moves : AxisState → Bool
  | .starting | .running => true
  | .disabled | .stopped | .stopping | .reversing | .held | .fault => false

/-- An axis in STARTING or RUNNING enters STOPPING; any other is not changed (R145, R158, R159, R141). -/
def State.stopMoving (s : State) (reason : StopReason) (ax : Axis) : State :=
  if (s.axis ax).state.moves then s.enterStopping ax reason else s

/-- What a line stop order does to one axis (R157). -/
def State.lineStopAxis (s : State) (action : AxisAction) (ax : Axis) : State :=
  match (s.axis ax).state with
  | .starting | .running => if action = .stopRamp then s.enterStopping ax .allstop else s.restFor ax .allstop
  | .reversing => s.restFor ax .allstop
  | .stopping | .stopped | .held | .fault | .disabled => s

/-- A line stop order, with the axis action of the ALLSTOP row, to both axes (R157). Axis A asks the pool first
(notes/assumptions/38.md, DESIGN CHOICE, unsafe), and axis B takes the order before an alarm of axis A's part acts through a hold
mask (notes/assumptions/50.md, DESIGN CHOICE, unsafe). -/
def State.lineStop (s : State) : State :=
  let action := s.cfg.trigger.allstop.axisAction
  (s.lineStopAxis action .A).lineStopAxis action .B

/-- The row of SILENT or of ERRATIC is applied at the entry of its condition, to axis A before axis B (R158, R169, R99;
notes/assumptions/38.md, DESIGN CHOICE, unsafe), to the axes before the lights, where R165 lets either come first
(notes/assumptions/43.md, DESIGN CHOICE, unsafe), and before the condition's alarm, or one of axis A's part, acts
through a hold mask (notes/assumptions/46.md and 50.md, DESIGN CHOICE, unsafe). -/
def State.applyRow (s : State) (row : TriggerRow) (reason : StopReason) : State :=
  let s1 := if row.axisAction = .stopRamp then (s.stopMoving reason .A).stopMoving reason .B else s
  if row.lightAction = .recall then s1.recallAlert else s1

/-- The alert override comes into force and the alert scene is recalled at once (R97). -/
def State.beginOverride (s : State) : State :=
  let s1 := s.setLight { s.light with override := true }
  s1.stopRun.recallAlert

/-- The reason an axis reports when a permitted direction is lost in movement (R159). -/
def State.loseDirection (s : State) (ax : Axis) (d : Direction) : State :=
  if (s.axis ax).state.moves && (s.axis ax).direction == some d then
    (s.raise (.interlock ax)).enterStopping ax .interlock
  else s

/-- Evaluates the terms of an axis again and acts on each direction that ceases to be permitted (R173, R159). -/
def State.reevaluate (s : State) (ax : Axis) : State :=
  let before := s.axisSafety ax
  let s1 := s.evaluate ax
  let now := s1.axisSafety ax
  let s2 := if before.plus && !now.plus then s1.loseDirection ax .plus else s1
  if before.minus && !now.minus then s2.loseDirection ax .minus else s2

end Sys2Proof.Machine
end

