-- ==== Sys2Proof/Machine/Watch.lean ====
section
/-! DEFINITION. What the Safety Unit does at the end of every command: it takes the alarm reports, it re-evaluates the
holds, and the announced content, the effective shed level and the outputs follow (09; notes/assumptions/10.md and
18.md). Also the noise budget and the shape every command's meaning has. -/

namespace Sys2Proof.Machine

/-- A clear alarm is set: the change count steps, and an alarm of the report mask offers its notice (R174 to R176). -/
def State.setAlarm (s : State) (a : Alarm) : State :=
  let s1 := s.setSafety { s.safety with alarms := s.safety.alarms ||| a.mask, count := s.safety.count + 1 }
  if a.within s.cfg.reportMask then
    s1.offer { cls := 0, kind := 1, dest := 127, payload := some [byteOf a.code, s1.safety.count], onLine := false }
  else s1

/-- A hold-mask alarm is newly set: an axis in STARTING or RUNNING is stopped (R141, R179). -/
def State.newlySet (s : State) (a : Alarm) (ax : Axis) : State :=
  if a.within (s.axisCfg ax).holdMask then s.stopMoving .holdAlarm ax else s

/-- The Safety Unit takes one report, and stops axis A before axis B (R174, R179; notes/assumptions/38.md, DESIGN CHOICE,
unsafe). The order of a line condition's entry has reached both axes before its alarm is taken here (notes/assumptions/46.md,
DESIGN CHOICE, unsafe), and before any alarm that the order, a row or a peer report raises on axis A
(notes/assumptions/50.md, DESIGN CHOICE, unsafe). Before the alarm set is formed it keeps none (R182). -/
def State.takeReport (s : State) (a : Alarm) : State :=
  if s.station = .loading || s.alarmSet a then s
  else ((s.setAlarm a).newlySet a .A).newlySet a .B

/-- Says whether further events of the instant are still to be taken within the present command (R181). -/
def State.setWithin (s : State) (b : Bool) : State := s.setSafety { s.safety with within := b }

/-- The hold of an axis as it is reported: by its causes (R171), but that it does not end while further events of the instant
are to be taken (R181). -/
def State.holdOn (s : State) (ax : Axis) : Bool := s.heldNow ax || (s.safety.within && (s.axisSafety ax).held)

/-- The hold of an axis appears or disappears, and the axis follows (R171, R141). -/
def State.followHold (s : State) (ax : Axis) : State :=
  let now := s.holdOn ax
  let sf := s.axisSafety ax
  if sf.held = now then s
  else
    let s1 := s.setAxisSafety ax { sf with held := now }
    match (s1.axis ax).state, now with
    | .stopped, true => s1.enter ax .held
    | .held, false => s1.enter ax .stopped
    | _, _ => s1

/-- The held state of an axis is not the one its causes give. -/
def State.holdStale (s : State) (ax : Axis) : Bool := (s.axisSafety ax).held != s.holdOn ax

/-- What stands when nothing is left to take: no report waits, the content is held, and the holds are as their causes give
them. -/
def State.seal (s : State) : State :=
  let s1 := s.setSafety { s.safety with raised := [] }
  let s2 := s1.setPeer { s1.peer with content := s1.contentNow }
  s2.setSafety { s2.safety with
    a := { s2.safety.a with held := s2.holdOn .A }, b := { s2.safety.b with held := s2.holdOn .B } }

/-- Takes reports, content changes and hold changes until none is left. At most 23 reports wait and each of the 23 alarms is
set at most once, so the steps given suffice and the `seal` changes nothing. -/
def State.settle : Nat → State → State
  | 0, s => s.seal
  | n + 1, s =>
    let s1 := s.syncContent
    match s1.safety.raised with
    | a :: rest => State.settle n ((s1.setSafety { s1.safety with raised := rest }).takeReport a)
    | [] =>
      if s1.holdStale .A || s1.holdStale .B then State.settle n ((s1.followHold .A).followHold .B) else s1

/-- Everything that follows a change within its own instant has been taken. -/
def State.settled (s : State) : State := s.settle 128

/-- The end of every command that takes place: no further event of its instant is to be taken within it. -/
def State.finish (s : State) : State := (s.setWithin false).settled.publish

/-- The shape of every command: where its event can come about it takes effect, and the state is finished; elsewhere,
and while the station is held in reset (R184), nothing changes (notes/assumptions/2.md). -/
def event (s : State) (due : Bool) (effect : State) : Host.Outcome State Fault Refusal :=
  if !s.inReset && due then .next effect.finish else .next s

/-- One error is counted against the noise budget; at the decrement from 1 to 0 the station enters ERRATIC (R15), its row before
its alarm acts through a hold mask (notes/assumptions/46.md, DESIGN CHOICE, unsafe). -/
def State.countError (s : State) : State :=
  let n := s.line.budget
  let s1 := s.setLine { s.line with budget := n - 1 }
  if n = 1 then
    ((s1.setLine { s1.line with erratic := true }).raise .erraticSeen).applyRow s.cfg.trigger.erratic .erratic
  else s1

/-- One intact or acknowledged frame raises the noise budget; reaching B it ends ERRATIC (R15). -/
def State.credit (s : State) : State :=
  let n := min s.cfg.budget (s.line.budget + 1)
  s.setLine { s.line with budget := n, erratic := s.line.erratic && !(n == s.cfg.budget) }

end Sys2Proof.Machine
end

