-- ==== Sys2Proof/Machine/AxisEvents.lean ====
section
/-! DEFINITION. What reaches an axis from outside its requests: obstruction signals, travel pulses, end-switch changes,
and the ends of its ramp, lease, blanking and stall counts (08). -/

namespace Sys2Proof.Machine

/-! ## Obstruction (R153, R154, R155) -/

/-- The axis answers an obstruction with a back-off: a HATCH with STOP_BACK_OFF and a back-off distance (R154). -/
def backsOff (cfg : AxisConfig) : Bool :=
  cfg.kind == .hatch && cfg.response == .stopBackOff && 0 < cfg.backOffDistance

/-- The back-off of an axis begins (R154). -/
def State.backOff (s : State) (ax : Axis) : State :=
  let cfg := s.axisCfg ax
  let s1 := s.releaseSlot ax
  let r := s1.axis ax
  (s1.setAxis ax { r with
    lease := none, direction := r.direction.map Direction.reverse, duty := cfg.creepDuty,
    backOff := cfg.backOffDistance, stallCount := 0, reason := .obstruction }).enter ax .reversing

/-- An obstruction signal reaches an axis. OBSTRUCTION is reported, and counts as set for the rest state (R153). An axis at
rest is never signalled (R126). -/
def State.obstruct (s : State) (ax : Axis) : State :=
  match (s.axis ax).state with
  | .starting | .running =>
    if backsOff (s.axisCfg ax) then (s.raise (.obstruction ax)).backOff ax
    else (s.raise (.obstruction ax)).restFor ax .obstruction
  | .stopping => (s.raise (.obstruction ax)).restFor ax .obstruction
  | .reversing => (s.raise (.obstruction ax)).faultFor ax .obstruction
  | .stopped | .held | .fault | .disabled => s

/-! ## Travel pulses -/

/-- Position after a pulse, saturated at 0 and at travel maximum (R136). -/
def pulsed (travelMax position : Nat) (high : Bool) : Nat :=
  if high then min travelMax (position + 1) else position - 1

/-- The pulse is travel in this direction. -/
def pulseIn (d : Option Direction) (high : Bool) : Bool :=
  d == some (if high then .plus else .minus)

/-- The duty in RUNNING in GOTO mode follows the remaining distance (R143). -/
def State.creepSwitch (s : State) (ax : Axis) : State :=
  let r := s.axis ax
  if r.state == .running && r.mode == some .goto then s.setAxis ax { r with duty := movingDuty (s.axisCfg ax) r } else s

/-- A GOTO's position target is reached (R144). -/
def AxisRecord.onTarget (r : AxisRecord) : Bool :=
  r.mode == some .goto &&
    match r.target, r.direction with
    | some (.position p), some .plus => p ≤ r.position
    | some (.position p), some .minus => r.position ≤ p
    | _, _ => false

/-- A WINDLASS moving PLUS stands at travel maximum (R144). -/
def softLimit (cfg : AxisConfig) (r : AxisRecord) : Bool :=
  cfg.kind == .windlass && r.direction == some .plus && cfg.travelMax ≤ r.position

/-- A pulse of travel in the axis's direction is counted against the back-off, which ends at 0 (R155). -/
def State.countBackOff (s : State) (ax : Axis) : State :=
  let r := s.axis ax
  let n := r.backOff - 1
  let s1 := s.setAxis ax { r with backOff := n }
  if n = 0 then s1.rest ax else s1

/-- What follows from the new position of a moving axis: the arrivals of R144, the creep switch of R143 and the back-off
count of R155. Where target and soft limit are met together, END stands. -/
def State.afterPulse (s : State) (ax : Axis) (high : Bool) : State :=
  let r := s.axis ax
  match r.state with
  | .starting | .running =>
    if softLimit (s.axisCfg ax) r then s.restFor ax .endReached
    else if r.onTarget then s.restFor ax .target
    else s.creepSwitch ax
  | .stopping => if softLimit (s.axisCfg ax) r then s.restFor ax .endReached else s
  | .reversing => if pulseIn r.direction high then s.countBackOff ax else s
  | .stopped | .held | .fault | .disabled => s

/-- A pulse sets the stall count to 0 in RUNNING and REVERSING when it is travel in the axis's direction (R156). -/
def AxisRecord.stallAfter (r : AxisRecord) (high : Bool) : Nat :=
  if (r.state == .running || r.state == .reversing) && pulseIn r.direction high then 0 else r.stallCount

/-- One travel-sensor pulse (R136). -/
def State.pulse (s : State) (ax : Axis) (high : Bool) : State :=
  let r := s.axis ax
  (s.setAxis ax { r with
    position := pulsed (s.axisCfg ax).travelMax r.position high, stallCount := r.stallAfter high }).afterPulse ax high

/-- TRAVEL_PULSE (R136): a DISABLED axis reads none of its inputs (R134). -/
def execTravelPulse (ax : Axis) (high : Bool) (s : State) : Host.Outcome State Fault Refusal :=
  event s ((s.axis ax).state != .disabled) (s.pulse ax high)

/-! ## End switches -/

/-- The settings of R137 when a switch goes active. -/
def AxisRecord.atSwitch (r : AxisRecord) (cfg : AxisConfig) : Direction → AxisRecord
  | .minus => { r with position := 0, referenced := true }
  | .plus => { r with position := cfg.travelMax }

/-- Both switches of a HATCH are active: END_CONFLICT is reported and the axis enters FAULT; one in FAULT stays as it is
(R138). -/
def State.conflict (s : State) (ax : Axis) : State :=
  let s1 := s.raise (.endConflict ax)
  if (s1.axis ax).state = .fault then s1 else s1.faultFor ax .endConflict

/-- What the activation of a switch does to the movement (R144, R155, R143). -/
def State.afterSwitch (s : State) (ax : Axis) (which : Direction) : State :=
  let r := s.axis ax
  if r.direction = some which then
    match r.state with
    | .starting | .running | .stopping => s.restFor ax .endReached
    | .reversing => s.rest ax
    | .stopped | .held | .fault | .disabled => s
  else
    match r.state with
    | .starting | .running => if r.onTarget then s.restFor ax .target else s.creepSwitch ax
    | .stopping | .reversing | .stopped | .held | .fault | .disabled => s

/-- A switch that the axis reads goes active (R137, R138). An activation that is both an arrival and the second active switch
leads straight to FAULT, with one step of the token (notes/assumptions/37.md, DESIGN CHOICE, unsafe). -/
def State.activate (s : State) (ax : Axis) (which : Direction) : State :=
  let s1 := s.setAxis ax ((s.axis ax).atSwitch (s.axisCfg ax) which)
  if s1.inConflict ax then s1.conflict ax else s1.afterSwitch ax which

/-- END_SWITCH_CHANGE (R137). The pin shows the new level at any time; the Motion Unit acts on a change of an input that it
reads, once the axis record exists (R163). -/
def execEndSwitchChange (ax : Axis) (which : Direction) (active : Bool) (s : State) :
    Host.Outcome State Fault Refusal :=
  let s1 := s.setSwitchPin ax which active
  let acts := s1.switchRead ax which && !s.switchRead ax which && (s.axis ax).state != .disabled
  if s.inReset then .next s1 else .next (if acts then s1.activate ax which else s1).finish

/-! ## What a boundary brings to an axis -/

/-- A ramp completes: the members of a LIGHT slot take their goals; a motor takes its goal as duty, and enters RUNNING from
STARTING or its rest state from STOPPING (R109, R111, R143, R145). -/
def State.completeRamp (s : State) (k : Fin 16) : State :=
  match s.pool[k] with
  | some { owner := .light, .. } => s.completeLight k
  | some { owner := .motor ax _ goal, .. } =>
    let s1 := s.setPool (s.pool.set k none)
    let r := { s1.axis ax with slot := none, duty := goal }
    match r.state with
    | .starting => (s1.setAxis ax r).enterRunning ax
    | .stopping => (s1.setAxis ax r).rest ax
    | .running | .reversing | .stopped | .held | .fault | .disabled => s1
  | none => s

/-- The pool's stepping at a boundary: every slot that owes its step takes it, as one event, and those brought to their
ends complete (R108, R109, R110). -/
def State.takeSteps (s : State) : State :=
  s.completingSlots.foldl State.completeRamp ((s.stepSlots s.stepDue).setOwed (s.owed.filter fun o => !isSlotStep o))

/-- RAMP_COMPLETION (R109): the stepping that is owed, which is the whole pool's, with every completion in it (R110;
notes/assumptions/41.md, DESIGN CHOICE, safe). -/
def execRampCompletion (k : Fin 16) (s : State) : Host.Outcome State Fault Refusal :=
  event s (s.stepDue k) s.takeSteps

/-- A peer's lease at a boundary: the remaining periods after it (R149). -/
def AxisRecord.leaseAfter (r : AxisRecord) : Option Nat :=
  match r.lease with
  | some { holder := .peer _, remaining := n } => if r.state.moves then some (n - 1) else none
  | _ => none

/-- The lease takes the boundary's step; at 0 the axis enters STOPPING (R149). -/
def State.leaseStep (s : State) (ax : Axis) : State :=
  let r := s.axis ax
  match r.leaseAfter with
  | some 0 => s.enterStopping ax .leaseEnd
  | some n => s.setAxis ax { r with lease := r.lease.map fun l => { l with remaining := n } }
  | none => s

/-- LEASE_END (R149). -/
def execLeaseEnd (ax : Axis) (s : State) : Host.Outcome State Fault Refusal :=
  event s (s.owed.contains (.leaseEnd ax)) ((s.disown (.leaseEnd ax)).leaseStep ax)

/-- The stall count steps in RUNNING and REVERSING only (R156). -/
def AxisState.guarded : AxisState → Bool
  | .running | .reversing => true
  | .disabled | .stopped | .starting | .stopping | .held | .fault => false

/-- The stall count takes the boundary's step; at the stall time STALL is reported and the axis enters FAULT (R156). -/
def State.stallStep (s : State) (ax : Axis) : State :=
  let r := s.axis ax
  if !r.state.guarded then s
  else if r.stallCount + 1 < (s.axisCfg ax).stallTime then s.setAxis ax { r with stallCount := r.stallCount + 1 }
  else (s.raise (.stall ax)).faultFor ax .stall

/-- STALL (R156). -/
def execStall (ax : Axis) (s : State) : Host.Outcome State Fault Refusal :=
  event s (s.owed.contains (.stall ax)) ((s.disown (.stall ax)).stallStep ax)

/-- The blanking count takes the boundary's step while the axis is motor-powered (R142, R125). -/
def State.blankingStep (s : State) (ax : Axis) : State :=
  let r := s.axis ax
  if r.state.motorPowered then s.setAxis ax { r with blanking := r.blanking - 1 } else s

/-- BLANKING_END (R125). -/
def execBlankingEnd (ax : Axis) (s : State) : Host.Outcome State Fault Refusal :=
  event s (s.owed.contains (.blankingEnd ax)) ((s.disown (.blankingEnd ax)).blankingStep ax)

end Sys2Proof.Machine
end

