-- ==== Sys2Proof/Machine/Operands.lean ====
section
/-! DEFINITION. The operand forms of every request: which command completes it, and checks 1 to 3 of R67 with the
payload layouts of R194 and the clamps of R70. -/

namespace Sys2Proof.Machine

/-! ## Which command completes a request -/

/-- The selector code of a READ: bits 7..4 of byte 0 (R194). -/
def selectorCode (payload : List Byte) : Nat := natAt payload 0 / 16

/-- The command that completes a READ. A READ that names no selector of the table is completed as READ_AXIS, which
refuses it (R70; notes/assumptions/6.md, DESIGN CHOICE, safe). -/
def readRow (payload : List Byte) : Instr :=
  match selectorCode payload with
  | 1 => .readSense
  | 2 => .readTime
  | 3 => .readAlarms
  | 4 => .readLight
  | 5 => .readPeer
  | 6 => .readScene
  | _ => .readAxis

/-- The command at which a request's decode completes: check 1 of R67 sorts class and kind (R68, R198). -/
def completionOf (r : Request) : Instr :=
  match r.body with
  | .groupRecall _ _ => .groupRecallRequest
  | .jogRelease _ _ => .jogRelease
  | .frame cls kind payload =>
    match cls, kind with
    | 1, 1 => .goto
    | 1, 2 => .jog
    | 1, 3 => .stop
    | 1, 4 => .axisClear
    | 1, 5 => .reference
    | 1, 6 => .tare
    | 3, 1 => .sceneRecall
    | 3, 2 => .levelSet
    | 3, 3 => .lightsEnable
    | 3, 4 => .channelEnable
    | 3, 5 => .nightSet
    | 3, 6 => .nightOff
    | 3, 7 => .runSet
    | 3, 8 => .runStart
    | 3, 9 => .runStop
    | 3, 10 => .sceneTime
    | 3, 11 => .alarmClear
    | 3, 12 => .mapClear
    | 3, 13 => .restart
    | 3, 14 => readRow payload
    | 4, _ => .replyDiscard
    | 6, 1 => .levelWindow
    | 6, 2 => .levelData
    | _, _ => .unknownKind

/-- The payload of a frame request. -/
def Request.payload (r : Request) : List Byte :=
  match r.body with
  | .frame _ _ payload => payload
  | _ => []

/-- The class and kind a frame request echoes (R73). -/
def Request.clsKind (r : Request) : Nat × Nat :=
  match r.body with
  | .frame cls kind _ => (cls, kind)
  | _ => (0, 0)

/-! ## Parameters (R70) -/

/-- An axis code (R198). -/
def axisOf (b : Byte) : Option Axis := if b = 0 then some .A else if b = 1 then some .B else none

/-- A direction code (R198). -/
def directionOf (b : Byte) : Option Direction := if b = 0 then some .plus else if b = 1 then some .minus else none

/-- A code below a bound. -/
def codeBelow (n : Nat) [NeZero n] (b : Nat) : Option (Fin n) := if b < n then some (Fin.ofNat n b) else none

/-- An on/off byte (R194). -/
def onOff (b : Byte) : Option Bool := if b = 0 then some false else if b = 1 then some true else none

/-- A light level is clamped to 4095 (R70). -/
def clampLevel (n : Nat) : Nat := min n 4095

/-- A fade or scene time is clamped to 6000 (R70). -/
def clampFade (n : Nat) : Nat := min n 6000

/-- BAD_PARAM where a parameter is outside its table. -/
def orBad {α : Type} : Option α → Except Code α
  | some x => .ok x
  | none => .error .badParam

/-- BAD_PARAM unless a condition holds. -/
def need (c : Bool) : Except Code Unit := if c then .ok () else .error .badParam

/-- The axis a payload names: any other code is BAD_PARAM, an axis of kind NONE is ABSENT (R70). -/
def State.namedAxis (s : State) (b : Byte) : Except Code Axis :=
  match axisOf b with
  | none => .error .badParam
  | some ax => if (s.axisCfg ax).kind = .none then .error .absent else .ok ax

/-- The sense channel a payload names: outside 0..3 is BAD_PARAM, one not configured is ABSENT (R70). -/
def State.namedChannel (s : State) (b : Byte) : Except Code (Fin 4) :=
  match codeBelow 4 b.toNat with
  | none => .error .badParam
  | some c => if s.cfg.sense[c].enabled then .ok c else .error .absent

/-- An optional byte at the end of a payload. -/
def optByte (payload : List Byte) (i : Nat) : Option Byte := if i < payload.length then some (byteAt payload i) else none

/-! ## The layouts of R194 -/

/-- GOTO: axis, target type and markers, position, then the expected token and the at byte where marked. The range
checks come before the check that the axis is configured (notes/assumptions/12.md). -/
def parseGoto (s : State) (p : List Byte) : Except Code (Timed × Option Byte) := do
  let marker := natAt p 1
  let tok := marker / 128
  let due := marker / 64 % 2
  need (2 ≤ p.length && marker / 4 % 16 == 0 && p.length == 4 + tok + due)
  need (marker % 4 != 3)
  need (axisOf (byteAt p 0)).isSome
  let ax ← s.namedAxis (byteAt p 0)
  let cfg := s.axisCfg ax
  let target : Target :=
    match marker % 4 with
    | 0 => .position (min (nat16At p 2) cfg.travelMax)
    | 1 => if cfg.kind = .windlass then .position cfg.travelMax else .endPlus
    | _ => .endMinus
  let token := if tok = 1 then some (byteAt p 4) else none
  let atByte := if due = 1 then some (byteAt p (4 + tok)) else none
  .ok (.goto ax target token, atByte)

/-- JOG: axis, direction, and an optional expected token. -/
def parseJog (s : State) (p : List Byte) : Except Code (Axis × Direction × Option Byte) := do
  need (p.length == 2 || p.length == 3)
  need (axisOf (byteAt p 0)).isSome
  let d ← orBad (directionOf (byteAt p 1))
  let ax ← s.namedAxis (byteAt p 0)
  .ok (ax, d, optByte p 2)

/-- STOP: axis, and an optional at byte. -/
def parseStop (s : State) (p : List Byte) : Except Code (Timed × Option Byte) := do
  need (p.length == 1 || p.length == 2)
  let ax ← s.namedAxis (byteAt p 0)
  .ok (.stop ax, optByte p 1)

/-- AXIS CLEAR: axis, and an optional expected token. -/
def parseAxisClear (s : State) (p : List Byte) : Except Code (Axis × Option Byte) := do
  need (p.length == 1 || p.length == 2)
  let ax ← s.namedAxis (byteAt p 0)
  .ok (ax, optByte p 1)

/-- REFERENCE: axis, position, and an optional expected token. -/
def parseReference (s : State) (p : List Byte) : Except Code (Axis × Nat × Option Byte) := do
  need (p.length == 3 || p.length == 4)
  let ax ← s.namedAxis (byteAt p 0)
  .ok (ax, nat16At p 1, optByte p 3)

/-- TARE: sense channel. -/
def parseTare (s : State) (p : List Byte) : Except Code (Fin 4) := do
  need (p.length == 1)
  s.namedChannel (byteAt p 0)

/-- SCENE RECALL: scene; its length tells the fade override and the at byte. -/
def parseSceneRecall (p : List Byte) : Except Code (Timed × Option Byte) := do
  need (1 ≤ p.length && p.length ≤ 4)
  let scene ← orBad (codeBelow 8 (natAt p 0))
  let fade := if 3 ≤ p.length then some (clampFade (nat16At p 1)) else none
  let atByte := if p.length = 2 then some (byteAt p 1) else if p.length = 4 then some (byteAt p 3) else none
  .ok (.sceneRecall scene fade, atByte)

/-- LEVEL SET: channel or 255, level, fade periods, and an optional at byte. -/
def parseLevelSet (p : List Byte) : Except Code (Timed × Option Byte) := do
  need (p.length == 5 || p.length == 6)
  let c := natAt p 0
  need (c < 24 || c == 255)
  .ok (.levelSet (codeBelow 24 c) (clampLevel (nat16At p 1)) (clampFade (nat16At p 3)), optByte p 5)

/-- LIGHTS ENABLE: off or on. -/
def parseLightsEnable (p : List Byte) : Except Code Bool := do
  need (p.length == 1)
  orBad (onOff (byteAt p 0))

/-- CHANNEL ENABLE: the 24 channel flags, L0 in bit 0, and off or on. -/
def parseChannelEnable (p : List Byte) : Except Code (BitVec 24 × Bool) := do
  need (p.length == 4)
  let on ← orBad (onOff (byteAt p 3))
  .ok (BitVec.ofNat 24 (nat24At p 0), on)

/-- NIGHT SET: ps, pe, night cap. -/
def parseNightSet (p : List Byte) : Except Code Night := do
  need (p.length == 4)
  need (natAt p 0 < 24 && natAt p 1 < 24)
  .ok { on := true, first := natAt p 0, last := natAt p 1, cap := clampLevel (nat16At p 2) }

/-- NIGHT OFF, MAP CLEAR and RESTART carry nothing. -/
def parseNothing (p : List Byte) : Except Code Unit := need p.isEmpty

/-- RUN SET: H, V, T and the step periods, with the first row of R90's checks. -/
def parseRunSet (p : List Byte) : Except Code RunRegion := do
  need (p.length == 4)
  let r : RunRegion := { head := natAt p 0, span := natAt p 1, tail := natAt p 2, steps := natAt p 3 }
  need (r.head + r.span + r.tail == 24 && 2 ≤ r.span && 1 ≤ r.steps && r.steps ≤ 250)
  .ok r

/-- RUN START and RUN STOP: an optional at byte. -/
def parseRun (request : Timed) (p : List Byte) : Except Code (Timed × Option Byte) := do
  need (p.length ≤ 1)
  .ok (request, optByte p 0)

/-- SCENE TIME: scene, fade time. -/
def parseSceneTime (p : List Byte) : Except Code (Fin 8 × Nat) := do
  need (p.length == 3)
  let scene ← orBad (codeBelow 8 (natAt p 0))
  .ok (scene, clampFade (nat16At p 1))

/-- ALARM CLEAR: 24 flags, bit 23 naming no alarm, and an optional expected change count (R178). -/
def parseAlarmClear (p : List Byte) : Except Code (BitVec 23 × Option Byte) := do
  need (p.length == 3 || p.length == 4)
  need (nat24At p 0 < 2 ^ 23)
  .ok (BitVec.ofNat 23 (nat24At p 0), optByte p 3)

/-- LEVEL WINDOW: scene, first and last channel (R75). -/
def parseLevelWindow (p : List Byte) : Except Code (Fin 8 × Nat × Nat) := do
  need (p.length == 3)
  let scene ← orBad (codeBelow 8 (natAt p 0))
  need (natAt p 1 ≤ natAt p 2 && natAt p 1 ≤ 23)
  .ok (scene, natAt p 1, natAt p 2)

/-- LEVEL DATA: the values in the order they stand (R76). -/
def levelValues : List Byte → List Nat
  | hi :: lo :: rest => (hi.toNat * 256 + lo.toNat) :: levelValues rest
  | _ => []

/-- READ: part in bits 2..0 of byte 0, and the argument (R194, R196). The part must be one of the selector's. -/
def parseRead (selector parts : Nat) (p : List Byte) : Except Code (Nat × Byte) := do
  need (p.length == 2)
  need (selectorCode p == selector)
  need (natAt p 0 % 8 < parts)
  .ok (natAt p 0 % 8, byteAt p 1)

end Sys2Proof.Machine
end

