-- ==== Sys2Proof/Machine/Replies.lean ====
section
/-! DEFINITION. What all requests have in common: the end of a decode, the replies, availability, tokens, the at byte and
the schedule list (02, 2.5; 04). -/

namespace Sys2Proof.Machine

/-! ## Replies -/

/-- Outcome codes (R198). -/
def Code.code : Code → Nat
  | .ok => 0
  | .scheduled => 1
  | .late => 2
  | .stale => 3
  | .held => 4
  | .busy => 5
  | .interlocked => 6
  | .badParam => 7
  | .expired => 8
  | .full => 9
  | .notOwner => 10
  | .locked => 11
  | .absent => 12
  | .notReady => 13
  | .unknownKind => 14

/-- The count an OUTCOME carries and its marker: an axis's token, or the alarm change count (R73, R193). -/
def State.replyCount (s : State) : Option Axis → Nat × Byte
  | none => (0, s.safety.count)
  | some .A => (1, s.motion.a.token)
  | some .B => (2, s.motion.b.token)

/-- An OUTCOME frame (R73, R193). -/
def State.outcomeFrame (s : State) (dest cls kind : Nat) (named : Option Axis) (code : Code) (deferred : Bool) :
    SendFrame :=
  let (marker, count) := s.replyCount named
  { cls := 4, kind := 1, dest := dest, onLine := false,
    payload := some [byteOf (32 * cls + kind), byteOf (code.code + 32 * marker + 128 * bit deferred), count, s.pLow] }

/-- The axis whose token a reply carries: the kind names an axis and the axis code is A or B (R73). -/
def Request.named (r : Request) : Option Axis :=
  match r.body with
  | .frame 1 kind (b :: _) => if 1 ≤ kind ∧ kind ≤ 5 then axisOf b else none
  | _ => none

/-- Offers the OUTCOME of a station-addressed request from a peer; a key's request, and one that was group- or
all-addressed, receives none (R73). -/
def State.reply (s : State) (r : Request) (code : Code) : State :=
  match r.source, r.addressing with
  | .peer a, .station => s.offer (s.outcomeFrame a r.clsKind.1 r.clsKind.2 r.named code false)
  | _, _ => s

/-- Answers a request: a failed check of form and range gives its code (R67, R70); otherwise the request runs, all that
follows from it in its instant is taken, and its outcome is sent (R73). -/
def respond {α : Type} (r : Request) (parsed : Except Code α) (run : α → State → Code × State) (s : State) : State :=
  match parsed with
  | .error code => s.reply r code
  | .ok x => ((run x s).2.settled).reply r (run x s).1

/-- A kind that acts only when station-addressed is discarded otherwise (R69). -/
def stationOnly (r : Request) (answered : State) (s : State) : State :=
  if r.addressing = .station then answered else s

/-! ## The end of a decode -/

/-- The window is closed by the completion of a request from its owner, other than LEVEL DATA and a class-4 entry (R77). -/
def closesWindow (r : Request) (w : Window) : Bool :=
  match r.source, r.body with
  | .peer a, .frame cls kind _ => a == w.owner && !(cls == 6 && kind == 2) && cls != 4
  | _, _ => false

/-- The decoder returns to IDLE (R62), and the level window is treated by R77. -/
def State.endDecode (s : State) (r : Request) : State :=
  s.setCmd { s.cmd with
    decoder := none,
    window := s.cmd.window.filter fun w => !closesWindow r w }

/-- A completion command takes place when the request in flight is one of its kind (R62, R67). -/
def completing (s : State) (row : Instr) (act : Request → State → State) : Host.Outcome State Fault Refusal :=
  match s.cmd.decoder with
  | some f => event s (completionOf f.request == row) (act f.request (s.endDecode f.request))
  | none => .next s

/-! ## Availability and tokens -/

/-- GOTO, JOG, REFERENCE and AXIS CLEAR are held (R71). -/
def State.motionHeld (s : State) : Bool := s.line.allstop || s.line.estop || 0 < s.safety.holdOff

/-- The lighting kinds are held (R71). -/
def State.lightingHeld (s : State) : Bool := s.line.allstop && s.cfg.trigger.allstop.lightAction == .recall

/-- An expected token that differs from the current one (R72). -/
def stale (expected : Option Byte) (current : Byte) : Bool :=
  match expected with
  | some t => t != current
  | none => false

/-- Checks 5 and 6 of R67: HELD, then STALE. -/
def admission (held isStale : Bool) : Option Code :=
  if held then some .held else if isStale then some .stale else none

/-- Checks 5 and 6 of a request that may carry an at byte (R40, R71, R72). -/
def State.admits (s : State) : Timed → Option Code
  | .goto ax _ token => admission s.motionHeld (stale token (s.axis ax).token)
  | .stop _ => none
  | .sceneRecall _ _ | .levelSet _ _ _ | .runStart | .runStop => admission s.lightingHeld false

/-! ## The blocks' own checks and effects -/

/-- The direction a GOTO needs (R146). -/
def neededDirection (target : Target) (position : Nat) : Direction :=
  match target with
  | .position p => if position < p then .plus else .minus
  | .endPlus => .plus
  | .endMinus => .minus

/-- There is nothing to do for a GOTO, and the reason it then records (R146). -/
def State.nothingToDo (s : State) (ax : Axis) (target : Target) : Option StopReason :=
  let r := s.axis ax
  if target = .position r.position then some .target
  else if s.switchRead ax (neededDirection target r.position) then some .endReached
  else none

/-- GOTO at the Motion Unit (R146, R147). -/
def State.runGoto (s : State) (ax : Axis) (target : Target) : Code × State :=
  let r := s.axis ax
  match r.state with
  | .starting | .running | .stopping | .reversing => (.busy, s)
  | .held => (.held, s)
  | .fault => (.notReady, s)
  | .disabled => (.absent, s)
  | .stopped =>
    if !r.referenced && (match target with | .position _ => true | _ => false) then (.notReady, s)
    else
      match s.nothingToDo ax target with
      | some reason => (.ok, s.setAxis ax { r with target := some target, reason := reason })
      | none =>
        let d := neededDirection target r.position
        if (s.axisSafety ax).permitted d then (.ok, s.start ax d .goto target none) else (.interlocked, s)

/-- STOP at the Motion Unit (R150). -/
def State.stopAxis (s : State) (ax : Axis) : State :=
  match (s.axis ax).state with
  | .starting | .running => s.enterStopping ax .stopCmd
  | .reversing => s.restFor ax .stopCmd
  | .stopping | .stopped | .held | .fault | .disabled => s

/-- LEVEL SET at the Light Unit (R87, R80). -/
def State.runLevelSet (s : State) (addressing : Addressing) (channel : Option (Fin 24)) (level fade : Nat) : State :=
  let aims : Fin 24 → Option Nat := fun i =>
    if s.selects addressing i && (channel == none || channel == some i) then some level else none
  (s.changeLevels aims fade).markScene aims none

/-- RUN START at the Light Unit (R91). It makes no step at the boundary it acts at. -/
def State.runRunStart (s : State) : Code × State :=
  match s.light.region with
  | none => (.notReady, s)
  | some _ =>
    (.ok, (s.setLight { s.light with stepping := true, offset := 0, stepCount := 0 }).disown .runStep)

/-- Check 7 of R67 and the effect of a request that may carry an at byte. -/
def State.act (s : State) (addressing : Addressing) : Timed → Code × State
  | .goto ax target _ => s.runGoto ax target
  | .stop ax => (.ok, s.stopAxis ax)
  | .sceneRecall scene fade => (.ok, s.recallScene scene (s.selects addressing) fade)
  | .levelSet channel level fade => (.ok, s.runLevelSet addressing channel level fade)
  | .runStart => s.runRunStart
  | .runStop => (.ok, s.stopRun)

/-- Checks 5, 6 and 7 with the effect (R67, R42). -/
def State.perform (s : State) (addressing : Addressing) (request : Timed) : Code × State :=
  match s.admits request with
  | some code => (code, s)
  | none => s.act addressing request

/-! ## The at byte and the schedule list -/

/-- The due distance (R39). -/
def Entry.distance (e : Entry) (p : BitVec 16) : Nat := (e.due - p).toNat

/-- Places an entry by due distance, after the entries with the same due period (R39). -/
def insertEntry (p : BitVec 16) (e : Entry) : List Entry → List Entry
  | [] => [e]
  | x :: xs => if x.distance p ≤ e.distance p then x :: insertEntry p e xs else e :: x :: xs

/-- An entry joins the schedule list (R39, R40). -/
def State.schedule (s : State) (request : Timed) (source : Source) (addressing : Addressing) (k : Nat) : State :=
  let e : Entry := { request := request, source := source, addressing := addressing,
                     due := s.time.p + BitVec.ofNat 16 k, order := s.time.nextOrder }
  s.setTime { s.time with schedule := insertEntry s.time.p e s.time.schedule, nextOrder := s.time.nextOrder + 1 }

/-- LATE in place of OK (R40, R43). -/
def lateCode (c : Code) : Code := if c = .ok then .late else c

/-- k of R40 for an at byte. -/
def State.ahead (s : State) (d : Byte) : Nat := (d - s.pLow).toNat

/-- A request with its optional at byte (R40, R41). -/
def State.runTimed (s : State) (r : Request) (x : Timed × Option Byte) : Code × State :=
  match x.2 with
  | none => s.perform r.addressing x.1
  | some d =>
    let k := s.ahead d
    if k = 0 then s.perform r.addressing x.1
    else if k ≤ 127 then
      match s.admits x.1 with
      | some code => (code, s)
      | none =>
        if s.time.schedule.length < 16 then (.scheduled, s.schedule x.1 r.source r.addressing k) else (.full, s)
    else if k ≤ 247 then (.expired, s)
    else
      let (code, s1) := (s.raise .lateRun).perform r.addressing x.1
      (lateCode code, s1)

/-- The class and kind of a request that may carry an at byte (R198). -/
def Timed.clsKind : Timed → Nat × Nat
  | .goto _ _ _ => (1, 1)
  | .stop _ => (1, 3)
  | .sceneRecall _ _ => (3, 1)
  | .levelSet _ _ _ => (3, 2)
  | .runStart => (3, 8)
  | .runStop => (3, 9)

/-- The axis a request that may carry an at byte names (R73). -/
def Timed.named : Timed → Option Axis
  | .goto ax _ _ | .stop ax => some ax
  | .sceneRecall _ _ | .levelSet _ _ _ | .runStart | .runStop => none

/-- Offers the deferred OUTCOME of an entry; only a station-addressed entry from a peer has one (R42). -/
def State.deferred (s : State) (e : Entry) (code : Code) : State :=
  match e.source, e.addressing with
  | .peer a, .station =>
    s.offer (s.outcomeFrame a e.request.clsKind.1 e.request.clsKind.2 e.request.named code true)
  | _, _ => s

/-- Runs an entry at its due boundary (R42). -/
def State.runEntry (s : State) (e : Entry) : State :=
  let (code, s1) := s.perform e.addressing e.request
  (s1.settled.deferred e code).settled

/-- Treats an entry that a hard realign has passed or pushed out of reach (R43). -/
def State.realignEntry (s : State) (e : Entry) : State :=
  let d := e.distance s.time.p
  if d = 0 ∨ 32768 ≤ d then
    let (code, s1) := (s.raise .lateRun).perform e.addressing e.request
    (s1.settled.deferred e (lateCode code)).settled
  else ((s.raise .scheduleLost).settled.deferred e .expired).settled

/-- The schedule list after a hard realign (R43). -/
def State.realignSchedule (s : State) : State :=
  let stays := fun e : Entry => 1 ≤ e.distance s.time.p ∧ e.distance s.time.p ≤ 255
  let s1 := s.setTime { s.time with schedule := s.time.schedule.filter fun e => stays e }
  (s.time.schedule.filter fun e => !stays e).foldl State.realignEntry s1

end Sys2Proof.Machine
end

