-- ==== Sys2Proof/Machine/BusEvents.lean ====
section
/-! DEFINITION. The Time Base and the Peer Unit: what a received BEACON and a received ANNOUNCE do, and the ends of their
own counts at a boundary; with them the scheduled runs and the run step (02, 03, R93). -/

namespace Sys2Proof.Machine

/-! ## A received BEACON -/

/-- φb as the Time Base takes it (R195). -/
def takenPhase (phib : Nat) : Nat := min phib 999

/-- Δ of a beacon against a latch, none where it is gross (R33). -/
def beaconDelta (latch : Latch) (pb : BitVec 16) (phib : Nat) : Option Int :=
  let d : Int := (phib : Int) - latch.phi
  if pb = latch.p then some d
  else if pb = latch.p + 1 then some (d + 1000)
  else if pb = latch.p - 1 then some (d - 1000)
  else none

/-- The arrival map with the bin of Δ set (R36). -/
def markArrival (map : BitVec 16) : Option Int → BitVec 16
  | some d => if -80 ≤ d ∧ d ≤ 79 then map ||| (1#16 <<< ((d + 80) / 10).toNat) else map
  | none => map

/-- Δ as last Δ records it (R36). -/
def recordedDelta : Option Int → LastDelta
  | some d => .value d
  | none => .gross

/-- The address is lower than the own one (R28, R29). -/
def State.isLower (s : State) (a : Nat) : Bool :=
  match s.loader.address with
  | some own => a < own
  | none => false

/-- The beacon from this address is used for alignment (R31). -/
def State.alignsTo (s : State) (a : Nat) : Bool :=
  match s.time.engine with
  | .timekeeper => s.isLower a
  | .listener | .standby =>
    match s.time.reference with
    | none => true
    | some r => a ≤ r

/-- A lower beacon sets the silence timer of a STANDBY station, and returns a TIMEKEEPER to STANDBY (R28, R29). -/
def State.deferTo (s : State) (a : Nat) : State :=
  if s.isLower a then
    match s.time.engine with
    | .listener => s
    | .standby | .timekeeper => s.setTime { s.time with engine := .standby, silenceTimer := 25 }
  else s

/-- Hard realign: the station takes the beacon's count, carried forward by the age of the latch, and the schedule list is
treated again, once REALIGNED has been reported with all that its report does (R35, R43, R174). -/
def State.hardRealign (s : State) (pb : BitVec 16) (phib age : Nat) : State :=
  let total := phib + age
  let s1 := s.setTime { s.time with
    p := pb + BitVec.ofNat 16 (total / 1000), elapsed := total % 1000, periodLength := 1000, slew := 0, lock := .locked }
  (s1.raise .realigned).settled.realignSchedule

/-- To align: Δ is recorded and applied (R31, R34, R35, R36). -/
def State.align (s : State) (pb : BitVec 16) (phib : Nat) (latch : Latch) (delta : Option Int) : State :=
  let s1 := s.setTime { s.time with lastDelta := recordedDelta delta }
  match delta with
  | some d =>
    if d.natAbs ≤ 2 then s1.setTime { s1.time with slew := 0, lock := .locked }
    else if d.natAbs ≤ 50 then s1.setTime { s1.time with slew := d, lock := .slewing }
    else s1.hardRealign pb phib latch.age
  | none => s1.hardRealign pb phib latch.age

/-- An intact BEACON from a peer (R31). -/
def State.takeBeacon (s : State) (a : Nat) (pb : BitVec 16) (received : Nat) (latch : Latch) : State :=
  let phib := takenPhase received
  let delta := beaconDelta latch pb phib
  let s1 := s.setTime { s.time with arrivals := markArrival s.time.arrivals delta }
  let s2 := s1.deferTo a
  if s.alignsTo a then
    (s2.setTime { s2.time with reference := some a, referenceAge := 0 }).align pb phib latch delta
  else s2

/-- A beacon that has been handed over. -/
def isBeacon : Owed → Bool
  | .beacon _ _ _ _ => true
  | _ => false

/-- The Time Base takes the beacon. -/
def beaconStep : Owed → State → State
  | .beacon a pb phib latch, s => s.takeBeacon a pb phib latch
  | _, s => s

/-- BEACON_RECEIVE (R31). -/
def execBeaconReceive (s : State) : Host.Outcome State Fault Refusal :=
  event s (s.owed.any isBeacon) (s.takeOwed isBeacon beaconStep)

/-! ## A received ANNOUNCE -/

/-- The content of an ANNOUNCE as it is stored (R53, R193, R195). -/
def storedContent (p : List Byte) : PeerContent :=
  { role := (byteAt p 0).setWidth 5, group := (byteAt p 1).setWidth 3, demand := ((byteAt p 1) >>> 4).setWidth 2,
    flags := byteAt p 2, interval := max 10 (min 250 (natAt p 3)), stateA := byteAt p 4, stateB := byteAt p 5,
    alarmCount := byteAt p 6, lock := (byteAt p 7).setWidth 2, engine := ((byteAt p 7) >>> 2).setWidth 2 }

/-- An entry takes an announcement (R53). -/
def PeerEntry.announced (e : PeerEntry) (c : PeerContent) : PeerEntry :=
  { e with content := some c, age := 0, fresh := true }

/-- Of two entries, the one that R54 removes first: the greater age, then the lower address; pinned ones never. -/
def elder (best : Option PeerEntry) (e : PeerEntry) : Option PeerEntry :=
  if e.pinned then best
  else
    match best with
    | none => some e
    | some b => if b.age < e.age ∨ (b.age = e.age ∧ e.address < b.address) then some e else some b

/-- The table with room for one more entry (R54). -/
def makeRoom (table : List PeerEntry) : List PeerEntry :=
  if table.length < 32 then table
  else
    match table.foldl elder none with
    | some victim => table.filter fun e => e.address != victim.address
    | none => table

/-- The table after an announcement (R53, R54). -/
def announceInto (table : List PeerEntry) (a : Nat) (c : PeerContent) : List PeerEntry :=
  if table.any fun e => e.address == a then table.map fun e => if e.address = a then e.announced c else e
  else makeRoom table ++ [{ address := a, content := some c, age := 0, fresh := true, pinned := false }]

/-- The Safety Unit evaluates the terms of both axes after a report about an entry, axis A before axis B (R173;
notes/assumptions/38.md, DESIGN CHOICE, unsafe). The loss of axis B's direction comes before an alarm raised for axis A acts
through the hold mask of axis B (notes/assumptions/50.md, DESIGN CHOICE, unsafe). -/
def State.reportPeer (s : State) : State := (s.reevaluate .A).reevaluate .B

/-- An intact ANNOUNCE from a peer (R53, R54). -/
def State.takeAnnounce (s : State) (a : Nat) (p : List Byte) : State :=
  (s.setPeer { s.peer with table := announceInto s.peer.table a (storedContent p) }).reportPeer

/-- An announcement that has been handed over. -/
def isAnnounce : Owed → Bool
  | .announce _ _ => true
  | _ => false

/-- The Peer Unit takes the announcement. -/
def announceStepOf : Owed → State → State
  | .announce a p, s => s.takeAnnounce a p
  | _, s => s

/-- ANNOUNCE_RECEIVE (R53, R54). -/
def execAnnounceReceive (s : State) : Host.Outcome State Fault Refusal :=
  event s (s.owed.any isAnnounce) (s.takeOwed isAnnounce announceStepOf)

/-! ## Freshness -/

/-- The age after a boundary, saturated (R56). -/
def PeerEntry.older (e : PeerEntry) : PeerEntry := { e with age := min 65535 (e.age + 1) }

/-- The boundary takes the age past four times the interval (R56). -/
def PeerEntry.lapses (e : PeerEntry) : Bool :=
  match e.content with
  | some c => e.fresh && 4 * c.interval < e.older.age
  | none => false

/-- The entry after a boundary (R56). -/
def PeerEntry.aged (e : PeerEntry) : PeerEntry := if e.lapses then { e.older with fresh := false } else e.older

/-- The entry of an address takes the boundary's step; a lapse is reported (R56, R173). -/
def State.freshnessStep (s : State) (a : Nat) : State :=
  let lapsed := s.peer.table.any fun e => e.address == a && e.lapses
  let s1 := s.setPeer { s.peer with
    table := s.peer.table.map fun e => if e.address = a then e.aged else e }
  if lapsed then s1.reportPeer else s1

/-- FRESHNESS_LAPSE (R56). -/
def execFreshnessLapse (a : Nat) (s : State) : Host.Outcome State Fault Refusal :=
  event s (s.owed.contains (.freshnessLapse a)) ((s.disown (.freshnessLapse a)).freshnessStep a)

/-! ## The beacon engine and the reference at a boundary -/

/-- No reference is held, nothing is left to slew, and the lock state is FREE (R28, R32). -/
def State.freeRun (s : State) : State :=
  s.setTime { s.time with reference := none, referenceAge := 0, slew := 0, lock := .free }

/-- The silence timer of a STANDBY station takes the boundary's step; at 0 it enters TIMEKEEPER (R28). -/
def State.silenceTimerStep (s : State) : State :=
  if s.time.engine ≠ .standby then s
  else if 1 < s.time.silenceTimer then s.setTime { s.time with silenceTimer := s.time.silenceTimer - 1 }
  else (s.setTime { s.time with engine := .timekeeper, silenceTimer := 0 }).freeRun

/-- SILENCE_TIMER_EXPIRY (R28). -/
def execSilenceTimerExpiry (s : State) : Host.Outcome State Fault Refusal :=
  event s (s.owed.contains .silenceTimerExpiry) (s.disown .silenceTimerExpiry).silenceTimerStep

/-- The reference age takes the boundary's step; at 25 the reference is lost (R32). -/
def State.referenceStep (s : State) : State :=
  if s.time.reference.isNone then s
  else if s.time.referenceAge + 1 < 25 then s.setTime { s.time with referenceAge := s.time.referenceAge + 1 }
  else s.freeRun

/-- REFERENCE_LOST (R32). -/
def execReferenceLost (s : State) : Host.Outcome State Fault Refusal :=
  event s (s.owed.contains .referenceLost) (s.disown .referenceLost).referenceStep

/-- A BEACON frame; its payload is filled while it is sent (R29, R30). -/
def beaconFrame : SendFrame := { cls := beaconCls, kind := 1, dest := 127, payload := none, onLine := false }

/-- A TIMEKEEPER offers a BEACON unless one is still in the send queue (R29). -/
def State.offerBeacon (s : State) : State :=
  if s.time.engine = .timekeeper && !s.line.queue.any (fun f => f.cls == beaconCls) then s.offer beaconFrame else s

/-- BEACON_OFFER (R29). A station that enters TIMEKEEPER at the same boundary offers after its entry (R28). -/
def execBeaconOffer (s : State) : Host.Outcome State Fault Refusal :=
  event s (s.owed.contains .beaconOffer && !s.owed.contains .silenceTimerExpiry)
    (s.disown .beaconOffer).offerBeacon

/-! ## The own announcement -/

/-- The announce down-counter takes the boundary's step; at 0 it requests, which loads it with I (R49). It does not step in
LOADING or LISTEN-ONLY (R51). -/
def State.announceCountStep (s : State) : State :=
  if !s.sends then s
  else if 1 < s.peer.counter then s.setPeer { s.peer with counter := s.peer.counter - 1 }
  else s.announceRequest

/-- ANNOUNCE_EXPIRY (R49). -/
def execAnnounceExpiry (s : State) : Host.Outcome State Fault Refusal :=
  event s (s.owed.contains .announceExpiry) (s.disown .announceExpiry).announceCountStep

/-! ## The schedule list and the run -/

/-- The entries due at this boundary leave the list and run in its order (R42). -/
def State.runDue (s : State) : State :=
  let due := s.time.schedule.filter fun e => e.due == s.time.p
  due.foldl State.runEntry (s.setTime { s.time with schedule := s.time.schedule.filter fun e => e.due != s.time.p })

/-- SCHEDULE_DUE_RUN (R42). -/
def execScheduleDueRun (s : State) : Host.Outcome State Fault Refusal :=
  event s (s.owed.contains .scheduleDueRun) (s.disown .scheduleDueRun).runDue

/-- The run takes the boundary's step: the offset moves when the step count reaches the step periods (R93). -/
def State.runStepNow (s : State) : State :=
  match s.light.region with
  | none => s
  | some r =>
    if !s.light.stepping then s
    else if s.light.stepCount + 1 < r.steps then s.setLight { s.light with stepCount := s.light.stepCount + 1 }
    else s.setLight { s.light with stepCount := 0, offset := (s.light.offset + 1) % r.span }

/-- RUN_STEP (R93). -/
def execRunStep (s : State) : Host.Outcome State Fault Refusal :=
  event s (s.owed.contains .runStep) (s.disown .runStep).runStepNow


end Sys2Proof.Machine
end

