-- ==== Sys2Proof/Machine/KeyEvents.lean ====
section
/-! DEFINITION. The eight keys: sampling at a boundary, debouncing, and the request a press or a release makes (04, 4.2). -/

namespace Sys2Proof.Machine

/-- The sample of a key: a low input reads pressed (R64). -/
def State.keySample (s : State) (k : Fin 8) : KeyLevel := if s.pins.keys.getLsbD k.val then .released else .pressed

/-- The sample is the one that gives the key its level: the third that agrees, or the third that differs from the level
(R64). -/
def KeyRecord.turns (r : KeyRecord) (x : KeyLevel) : Bool :=
  match r.level with
  | none => r.lastSample == some x && 2 ≤ r.count + 1
  | some l => l != x && 3 ≤ r.count + 1

/-- The record after a sample that does not give it a new level (R64). The last sample goes on following the samples once
the level is known (notes/assumptions/42.md, DESIGN CHOICE, safe). -/
def KeyRecord.counted (r : KeyRecord) (x : KeyLevel) : KeyRecord :=
  let more :=
    match r.level with
    | none => r.lastSample == some x
    | some l => l != x
  { r with count := if more then r.count + 1 else 0, lastSample := some x }

/-- The request a press makes (R65). -/
def pressRequest : KeyFunction → Option KeyRequest
  | .none | .inputOnly => none
  | .sceneLocal scene => some (.recall scene)
  | .sceneGroup scene group => some (.groupRecall scene group)
  | .jog a d => some (.jog a d)
  | .stop a => some (.stop a)

/-- The request a release makes (R65). -/
def releaseRequest : KeyFunction → Option KeyRequest
  | .jog a d => some (.jogRelease a d)
  | .none | .inputOnly | .sceneLocal _ | .sceneGroup _ _ | .stop _ => none

/-- The request that a change of a known level makes; a first establishment makes none (R64, R65). -/
def turnRequest (f : KeyFunction) (level : Option KeyLevel) (x : KeyLevel) : Option KeyRequest :=
  match level, x with
  | none, _ => none
  | some _, .pressed => pressRequest f
  | some _, .released => releaseRequest f

/-- The record after the sample that gives it its level; a new request replaces a pending one (R64, R66). The sample becomes
the last sample, of a level known before too (notes/assumptions/42.md, DESIGN CHOICE, safe). -/
def KeyRecord.turned (r : KeyRecord) (f : KeyFunction) (x : KeyLevel) : KeyRecord :=
  { level := some x, lastSample := some x, count := 0, pending := (turnRequest f r.level x).or r.pending }

/-- A key takes its sample of this boundary (R64). -/
def State.keyStep (s : State) (k : Fin 8) : State :=
  let r := s.cmd.keys[k]
  let x := s.keySample k
  let r' := if r.turns x then r.turned s.cfg.keys[k] x else r.counted x
  s.setCmd { s.cmd with keys := s.cmd.keys.set k r' }

/-- The event that a turning sample is (R64). -/
def State.keyEvent (s : State) (k : Fin 8) : Owed :=
  match s.cmd.keys[k].level, s.keySample k with
  | none, _ => .keyEstablish k
  | some _, .pressed => .keyPress k
  | some _, .released => .keyRelease k

/-- KEY_DEBOUNCE_ESTABLISH (R64). -/
def execKeyDebounceEstablish (k : Fin 8) (s : State) : Host.Outcome State Fault Refusal :=
  event s (s.owed.contains (.keyEstablish k)) ((s.disown (.keyEstablish k)).keyStep k)

/-- KEY_PRESS (R64, R65, R66). -/
def execKeyPress (k : Fin 8) (s : State) : Host.Outcome State Fault Refusal :=
  event s (s.owed.contains (.keyPress k)) ((s.disown (.keyPress k)).keyStep k)

/-- KEY_RELEASE (R64, R65, R66). -/
def execKeyRelease (k : Fin 8) (s : State) : Host.Outcome State Fault Refusal :=
  event s (s.owed.contains (.keyRelease k)) ((s.disown (.keyRelease k)).keyStep k)

end Sys2Proof.Machine
end

