-- ==== Sys2Proof/Machine/LineEvents.lean ====
section
/-! DEFINITION. The zone bus at the station: reading line bits, sending and receiving a frame, the noise budget, the line
conditions and the local emergency stop (01, 9.1). Every line command carries the bits read since the one before it
(notes/assumptions/5.md). -/

namespace Sys2Proof.Machine

/-! ## Reading the line -/

/-- The line counts after one bit time (R1, R17). A bit of a frame joins its bits; the bit of the acknowledgment slot ends
the frame, with the idle count at 0. -/
def LineUnit.read (l : LineUnit) (b : LineBit) : LineUnit :=
  let dominant := if l.allstop then 40 else if b then 0 else min 40 (l.dominantCount + 1)
  match l.place with
  | .outside =>
    { l with dominantCount := dominant, idleCount := if b then min 10 (l.idleCount + 1) else 0, ackDrive := false }
  | .inFrame => { l with dominantCount := dominant, bits := l.bits ++ [b] }
  | .slot => { l with dominantCount := dominant, place := .outside, idleCount := 0, bits := [], ackDrive := false }

/-- The acknowledgment slot of the own frame has been read: it leaves the queue, acknowledged if the slot reads dominant
(R9). -/
def State.endOwnSlot (s : State) (level : LineBit) : State :=
  if s.line.own = .slot then (if level then s else s.credit).leaveLine else s

/-- An error owed since a dominant bit is counted when the line first reads recessive before the run of 40 (R8, R10). -/
def State.countOwedError (s : State) (b : LineBit) : State :=
  if s.line.errorOwed && b then (s.setLine { s.line with errorOwed := false }).countError else s

/-- The station reads one line bit. -/
def State.readBit (s : State) (b : LineBit) : State :=
  ((s.setLine (s.line.read b)).endOwnSlot b).countOwedError b

/-- The station reads line bits in order. A LOADING station reads them too, and is never inside a frame (R22). -/
def State.readBits (s : State) (bits : List LineBit) : State := bits.foldl State.readBit s

/-- The shape of a line command: the bits are read, and the command takes effect where its event falls at the last of
them. -/
def atLastBit (s : State) (bits : List LineBit) (due : State → Bool) (effect : State → State) :
    Host.Outcome State Fault Refusal :=
  let s1 := s.readBits bits
  if s.inReset then .next s else .next (if due s1 then effect s1 else s1).finish

/-- Reception or sending ends here: what was read is dropped, and the latch with it (R30). A slot that follows is not driven,
unless an intact frame is acknowledged (R11). -/
def State.endFrame (s : State) (place : LinePlace) : State :=
  (s.setLine { s.line with place := place, bits := [], idleCount := 0, ackDrive := false }).setTime
    { s.time with latch := none }

/-! ## The own frame on the line -/

/-- A payload not yet filled is sent as zeros of its length (R193); it is filled before its first bit (R7, R30). -/
def SendFrame.body (f : SendFrame) : List Byte :=
  f.payload.getD (List.replicate (if f.cls = beaconCls then 4 else 8) 0)

/-- The frame the station is putting on the line (R3). -/
def State.ownFrame (s : State) : Option Frame :=
  (s.line.queue.find? SendFrame.onLine).map fun f =>
    { cls := f.cls, source := s.loader.address.getD 0, dest := f.dest, kind := f.kind, payload := f.body }

/-- The line bits of the own frame, up to the slot (R2). -/
def State.ownBits (s : State) : List LineBit :=
  match s.ownFrame with
  | some f => f.lineBits
  | none => []

/-- What the bits read tell the sender (R6, R8). -/
def State.heard (s : State) : Heard := hear s.ownBits s.line.bits

/-- The station is putting a frame on the line and has read bits of it. -/
def State.sending (s : State) : Bool :=
  s.line.place == .inFrame && (s.line.own == .contending || s.line.own == .sending)

/-- What the station does to the line in the coming bit time: it drives for its emergency stop (R18), for the
acknowledgment slot (R11), or with a dominant bit of its own frame. -/
def State.lineDrive (s : State) : Bool :=
  !s.inReset && (s.line.estop || s.line.ackDrive ||
    (s.sending && s.ownBits[s.line.bits.length]? == some false))

/-- Puts the first frame of a class on the line (R20). -/
def putOnLine (cls : Nat) : List SendFrame → List SendFrame
  | [] => []
  | f :: fs => if f.cls = cls then { f with onLine := true } :: fs else f :: putOnLine cls fs

/-- The lowest class number among frames (R20). -/
def lowestClass (q : List SendFrame) : Nat := q.foldl (fun m f => min m f.cls) 7

/-- Writes the payload of the frame on the line (R7). -/
def fillOnLine (payload : List Byte) (q : List SendFrame) : List SendFrame :=
  q.map fun f => if f.onLine then { f with payload := some payload } else f

/-- The frame on the line waits again (R6). -/
def backToWaiting (q : List SendFrame) : List SendFrame := q.map fun f => { f with onLine := false }

/-- The line is idle for the station (R1). -/
def State.lineIdle (s : State) : Bool := s.line.place == .outside && s.line.idleCount == 10 && !s.line.allstop

/-- The station may begin a frame (R5). -/
def State.mayBegin (s : State) : Bool :=
  s.sends && s.lineIdle && s.line.own == .none && !s.line.estop && !s.line.queue.isEmpty

/-- The start bit of the offered frame is sent, and read (R5, R20). It is always read dominant, as sent: R8 does not say what
a sender does with an own start bit read recessive (notes/assumptions/32.md, DESIGN CHOICE, unsafe). -/
def State.beginFrame (s : State) : State :=
  s.setLine { s.line.read false with
    place := .inFrame, bits := [false], own := .contending,
    queue := putOnLine (lowestClass s.line.queue) s.line.queue }

/-- FRAME_BEGIN (R5). -/
def execFrameBegin (bits : List LineBit) (s : State) : Host.Outcome State Fault Refusal :=
  atLastBit s bits State.mayBegin State.beginFrame

/-- Contention is lost at the last bit (R6). -/
def State.losesNow (s : State) : Bool := s.sending && s.line.own == .contending && s.heard == .lost

/-- The station goes on as a receiver; its frame stays queued, unless a soft restart has marked it (R6, R24). -/
def State.loseContention (s : State) : State :=
  if s.line.leaveOnLoss then s.leaveLine
  else s.setLine { s.line with own := .none, queue := backToWaiting s.line.queue }

/-- CONTENTION_LOST (R6). -/
def execContentionLost (bits : List LineBit) (s : State) : Host.Outcome State Fault Refusal :=
  atLastBit s bits State.losesNow State.loseContention

/-- The last bit is content bit `n` of the frame on the line. -/
def State.atContent (s : State) (n : Nat) : Bool :=
  contentCount s.line.bits == n && contentCount s.line.bits.dropLast + 1 == n

/-- The last bit of the source field agrees: contention is won (R6). The start bit and nine header bits have been sent. -/
def State.winsNow (s : State) : Bool :=
  s.sending && s.line.own == .contending && s.atContent 10 && s.heard == .agree

/-- The own-frame state becomes SENDING, and an ANNOUNCE takes its payload (R6, R7, R45). -/
def State.winContention (s : State) : State :=
  let s1 := s.setLine { s.line with own := .sending, leaveOnLoss := false }
  match s.ownFrame with
  | some f =>
    if f.cls = annCls then s1.setLine { s1.line with queue := fillOnLine s.announcePayload s1.line.queue } else s1
  | none => s1

/-- CONTENTION_WON (R6, R7). -/
def execContentionWon (bits : List LineBit) (s : State) : Host.Outcome State Fault Refusal :=
  atLastBit s bits State.winsNow State.winContention

/-- The level at which the last bit is a bit error of the own frame (R8). -/
def State.errorLevel (s : State) : Option LineBit :=
  if s.sending then
    match s.heard with
    | .mismatch level => some level
    | .agree | .lost | .beyond => none
  else none

/-- The sender stops, and its frame leaves unsent. An error on a recessive bit is counted at once, one on a dominant bit
waits on the dominant run (R8). -/
def State.bitErrorNow (s : State) : State :=
  let s1 := (s.endFrame .outside).leaveLine
  match s.errorLevel with
  | some true => s1.countError
  | _ => s1.setLine { s1.line with errorOwed := true }

/-- BIT_ERROR (R8). -/
def execBitError (bits : List LineBit) (s : State) : Host.Outcome State Fault Refusal :=
  atLastBit s bits (fun s => s.errorLevel.isSome) State.bitErrorNow

/-- The last bit is the last header bit of a class-2 frame that the station sends or decodes (R7, R30). -/
def State.latchesNow (s : State) : Bool :=
  s.decodes && s.line.place == .inFrame && s.atContent 26 && classField s.line.bits == beaconCls &&
    (s.line.own == .none || (s.line.own == .sending && s.heard == .agree))

/-- The pair (P, φ) is latched: into the payload of an own BEACON, or as the receiver's latch (R7, R30). -/
def State.latchCount (s : State) : State :=
  if s.line.own = .sending then
    s.setLine { s.line with queue := fillOnLine (word16 s.time.p.toNat ++ word16 s.phi) s.line.queue }
  else s.setTime { s.time with latch := some { p := s.time.p, phi := s.phi, age := 0 } }

/-- HEADER_END_LATCH (R7, R30). -/
def execHeaderEndLatch (bits : List LineBit) (s : State) : Host.Outcome State Fault Refusal :=
  atLastBit s bits State.latchesNow State.latchCount

/-- The whole frame has been sent, with its last inserted bit if there is one (R9). -/
def State.sentWhole (s : State) : Bool :=
  s.sending && s.line.own == .sending && s.heard == .agree && s.line.bits.length == s.ownBits.length

/-- The own-frame state becomes SLOT (R9). -/
def State.enterSlot (s : State) : State :=
  let s1 := s.endFrame .slot
  s1.setLine { s1.line with own := .slot }

/-- SENDER_ENTERS_SLOT (R9). -/
def execSenderEntersSlot (bits : List LineBit) (s : State) : Host.Outcome State Fault Refusal :=
  atLastBit s bits State.sentWhole State.enterSlot

/-- SLOT_END: the slot is read, and the frame leaves the queue (R9). -/
def execSlotEnd (level : LineBit) (s : State) : Host.Outcome State Fault Refusal :=
  event s (s.line.own == .slot) (s.readBit level)

/-! ## Receiving -/

/-- A frame begins to be decoded: the last bit is dominant and the line was idle (R1, R10, R22). -/
def State.startsNow (s : State) (last : LineBit) : Bool :=
  s.decodes && s.lineIdle && s.line.own == .none && !last

/-- The start bit is read. -/
def State.startReception (s : State) : State :=
  s.setLine { s.line.read false with place := .inFrame, bits := [false] }

/-- START_BIT_READ (R1). A dominant bit that is no start bit sets the idle count to 0 and begins no frame. -/
def execStartBitRead (bits : List LineBit) (s : State) : Host.Outcome State Fault Refusal :=
  let s1 := s.readBits bits.dropLast
  let last := bits.getLastD true
  if s.inReset then .next s
  else .next (if s1.startsNow last then s1.startReception else s.readBits bits).finish

/-- What the bits of the frame being received amount to (R10). -/
def State.verdict (s : State) : Verdict :=
  if s.decodes && s.line.place == .inFrame && s.line.own == .none then judge s.line.bits else .undecided

/-- The frame judged intact at the last bit. -/
def State.intactFrame (s : State) : Option Frame :=
  match s.verdict with
  | .intact f => some f
  | .undecided | .illegalLength | .codingError _ | .badCheck | .badSource => none

/-- The destination addresses the station (R13). -/
def State.addressed (s : State) (dest : Nat) : Bool :=
  s.loader.address == some dest || dest == 127 ||
    (64 ≤ dest && dest ≤ 95 && s.membership.getLsbD (dest - 64))

/-- An addressed frame joins the intake queue, or is dropped with INTAKE_FULL at 8 entries (R13). -/
def State.intake (s : State) (f : Frame) : State :=
  if !s.addressed f.dest then s
  else if s.cmd.intake.length < 8 then
    s.setCmd { s.cmd with intake := s.cmd.intake ++
      [{ cls := f.cls, source := f.source, dest := f.dest, kind := f.kind, payload := f.payload }] }
  else s.raise .intakeFull

/-- The latch of the frame; a station whose sender of commands gave no HEADER_END_LATCH takes its present count
(notes/assumptions/19.md). -/
def State.latchOf (s : State) : Latch := s.time.latch.getD { p := s.time.p, phi := s.phi, age := 0 }

/-- An intact frame from a peer is routed by its class (R12). -/
def State.route (s : State) (f : Frame) (latch : Latch) : State :=
  match f.cls with
  | 1 | 3 | 4 | 6 => s.intake f
  | 2 =>
    if f.kind = 1 ∧ f.payload.length = 4 then
      s.owe (.beacon f.source (BitVec.ofNat 16 (nat16At f.payload 0)) (nat16At f.payload 2) latch)
    else s
  | 5 => if f.kind = 1 ∧ f.payload.length = 8 then s.owe (.announce f.source f.payload) else s
  | _ => s

/-- SILENT is left, and the silence count is 0 (R16). -/
def State.endSilence (s : State) : State := s.setLine { s.line with silence := 0, silent := false }

/-- A LISTEN-ONLY station does not drive the slot (R11, R22). -/
def State.acknowledge (s : State) : State := s.setLine { s.line with ackDrive := s.station != .listenOnly }

/-- An intact frame: acknowledged, counted, and routed unless it bears the own address (R11 to R16). -/
def State.receive (s : State) (f : Frame) : State :=
  let s1 := (((s.endFrame .slot).acknowledge).credit).endSilence
  if s.loader.address = some f.source then s1.raise .addressClash else s1.route f s.latchOf

/-- FRAME_RECEIVE_INTACT (R10 to R14). -/
def execFrameReceiveIntact (bits : List LineBit) (s : State) : Host.Outcome State Fault Refusal :=
  atLastBit s bits (fun s => s.intactFrame.isSome) fun s =>
    match s.intactFrame with
    | some f => s.receive f
    | none => s

/-- The finding at the last bit is one that R10 counts. -/
def State.receiveErrs (s : State) : Bool :=
  match s.verdict with
  | .illegalLength | .codingError _ | .badCheck => true
  | .undecided | .badSource | .intact _ => false

/-- Reception ends with one error counted, or owed where the bit is dominant (R10). After a bad check the slot follows. -/
def State.receiveError (s : State) : State :=
  match s.verdict with
  | .illegalLength => (s.endFrame .outside).countError
  | .codingError true => (s.endFrame .outside).countError
  | .codingError false =>
    let s1 := s.endFrame .outside
    s1.setLine { s1.line with errorOwed := true }
  | .badCheck => (s.endFrame .slot).countError
  | .undecided | .badSource | .intact _ => s

/-- RECEIVE_ERROR (R10). -/
def execReceiveError (bits : List LineBit) (s : State) : Host.Outcome State Fault Refusal :=
  atLastBit s bits State.receiveErrs State.receiveError

/-- INVALID_SOURCE_DISCARD: a good check with source 0 or 63; no acknowledgment and no error (R10). -/
def execInvalidSourceDiscard (bits : List LineBit) (s : State) : Host.Outcome State Fault Refusal :=
  atLastBit s bits (fun s => s.verdict == .badSource) fun s => s.endFrame .slot

/-- DEFERRED_ERROR_COUNT: the first recessive bit counts the error that a dominant one left owed (R8, R10); reading the
bits is all it does. -/
def execDeferredErrorCount (bits : List LineBit) (s : State) : Host.Outcome State Fault Refusal :=
  event s true (s.readBits bits)

/-! ## Line conditions -/

/-- ALLSTOP is reached: the 40th dominant bit has been read (R17). -/
def State.allstopReached (s : State) : Bool := s.line.dominantCount == 40 && !s.line.allstop

/-- What was on the line is discarded: reception ends, a frame being sent leaves, and one still in contention stays queued
(R8, R10, R17, R24; notes/assumptions/15.md). -/
def State.discardFrame (s : State) : State :=
  let s1 := s.endFrame .outside
  match s.line.own with
  | .none => s1
  | .contending => s1.loseContention
  | .sending | .slot => s1.leaveLine

/-- ALLSTOP is entered (R17, R166, R157, R97). A running hold-off stops, and a last decrement still owed at this instant finds
it stopped (R166, R181). The axes take their order before the lights take theirs, where R165 lets either come first
(notes/assumptions/43.md, DESIGN CHOICE, unsafe), and before ALLSTOP_SEEN acts through a hold mask
(notes/assumptions/46.md, DESIGN CHOICE, unsafe). -/
def State.enterAllstop (s : State) : State :=
  let s1 := s.discardFrame
  let s2 := (s1.setLine { s1.line with allstop := true, errorOwed := false }).raise .allstopSeen
  let s3 := ((s2.setSafety { s2.safety with holdOff := 0 }).disown .holdOffEnd).lineStop
  if s3.cfg.trigger.allstop.lightAction = .recall then s3.beginOverride else s3

/-- ALLSTOP_ENTRY (R17, R166). -/
def execAllstopEntry (bits : List LineBit) (s : State) : Host.Outcome State Fault Refusal :=
  atLastBit s bits State.allstopReached State.enterAllstop

/-- The hold-off takes the boundary's step (R170). -/
def State.holdOffStep (s : State) : State := s.setSafety { s.safety with holdOff := s.safety.holdOff - 1 }

/-- The hold-off's last decrement. Where the line has reached ALLSTOP at the same instant and it is not yet entered, it is
entered within the event, and the holds are compared only after both (R170, R181; notes/assumptions/33.md, DEDUCED, unsafe). -/
def State.endHoldOff (s : State) : State :=
  let s1 := (s.disown .holdOffEnd).holdOffStep
  if s1.allstopReached then s1.enterAllstop else s1

/-- ALLSTOP ends at the tenth recessive bit (R17). -/
def State.allstopOver (s : State) : Bool := s.line.allstop && s.line.place == .outside && s.line.idleCount == 10

/-- ALLSTOP is left: the hold-off is loaded and the override ends (R17, R168, R98). A LOADING station has no trigger table
and orders nothing (R186); its default hold-off is 0. -/
def State.exitAllstop (s : State) : State :=
  let s1 := s.setLine { s.line with allstop := false, dominantCount := 0 }
  let s2 := s1.setSafety { s1.safety with holdOff := s1.cfg.trigger.allstop.holdOff }
  s2.setLight { s2.light with override := false }

/-- What the assertion does to a frame (R18). A frame in its slot leaves as sent, its acknowledgment disregarded
(notes/assumptions/14.md); a received frame in its slot is still acknowledged. -/
def State.cutFrame (s : State) : State :=
  match s.line.own, s.line.place with
  | .contending, _ | .sending, _ => (s.endFrame .outside).leaveLine
  | .slot, _ => s.leaveLine
  | .none, .inFrame => s.endFrame .outside
  | .none, .outside | .none, .slot => s

/-- A sample reads ESTOP asserted: the release count is 0, and the period that is running does not count for a release
(R19). -/
def State.sampleAsserted (s : State) : State :=
  (s.setPins { s.pins with estop := true }).setLine { s.line with releaseCount := 0, estopSeen := true }

/-- The local emergency stop becomes asserted at the first such sample (R18, R167, R157). The own frame is cut before the changes
of the announced content that the assertion makes ask for an ANNOUNCE (R48), so the request joins a new one where an ANNOUNCE
was in contention (notes/assumptions/49.md, DESIGN CHOICE, unsafe). -/
def State.assertEstop (s : State) : State :=
  let s1 := s.sampleAsserted
  if s.line.estop then s1
  else
    let s2 := s1.cutFrame
    (s2.setLine { s2.line with estop := true }).lineStop

/-- ESTOP_ASSERT (R18, R19). -/
def execEstopAssert (s : State) : Host.Outcome State Fault Refusal := event s true s.assertEstop

/-- The release count reaches 3: the drive ends and the local emergency stop is released (R19, R167). -/
def State.releaseEstop (s : State) : State :=
  if s.line.estop && s.line.releaseCount == 2 then
    s.setLine { s.line with estop := false, releaseCount := 3 }
  else s

/-- The silence count takes the boundary's step; at T the station enters SILENT (R16, R169), its row before its alarm acts
through a hold mask (notes/assumptions/46.md, DESIGN CHOICE, unsafe). In LOADING it is held at 0 (R22). -/
def State.silenceStep (s : State) : State :=
  let q := s.line.silence
  if s.station = .loading ∨ s.cfg.silentTime ≤ q then s
  else if q + 1 < s.cfg.silentTime then s.setLine { s.line with silence := q + 1 }
  else
    ((s.setLine { s.line with silence := s.cfg.silentTime, silent := true }).raise .silentSeen).applyRow
      s.cfg.trigger.silent .silent

/-- SILENT_ENTRY (R16, R169). -/
def execSilentEntry (s : State) : Host.Outcome State Fault Refusal :=
  event s (s.owed.contains .silentEntry) (s.disown .silentEntry).silenceStep

end Sys2Proof.Machine
end

