-- ==== Sys2Proof/Machine/Sense.lean ====
section
/-! DEFINITION. The Sense Unit: the decimator, scaling, baseline, net force and comparators of a channel, the CLIP alarm
and TARE (07). -/

namespace Sys2Proof.Machine

/-! ## The decimator -/

/-- A modulator bit as the integrators take it (R117). -/
def bitValue (b : Bool) : BitVec 24 := if b then 1 else -1

/-- A channel takes one bit through its integrators and its bit count (R117). -/
def SenseChannel.integrate (ch : SenseChannel) (b : Bool) : SenseChannel :=
  let i1 := ch.i1 + bitValue b
  let i2 := ch.i2 + i1
  { ch with i1 := i1, i2 := i2, i3 := ch.i3 + i2, bitCount := ch.bitCount + 1 }

/-- The decimated output y of the comb stages (R118). -/
def SenseChannel.output (ch : SenseChannel) : Int :=
  let c1 := ch.i3 - ch.v
  let c2 := c1 - ch.c1
  (c2 - ch.c2).toInt

/-- The comb delays after an output, and the bit count back at 0 (R117, R118). -/
def SenseChannel.comb (ch : SenseChannel) : SenseChannel :=
  let c1 := ch.i3 - ch.v
  { ch with v := ch.i3, c1 := c1, c2 := c1 - ch.c1, bitCount := 0 }

/-- Clamps to the range of a sample. -/
def clampSample (x : Int) : Int := max (-32768) (min 32767 x)

/-- The sample a decimated output gives at a decimation ratio (R120). -/
def scale (ratio : Nat) (y : Int) : Int :=
  clampSample (
    match ratio with
    | 16 => y * 8
    | 32 => y
    | 64 => (y + 4) / 8
    | _ => (y + 32) / 64)

/-! ## Baseline and net force -/

/-- The baseline in whole samples, a half rounded toward +∞ (R124, R130). -/
def roundedBaseline (b : Int) : Int := (b + 128) / 256

/-- The net force (R124). -/
def netForce (sample baseline : Int) : Int := clampSample (sample - roundedBaseline baseline)

/-- The baseline after a tracking step at a tare rate of 1 to 7 (R121). -/
def tracked (rate : Nat) (sample baseline : Int) : Int := baseline + (sample * 256 - baseline) / 2 ^ (12 - rate)

/-- The bound axis of a channel is motor-powered (R122). -/
def State.frozen (s : State) (c : Fin 4) : Bool :=
  match s.boundAxis c with
  | some ax => (s.axis ax).state.motorPowered
  | none => false

/-- The baseline for a new sample: the auto-tare at the end of SETTLING unless the bound axis is motor-powered, a tracking
step in RUNNING unless it is (R119, R121, R122). -/
def SenseChannel.newBaseline (ch : SenseChannel) (rate : Nat) (frozen : Bool) (sample : Int) : Int :=
  match ch.state with
  | .settling => if frozen then 0 else sample * 256
  | .running => if rate = 0 || frozen then ch.baseline else tracked rate sample ch.baseline
  | .off => ch.baseline

/-- The flag of a channel in RUNNING (R128). -/
def senseFlag (cfg : SenseConfig) (force : Int) : Bool := cfg.threshold ≤ force

/-! ## A sample -/

/-- Writes a channel. -/
def State.setChannel (s : State) (c : Fin 4) (ch : SenseChannel) : State := s.setSense (s.sense.set c ch)

/-- The channel after a new sample, before its comparators for the axis (R119, R120, R121, R124, R128). -/
def SenseChannel.sampled (ch : SenseChannel) (cfg : SenseConfig) (frozen : Bool) (y : Int) : SenseChannel :=
  let sample := scale cfg.ratio y
  let baseline := ch.newBaseline cfg.rate frozen sample
  let force := netForce sample baseline
  { ch with state := .running, sample := sample, baseline := baseline, force := force, flag := senseFlag cfg force }

/-- The peak takes |F| when it is greater (R127). -/
def AxisRecord.raisePeak (r : AxisRecord) (force : Int) : AxisRecord := { r with peak := max r.peak force.natAbs }

/-- A net force of this size is counted for the axis: it is past its blanking, and the limit is exceeded (R125). -/
def State.overLimit (s : State) (ax : Axis) (force : Int) : Bool :=
  (s.axis ax).blanking == 0 && (s.axisCfg ax).obstructionLimit < force.natAbs

/-- The obstruction count of a channel for a motor-powered axis; at K the channel signals and the count is 0 again
(R125, R126). -/
def State.countObstruction (s : State) (c : Fin 4) (ax : Axis) : State :=
  let ch := s.sense[c]
  if !s.overLimit ax ch.force then s.setChannel c { ch with obstruction := 0 }
  else if ch.obstruction + 1 < (s.axisCfg ax).persistence then s.setChannel c { ch with obstruction := ch.obstruction + 1 }
  else (s.setChannel c { ch with obstruction := 0 }).obstruct ax

/-- The comparators that work for the bound axis (R125, R126, R127). -/
def State.compareForce (s : State) (c : Fin 4) : State :=
  match s.boundAxis c with
  | some ax =>
    if (s.axis ax).state.motorPowered then
      (s.setAxis ax ((s.axis ax).raisePeak s.sense[c].force)).countObstruction c ax
    else s.setChannel c { s.sense[c] with obstruction := 0 }
  | none => s

/-- A decimated output: counted and discarded in SETTLING until three are, then a sample (R119, R120). A change of the flag
is reported at once (R128). -/
def State.decimate (s : State) (c : Fin 4) : State :=
  let ch := s.sense[c]
  let y := ch.output
  let ch1 := ch.comb
  if ch.state = .settling ∧ ch.settle < 3 then s.setChannel c { ch1 with settle := ch.settle + 1 }
  else ((s.setChannel c (ch1.sampled s.cfg.sense[c] (s.frozen c) y)).compareForce c).syncContent

/-! ## A bit -/

/-- The run length and the last bit (R129). Before the first bit the run length is 0 (R132), and any bit makes it 1. -/
def SenseChannel.runOn (ch : SenseChannel) (b : Bool) : SenseChannel :=
  { ch with runLength := if ch.lastBit = b then min 65535 (ch.runLength + 1) else 1, lastBit := b }

/-- A channel's registers after one more bit (R117, R129). -/
def SenseChannel.taken (ch : SenseChannel) (b : Bool) : SenseChannel := (ch.runOn b).integrate b

/-- A CLIP is owed after a bit that leaves the run length at 256 or more, if the alarm is clear (R129). -/
def State.clipDue (s : State) (c : Fin 4) : Bool :=
  256 ≤ s.sense[c].runLength && !s.alarmCounts (.clip c) && !s.owed.contains (.clip c)

/-- A channel takes one modulator bit, with all that its sample does (R117, R129). The CLIP of the bit comes after its sample,
where the spec orders neither before the other (notes/assumptions/45.md, DESIGN CHOICE, unsafe). -/
def State.takeBit (s : State) (c : Fin 4) (b : Bool) : State :=
  let s1 := s.setChannel c (s.sense[c].taken b)
  let s2 := if s1.sense[c].bitCount < s1.cfg.sense[c].ratio then s1 else s1.decimate c
  s2.oweIf (s2.clipDue c) (.clip c)

/-! ## An obstruction signal -/

/-- The axis that the sample at this bit signals: the bound axis is motor-powered, and the bit brings the count to K (R125). -/
def State.signalled (s : State) (c : Fin 4) (b : Bool) : Option Axis :=
  let ch := s.sense[c].taken b
  if ch.bitCount < s.cfg.sense[c].ratio ∨ (ch.state = .settling ∧ ch.settle < 3) then none
  else
    (s.boundAxis c).filter fun ax =>
      (s.axis ax).state.motorPowered && (s.axisCfg ax).persistence ≤ ch.obstruction + 1 &&
        s.overLimit ax (ch.comb.sampled s.cfg.sense[c] true ch.output).force

/-- An owed bit at whose sample an axis is signalled. -/
def isSignal (ax : Axis) : Owed → Bool
  | .obstruction x _ _ => x == ax
  | _ => false

/-- An owed bit of a channel. -/
def isBitOf (c : Fin 4) : Owed → Bool
  | .obstruction _ x _ => x == c
  | _ => false

/-- The channel takes the bit it owes. -/
def signalStep : Owed → State → State
  | .obstruction _ c b, s => s.takeBit c b
  | _, s => s

/-- OBSTRUCTION_SIGNAL (R125, R153): the channel takes the bit at whose sample it signals. Where the axis has come to rest
since, the sample finds it at rest, and no signal arises (R131, R161). -/
def execObstructionSignal (ax : Axis) (s : State) : Host.Outcome State Fault Refusal :=
  event s (s.owed.any (isSignal ax)) (s.takeOwed (isSignal ax) signalStep)

/-! ## SENSE_SAMPLE and CLIP -/

/-- A bit or a CLIP that this channel owes is taken before its next bit (notes/assumptions/20.md). -/
def State.settleChannel (s : State) (c : Fin 4) : State :=
  let s1 := if s.owed.any (isBitOf c) then (s.takeOwed (isBitOf c) signalStep).settled else s
  if s1.owed.contains (.clip c) then ((s1.disown (.clip c)).raise (.clip c)).settled else s1

/-- A bit reaches a channel: it is taken, unless its sample signals an obstruction; then it is owed, and OBSTRUCTION_SIGNAL
takes it. -/
def State.presentBit (s : State) (c : Fin 4) (b : Bool) : State :=
  let s1 := s.settleChannel c
  match s1.signalled c b with
  | some ax => s1.owe (.obstruction ax c b)
  | none => s1.takeBit c b

/-- SENSE_SAMPLE: a channel takes these bits. A channel in OFF ignores its pin (R117, R120). -/
def execSenseSample (c : Fin 4) (bits : List Bool) (s : State) : Host.Outcome State Fault Refusal :=
  event s (s.sense[c].state != .off) (bits.foldl (fun s b => s.presentBit c b) s)

/-- CLIP (R129). -/
def execClip (c : Fin 4) (s : State) : Host.Outcome State Fault Refusal :=
  event s (s.owed.contains (.clip c)) ((s.disown (.clip c)).raise (.clip c))

/-! ## TARE -/

/-- TARE at the Sense Unit (R123). -/
def State.tareChannel (s : State) (c : Fin 4) : Code × State :=
  let ch := s.sense[c]
  if ch.state ≠ .running then (.notReady, s)
  else if s.frozen c then (.busy, s)
  else
    let force := netForce ch.sample (ch.sample * 256)
    (.ok, s.setChannel c { ch with
      baseline := ch.sample * 256, force := force, flag := senseFlag s.cfg.sense[c] force })

/-- TARE (R123). -/
def execTare (s : State) : Host.Outcome State Fault Refusal :=
  completing s .tare fun r s =>
    stationOnly r (respond r (parseTare s r.payload) (fun c s => s.tareChannel c) s) s

end Sys2Proof.Machine
end

