-- ==== Sys2Proof/Machine/Instant.lean ====
section
/-! DEFINITION. Events of one instant: carrying out what is owed, and the end of a hold, which is reported only where nothing
else of its instant holds the axis again (R181; notes/assumptions/3.md and 48.md). -/

namespace Sys2Proof.Machine

/-! ## Carrying out what is owed -/

/-- What the command of an owed event does, which is then no longer owed. -/
def State.carryOut (s : State) (o : Owed) : State :=
  let s1 := s.disown o
  match o with
  | .slotStep _ => s.takeSteps
  | .silenceTimerExpiry => s1.silenceTimerStep
  | .beaconOffer => s1.offerBeacon
  | .referenceLost => s1.referenceStep
  | .scheduleDueRun => s1.runDue
  | .announceExpiry => s1.announceCountStep
  | .freshnessLapse a => s1.freshnessStep a
  | .runStep => s1.runStepNow
  | .keyEstablish k | .keyPress k | .keyRelease k => s1.keyStep k
  | .leaseEnd ax => s1.leaseStep ax
  | .stall ax => s1.stallStep ax
  | .blankingEnd ax => s1.blankingStep ax
  | .holdOffEnd => s1.holdOffStep
  | .silentEntry => s1.silenceStep
  | .estopRelease => s1.releaseEstop
  | .beacon a pb phib latch => s1.takeBeacon a pb phib latch
  | .announce a p => s1.takeAnnounce a p
  | .obstruction _ c b => s1.takeBit c b
  | .clip c => s1.raise (.clip c)

/-- An event still owed is carried out, with all that follows from it. -/
def State.carryOwed (s : State) (o : Owed) : State :=
  if s.owed.contains o then (s.carryOut o).settled else s

/-- These events are carried out as parts of one instant: no end of a hold is reported between them (R181). -/
def State.carryTogether (s : State) (events : List Owed) : State :=
  (events.foldl State.carryOwed (s.setWithin true)).setWithin false

/-- What carrying out an owed event may bring: the CLIP of an owed bit (R129). -/
def clipsOf : Owed → List Owed
  | .obstruction _ c _ => [.clip c]
  | _ => []

/-- All that is owed, in the order in which it was noted, and then what that may bring. -/
def State.allOwed (s : State) : List Owed := s.owed ++ s.owed.flatMap clipsOf

/-! ## The end of a hold -/

/-- What is owed that holds the axis again: the first event that does alone, or with the CLIP that it brings, or else all that is
owed, in order (notes/assumptions/48.md, DESIGN CHOICE, unsafe). -/
def State.holders (s : State) (ax : Axis) : Option (List Owed) :=
  ((s.owed.map fun o => [o]) ++ (s.owed.map fun o => o :: clipsOf o) ++ [s.allOwed]).find? fun events =>
    (s.carryTogether events).heldNow ax

/-- A sample has read ESTOP asserted, and the assertion is not yet taken (R18). -/
def State.estopShown (s : State) : Bool := s.pins.estop && !s.line.estop

/-- The last cause of an axis in HELD has ended, and something of the same instant holds it again: ALLSTOP that is reached and
not yet entered, an emergency stop that is read and not yet taken, or what is still owed. -/
def State.axisHeldAgain (s : State) (ax : Axis) : Bool :=
  (s.axis ax).state == .held && (s.axisSafety ax).held && !s.heldNow ax &&
    (s.allstopReached || s.estopShown || (s.holders ax).isSome)

/-- The same of either axis. -/
def State.heldAgain (s : State) : Bool := s.axisHeldAgain .A || s.axisHeldAgain .B

/-- Causes have ended: where an axis is held again within the instant, the end of its hold is not reported yet (R181). -/
def State.foresee (s : State) : State := s.setWithin s.heldAgain

/-- What holds the axis again is taken. -/
def State.takeHolders (s : State) (ax : Axis) : State :=
  if !s.axisHeldAgain ax then s
  else if s.allstopReached then s.enterAllstop
  else if s.estopShown then s.assertEstop
  else s.carryTogether ((s.holders ax).getD [])

/-- What holds an axis again is taken in the same event, so that the holds are compared only after it (R181). -/
def State.oneInstant (s : State) : State :=
  if s.safety.within then (s.takeHolders .A).takeHolders .B else s

/-- Everything still owed when a boundary comes is carried out first, with the CLIP that an owed bit brings (R129), as one
instant: the holds are compared after it (R181). -/
def State.settleOwed (s : State) : State :=
  if s.owed.isEmpty then s
  else ((((s.carryTogether s.allOwed).setOwed []).foresee.oneInstant).setWithin false).settled

/-! ## The commands that end a hold cause outside a request -/

/-- HOLD_OFF_END (R170, R181). -/
def execHoldOffEnd (s : State) : Host.Outcome State Fault Refusal :=
  event s (s.owed.contains .holdOffEnd) s.endHoldOff.foresee.oneInstant

/-- ALLSTOP_EXIT (R17, R168, R181). -/
def execAllstopExit (bits : List LineBit) (s : State) : Host.Outcome State Fault Refusal :=
  atLastBit s bits State.allstopOver fun s => s.exitAllstop.foresee.oneInstant

/-- ESTOP_RELEASE (R19, R181). -/
def execEstopRelease (s : State) : Host.Outcome State Fault Refusal :=
  event s (s.owed.contains .estopRelease) (s.disown .estopRelease).releaseEstop.foresee.oneInstant

end Sys2Proof.Machine
end

