-- ==== Sys2Proof/Machine/Boundary.lean ====
section
/-! DEFINITION. The period boundary (R25). Every count takes its step here, but for a count whose step brings it to its
end: that step is owed, and the end's own command takes it, so that the orders R49, R110, R161 and R181 allow can all come
about (notes/assumptions/3.md). -/

namespace Sys2Proof.Machine

/-! ## The count of time -/

/-- The length of the period that opens now (R26). -/
def periodFor (c : Int) : Nat := if 0 < c then 999 else if c < 0 then 1001 else 1000

/-- The slew remainder after the boundary (R26). -/
def slewAfter (c : Int) : Int := if 0 < c then c - 1 else if c < 0 then c + 1 else 0

/-- The lock state after the boundary (R26). -/
def lockAfter (c : Int) (lock : LockState) : LockState :=
  if c = 0 then lock else if slewAfter c = 0 then .locked else .slewing

/-- P and φ at a boundary, and the length of the new period (R25, R26). -/
def State.openPeriod (s : State) : State :=
  let c := s.time.slew
  s.setTime { s.time with
    p := s.time.p + 1, elapsed := 0, periodLength := periodFor c, slew := slewAfter c,
    lock := lockAfter c s.time.lock }

/-! ## The counts, each stepped or owed -/

/-- A count takes its step, unless the step brings it to its end: then the event is owed. -/
def State.stepOrOwe (s : State) (ends : Bool) (o : Owed) (step : State → State) : State :=
  if ends then s.owe o else step s

def State.countSilenceTimer (s : State) : State :=
  s.stepOrOwe (s.time.engine == .standby && s.time.silenceTimer ≤ 1) .silenceTimerExpiry State.silenceTimerStep

def State.countReference (s : State) : State :=
  s.stepOrOwe (s.time.reference.isSome && 25 ≤ s.time.referenceAge + 1) .referenceLost State.referenceStep

def State.countSilence (s : State) : State :=
  s.stepOrOwe (s.station != .loading && s.line.silence + 1 == s.cfg.silentTime) .silentEntry State.silenceStep

/-- The release count (R19): a period in which a sample read asserted sets it to 0. -/
def State.countRelease (s : State) (asserted : Bool) : State :=
  let seen := asserted || s.line.estopSeen
  let s1 := (s.setPins { s.pins with estop := asserted }).setLine { s.line with estopSeen := false }
  if seen then s1.setLine { s1.line with releaseCount := 0 }
  else if s.line.estop && s.line.releaseCount == 2 then s1.owe .estopRelease
  else s1.setLine { s1.line with releaseCount := min 3 (s1.line.releaseCount + 1) }

/-- The ages of the peer table; a lapse is owed (R56). -/
def State.countAges (s : State) : State :=
  let lapsing := (s.peer.table.filter PeerEntry.lapses).map fun e => Owed.freshnessLapse e.address
  (s.setPeer { s.peer with
    table := s.peer.table.map fun e => if e.lapses then e else e.aged }).setOwed (s.owed ++ lapsing)

/-- A key takes its sample, or owes the change that the sample is (R64). -/
def State.countKey (s : State) (k : Fin 8) : State :=
  s.stepOrOwe (s.cmd.keys[k].turns (s.keySample k)) (s.keyEvent k) fun s => s.keyStep k

/-- The keys are sampled, but not in LOADING (R64, R79, R186). -/
def State.countKeys (s : State) (keys : BitVec 8) : State :=
  let s1 := s.setPins { s.pins with keys := keys }
  if s.station = .loading then s1 else (List.finRange 8).foldl State.countKey s1

/-- The run's next step is at this boundary (R93). -/
def LightUnit.runTurns (l : LightUnit) : Bool :=
  match l.region with
  | some r => l.stepping && r.steps ≤ l.stepCount + 1
  | none => false

def State.countRun (s : State) : State := s.stepOrOwe s.light.runTurns .runStep State.runStepNow

/-- The lease, the stall count and the blanking count of an axis (R149, R156, R142), as the boundary finds the axis: what another
event of the same boundary starts comes after (notes/assumptions/47.md, DESIGN CHOICE, unsafe). -/
def State.countAxis (s : State) (ax : Axis) : State :=
  let r := s.axis ax
  let s1 := s.stepOrOwe (r.leaseAfter == some 0) (.leaseEnd ax) fun s => s.leaseStep ax
  let s2 := s1.stepOrOwe (r.state.guarded && (s.axisCfg ax).stallTime ≤ r.stallCount + 1) (.stall ax)
    fun s => s.stallStep ax
  s2.stepOrOwe (r.state.motorPowered && r.blanking == 1) (.blankingEnd ax) fun s => s.blankingStep ax

def State.countHoldOff (s : State) : State :=
  s.stepOrOwe (s.safety.holdOff == 1) .holdOffEnd State.holdOffStep

/-- Entries of the schedule list are due at the period that opens (R42). -/
def State.countSchedule (s : State) : State :=
  s.oweIf (s.time.schedule.any fun e => e.due == s.time.p) .scheduleDueRun

/-- A beacon is due after this boundary, of a TIMEKEEPER or of a station that becomes one at it (R28, R29). -/
def State.countBeacon (s : State) : State :=
  s.oweIf (s.time.p.toNat % 10 == 0 &&
    (s.time.engine == .timekeeper || s.owed.contains .silenceTimerExpiry)) .beaconOffer

def State.countAnnounce (s : State) : State :=
  s.stepOrOwe (s.sends && s.peer.counter ≤ 1) .announceExpiry State.announceCountStep

/-! ## The stepping of the Ramp Pool -/

/-- The owed event that a boundary event is. -/
def owedBy : BoundaryEvent → Owed
  | .silentEntry => .silentEntry
  | .freshnessLapse a => .freshnessLapse a
  | .leaseEnd ax => .leaseEnd ax
  | .stall ax => .stall ax
  | .scheduleDueRun => .scheduleDueRun

/-- The pool's stepping (R108 to R110). It is one event, and the events named come before it. It is taken now, unless a slot
completes or commands of the same instant are to come before it: then it is owed as a whole to RAMP_COMPLETION
(notes/assumptions/41.md, DESIGN CHOICE, safe). -/
def State.stepPool (s : State) (found : BoundaryFound) : State :=
  let s1 := found.early.foldl (fun s e => s.carryOwed (owedBy e)) (s.oweSteps found.given)
  if !found.stepsLater && s1.completingSlots.isEmpty then s1.takeSteps else s1

/-- Every block's work at a boundary but the pool's. The announce down-counter steps before the changes that the boundary
itself makes are taken, and its expiry after them (R49; notes/assumptions/34.md, DESIGN CHOICE, unsafe). Every count steps
before the boundary's other events, such as a run entry, set it (notes/assumptions/47.md, DESIGN CHOICE, unsafe). -/
def State.countPeriod (s : State) (keys : BitVec 8) (asserted : Bool) : State :=
  let s1 := (s.countSilenceTimer.countReference.countSilence.countRelease asserted).countAges
  let s2 := ((s1.countKeys keys).countRun.countAxis .A).countAxis .B
  s2.countHoldOff.countSchedule.countBeacon.countAnnounce

/-- PERIOD_BOUNDARY (R25). -/
def execPeriodBoundary (keys : BitVec 8) (found : BoundaryFound) (s : State) : Host.Outcome State Fault Refusal :=
  event s true ((s.settleOwed.openPeriod.countPeriod keys found.estopRead).stepPool found)

end Sys2Proof.Machine
end

