-- ==== Sys2Proof/Machine/LightRequests.lean ====
section
/-! DEFINITION. The lighting requests at their decode completions (05), and the level window that writes scenes (04,
4.6). -/

namespace Sys2Proof.Machine

/-- A lighting request that carries no at byte: HELD while lighting is held (R71), else its effect. -/
def State.lighting (s : State) (effect : Code × State) : Code × State :=
  if s.lightingHeld then (.held, s) else effect

/-- SCENE RECALL (R86). -/
def execSceneRecall (s : State) : Host.Outcome State Fault Refusal :=
  completing s .sceneRecall fun r s =>
    respond r (parseSceneRecall r.payload) (fun x s => s.runTimed r x) s

/-- Any own channel is in the group (R65). -/
def State.inGroup (s : State) (g : Nat) : Bool := s.membership.getLsbD g

/-- A group recall request: its frame is offered whatever the local state, then the scene is recalled on the own channels
of the group, subject to availability (R65). -/
def State.groupRecall (s : State) (scene group : Nat) : State :=
  let s1 := s.offer { cls := 3, kind := 1, dest := 64 + group, payload := some [byteOf scene], onLine := false }
  if s1.inGroup group && !s1.lightingHeld then
    s1.recallScene (Fin.ofNat 8 scene) (s1.selects (.group group)) none
  else s1

/-- GROUP_RECALL_REQUEST (R65). -/
def execGroupRecallRequest (s : State) : Host.Outcome State Fault Refusal :=
  completing s .groupRecallRequest fun r s =>
    match r.body with
    | .groupRecall scene group => s.groupRecall scene group
    | _ => s

/-- LEVEL SET (R87). -/
def execLevelSet (s : State) : Host.Outcome State Fault Refusal :=
  completing s .levelSet fun r s =>
    respond r (parseLevelSet r.payload) (fun x s => s.runTimed r x) s

/-- LIGHTS ENABLE (R82). -/
def execLightsEnable (s : State) : Host.Outcome State Fault Refusal :=
  completing s .lightsEnable fun r s =>
    respond r (parseLightsEnable r.payload)
      (fun on s => s.lighting (.ok, s.setLight { s.light with master := on })) s

/-- The channels of a set take an enable value, within the selection of the addressing (R83, R80). -/
def State.enableChannels (s : State) (addressing : Addressing) (set : BitVec 24) (on : Bool) : State :=
  let channels := Vector.ofFn fun i : Fin 24 =>
    if s.selects addressing i && set.getLsbD i.val then { s.light.channels[i] with enabled := on }
    else s.light.channels[i]
  s.setLight { s.light with channels := channels }

/-- CHANNEL ENABLE (R83). -/
def execChannelEnable (s : State) : Host.Outcome State Fault Refusal :=
  completing s .channelEnable fun r s =>
    respond r (parseChannelEnable r.payload)
      (fun x s => s.lighting (.ok, s.enableChannels r.addressing x.1 x.2)) s

/-- NIGHT SET (R88). -/
def execNightSet (s : State) : Host.Outcome State Fault Refusal :=
  completing s .nightSet fun r s =>
    respond r (parseNightSet r.payload) (fun n s => s.lighting (.ok, s.setLight { s.light with night := n })) s

/-- NIGHT OFF (R89). -/
def execNightOff (s : State) : Host.Outcome State Fault Refusal :=
  completing s .nightOff fun r s =>
    respond r (parseNothing r.payload)
      (fun _ s => s.lighting (.ok, s.setLight { s.light with night := { s.light.night with on := false } })) s

/-- RUN SET at the Light Unit (R90). -/
def State.setRegion (s : State) (region : RunRegion) : Code × State :=
  if s.light.stepping then (.busy, s) else (.ok, s.setLight { s.light with region := some region })

/-- RUN SET (R90). -/
def execRunSet (s : State) : Host.Outcome State Fault Refusal :=
  completing s .runSet fun r s =>
    respond r (parseRunSet r.payload) (fun region s => s.lighting (s.setRegion region)) s

/-- RUN START (R91). -/
def execRunStart (s : State) : Host.Outcome State Fault Refusal :=
  completing s .runStart fun r s =>
    respond r (parseRun .runStart r.payload) (fun x s => s.runTimed r x) s

/-- RUN STOP (R92). -/
def execRunStop (s : State) : Host.Outcome State Fault Refusal :=
  completing s .runStop fun r s =>
    respond r (parseRun .runStop r.payload) (fun x s => s.runTimed r x) s

/-- SCENE TIME at the Light Unit (R85). -/
def State.setSceneTime (s : State) (scene : Fin 8) (fade : Nat) : Code × State :=
  if s.cfg.alertScene = some scene then (.locked, s)
  else
    (.ok, s.setLight { s.light with
      scenes := s.light.scenes.set scene { s.light.scenes[scene] with fadeTime := fade } })

/-- SCENE TIME (R85). -/
def execSceneTime (s : State) : Host.Outcome State Fault Refusal :=
  completing s .sceneTime fun r s =>
    respond r (parseSceneTime r.payload) (fun x s => s.lighting (s.setSceneTime x.1 x.2)) s

/-! ## The level window -/

/-- LEVEL WINDOW: the alert scene is refused; otherwise the window opens, owned by the source (R75). -/
def State.openWindow (s : State) (owner : Nat) (x : Fin 8 × Nat × Nat) : Code × State :=
  if s.cfg.alertScene = some x.1 then (.locked, s)
  else
    (.ok, s.setCmd { s.cmd with
      window := some { owner := owner, scene := x.1, first := x.2.1, last := x.2.2, pointer := x.2.1 } })

/-- The address of the peer a request came from; a key never opens a window (R77). -/
def Source.address : Source → Nat
  | .peer a => a
  | .key => 0

/-- LEVEL WINDOW (R75): any open window is closed first, whatever the outcome. -/
def execLevelWindow (s : State) : Host.Outcome State Fault Refusal :=
  completing s .levelWindow fun r s =>
    respond r (parseLevelWindow r.payload) (fun x s => s.openWindow r.source.address x)
      (s.setCmd { s.cmd with window := none })

/-- The level stored for a value of LEVEL DATA (R84). -/
def storedLevel (v : Nat) : Option Nat := if v = 65535 then none else some (min v 4095)

/-- One value is written at the write pointer, which advances and returns from c1 to c0 (R76). A position of 24 or more
is counted and not stored. -/
def writeValue (x : Window × Scene) (v : Nat) : Window × Scene :=
  let (w, scene) := x
  let stored :=
    if h : w.pointer < 24 then { scene with levels := scene.levels.set w.pointer (storedLevel v) } else scene
  ({ w with pointer := if w.pointer = w.last then w.first else w.pointer + 1 }, stored)

/-- LEVEL DATA, checked in the order of R76. -/
def State.writeLevels (s : State) (source : Source) (p : List Byte) : Code × State :=
  if p.length = 0 ∨ p.length % 2 = 1 ∨ 8 < p.length then (.badParam, s)
  else
    match s.cmd.window with
    | none => (.badParam, s)
    | some w =>
      if source ≠ .peer w.owner then (.notOwner, s)
      else
        let (w', scene) := (levelValues p).foldl writeValue (w, s.light.scenes[w.scene])
        (.ok, (s.setCmd { s.cmd with window := some w' }).setLight { s.light with
          scenes := s.light.scenes.set w.scene scene })

/-- LEVEL DATA (R76, R84). -/
def execLevelData (s : State) : Host.Outcome State Fault Refusal :=
  completing s .levelData fun r s =>
    respond r (.ok r.payload) (fun p s => s.writeLevels r.source p) s

end Sys2Proof.Machine
end

