-- ==== Sys2Proof/Machine/MotionRequests.lean ====
section
/-! DEFINITION. The motion requests at their decode completions: GOTO, JOG, a key's jog release, STOP, AXIS CLEAR,
REFERENCE (08, 8.5; R65). -/

namespace Sys2Proof.Machine

/-- GOTO (R146). -/
def execGoto (s : State) : Host.Outcome State Fault Refusal :=
  completing s .goto fun r s =>
    stationOnly r (respond r (parseGoto s r.payload) (fun x s => s.runTimed r x) s) s

/-- STOP (R150). -/
def execStop (s : State) : Host.Outcome State Fault Refusal :=
  completing s .stop fun r s =>
    stationOnly r (respond r (parseStop s r.payload) (fun x s => s.runTimed r x) s) s

/-- The END target of a JOG's direction (R148). -/
def jogTarget : Direction → Target
  | .plus => .endPlus
  | .minus => .endMinus

/-- The end of a JOG's direction is reached already (R148). -/
def State.atEnd (s : State) (ax : Axis) (d : Direction) : Bool :=
  s.switchRead ax d ||
    ((s.axisCfg ax).kind == .windlass && d == .plus && (s.axis ax).position == (s.axisCfg ax).travelMax)

/-- The lease of the axis is this source's, and its jog is in this direction (R148, R65). -/
def AxisRecord.leasedTo (r : AxisRecord) (source : Source) (d : Direction) : Bool :=
  r.direction == some d &&
    match r.lease with
    | some l => l.holder == source
    | none => false

/-- JOG at the Motion Unit (R148, R149). -/
def State.runJog (s : State) (source : Source) (ax : Axis) (d : Direction) : Code × State :=
  let r := s.axis ax
  let lease : Lease := { holder := source, remaining := (s.axisCfg ax).jogLease }
  if r.state.moves && r.mode == some .jog && r.leasedTo source d then (.ok, s.setAxis ax { r with lease := some lease })
  else
    match r.state with
    | .starting | .running | .stopping | .reversing => (.busy, s)
    | .held => (.held, s)
    | .fault => (.notReady, s)
    | .disabled => (.absent, s)
    | .stopped =>
      if s.atEnd ax d then (.ok, s.setReason ax .endReached)
      else if (s.axisSafety ax).permitted d then (.ok, s.start ax d .jog (jogTarget d) (some lease))
      else (.interlocked, s)

/-- JOG with its availability and token checks (R71, R72). -/
def State.jog (s : State) (source : Source) (x : Axis × Direction × Option Byte) : Code × State :=
  match admission s.motionHeld (stale x.2.2 (s.axis x.1).token) with
  | some code => (code, s)
  | none => s.runJog source x.1 x.2.1

/-- JOG (R148). -/
def execJog (s : State) : Host.Outcome State Fault Refusal :=
  completing s .jog fun r s =>
    stationOnly r (respond r (parseJog s r.payload) (fun x s => s.jog r.source x) s) s

/-- A key's jog release: a STOP if the axis holds a LOCAL lease in the key's direction, and nothing otherwise (R65). It
passes the range checks of R70 like any key request, and has no reply (R66). -/
def State.releaseJog (s : State) (axisCode directionCode : Byte) : State :=
  match s.namedAxis axisCode, directionOf directionCode with
  | .ok ax, some d => if (s.axis ax).leasedTo .key d then s.stopAxis ax else s
  | _, _ => s

/-- JOG_RELEASE (R65). -/
def execJogRelease (s : State) : Host.Outcome State Fault Refusal :=
  completing s .jogRelease fun r s =>
    match r.body with
    | .jogRelease axisCode directionCode => s.releaseJog axisCode directionCode
    | _ => s

/-- AXIS CLEAR at the Motion Unit, with its availability and token checks (R152, R71, R72). -/
def State.clearAxis (s : State) (x : Axis × Option Byte) : Code × State :=
  match admission s.motionHeld (stale x.2 (s.axis x.1).token) with
  | some code => (code, s)
  | none =>
    if (s.axis x.1).state ≠ .fault then (.ok, s)
    else if s.inConflict x.1 then (.notReady, s)
    else (.ok, s.rest x.1)

/-- AXIS CLEAR (R152). -/
def execAxisClear (s : State) : Host.Outcome State Fault Refusal :=
  completing s .axisClear fun r s =>
    stationOnly r (respond r (parseAxisClear s r.payload) (fun x s => s.clearAxis x) s) s

/-- REFERENCE at the Motion Unit, with its availability and token checks (R151, R71, R72). -/
def State.setReference (s : State) (x : Axis × Nat × Option Byte) : Code × State :=
  let ax := x.1
  let r := s.axis ax
  match admission s.motionHeld (stale x.2.2 r.token) with
  | some code => (code, s)
  | none =>
    match r.state with
    | .held => (.held, s)
    | .stopped =>
      (.ok, s.setAxis ax { r with position := min x.2.1 (s.axisCfg ax).travelMax, referenced := true })
    | .starting | .running | .stopping | .reversing | .fault => (.busy, s)
    | .disabled => (.absent, s)

/-- REFERENCE (R151). -/
def execReference (s : State) : Host.Outcome State Fault Refusal :=
  completing s .reference fun r s =>
    stationOnly r (respond r (parseReference s r.payload) (fun x s => s.setReference x) s) s

end Sys2Proof.Machine
end

