-- ==== Sys2Proof/Machine/ReadRequests.lean ====
section
/-! DEFINITION. The READ requests at their decode completions, with the DATA parts of R196 (R74). -/

namespace Sys2Proof.Machine

/-- A DATA frame: selector and part, argument, content (R193). -/
def dataFrame (dest selector part : Nat) (argument : Byte) (content : List Byte) : SendFrame :=
  { cls := 4, kind := 2, dest := dest, onLine := false,
    payload := some (byteOf (16 * selector + part) :: argument :: content) }

/-- Answers a READ with the DATA frame of its part, or with the OUTCOME of its refusal (R73, R74). -/
def answerRead (r : Request) (selector parts : Nat)
    (content : Nat → Byte → Except Code (List Byte)) (s : State) : State :=
  match parseRead selector parts r.payload with
  | .error code => s.reply r code
  | .ok (part, argument) =>
    match content part argument, r.source with
    | .error code, _ => s.reply r code
    | .ok bytes, .peer a => s.offer (dataFrame a selector part argument bytes)
    | .ok _, .key => s

/-! ## AXIS -/

def directionCode : Option Direction → Nat
  | none => 0
  | some .plus => 1
  | some .minus => 2

def modeCode : Option Mode → Nat
  | none => 0
  | some .goto => 1
  | some .jog => 2

def targetCode : Option Target → Nat
  | none => 0
  | some (.position _) => 1
  | some .endPlus => 2
  | some .endMinus => 3

def targetPosition : Option Target → Nat
  | some (.position p) => p
  | _ => 0

/-- Stop reason codes (R198). -/
def StopReason.code : StopReason → Nat
  | .none => 0
  | .target => 1
  | .endReached => 2
  | .stopCmd => 3
  | .leaseEnd => 4
  | .obstruction => 5
  | .interlock => 6
  | .allstop => 7
  | .silent => 8
  | .erratic => 9
  | .stall => 10
  | .holdAlarm => 11
  | .endConflict => 12
  | .restart => 13

/-- The lease holder byte: 0 none, the peer's address, 64 LOCAL (R196). -/
def holderCode : Option Lease → Nat
  | none => 0
  | some { holder := .peer a, .. } => a
  | some { holder := .key, .. } => 64

def leaseRemaining : Option Lease → Nat
  | none => 0
  | some l => l.remaining

/-- The content of an AXIS part (R162, R196). -/
def State.axisPart (s : State) (ax : Axis) (part : Nat) : List Byte :=
  let r := s.axis ax
  match part with
  | 0 => [r.token, byteOf (r.state.code + 8 * bit r.referenced + 16 * directionCode r.direction + 64 * modeCode r.mode)]
      ++ word16 r.position ++ word16 r.duty
  | 1 => [r.token, byteOf (r.reason.code + 16 * bit (s.switchRead ax .minus) + 32 * bit (s.switchRead ax .plus)
        + 64 * targetCode r.target)] ++ word16 (targetPosition r.target) ++ word16 r.peak
  | _ => [r.token, byteOf (holderCode r.lease), byteOf (leaseRemaining r.lease), byteOf r.stallCount] ++ word16 r.backOff

/-- READ_AXIS (R162). -/
def execReadAxis (s : State) : Host.Outcome State Fault Refusal :=
  completing s .readAxis fun r s =>
    stationOnly r (answerRead r 0 3 (fun part argument => (s.namedAxis argument).map fun ax => s.axisPart ax part) s) s

/-! ## SENSE -/

def SenseState.code : SenseState → Nat
  | .off => 0
  | .settling => 1
  | .running => 2

def axisCode : Option Axis → Nat
  | none => 0
  | some .A => 1
  | some .B => 2

/-- The content of a SENSE part (R130, R196). -/
def State.sensePart (s : State) (c : Fin 4) (part : Nat) : List Byte :=
  let ch := s.sense[c]
  match part with
  | 0 => [byteOf (ch.state.code + 4 * ch.settle + 16 * bit ch.flag + 32 * axisCode (s.boundAxis c)),
        byteOf ch.obstruction] ++ signed16 ch.sample ++ signed16 ch.force
  | _ => signed16 (roundedBaseline ch.baseline) ++ [byteOf s.cfg.sense[c].ratio, byteOf s.cfg.sense[c].rate]
      ++ word16 ch.runLength

/-- READ_SENSE (R130). -/
def execReadSense (s : State) : Host.Outcome State Fault Refusal :=
  completing s .readSense fun r s =>
    stationOnly r (answerRead r 1 2 (fun part argument => (s.namedChannel argument).map fun c => s.sensePart c part) s) s

/-! ## TIME -/

/-- Last Δ, with its markers (R196). -/
def deltaField : LastDelta → Int
  | .none => -32768
  | .gross => -32767
  | .value d => d

/-- The content of a TIME part (R38, R196). -/
def State.timePart (s : State) (part : Nat) : List Byte :=
  match part with
  | 0 => word16 s.time.p.toNat ++ word16 s.time.arrivals.toNat ++ signed16 (deltaField s.time.lastDelta)
  | _ => [byteOf (s.time.lock.code + 4 * s.time.engine.code), byteOf (s.time.reference.getD 0)] ++ word16 s.time.p.toNat

/-- A selector that takes no argument refuses a nonzero argument byte (R74). -/
def noArgument (argument : Byte) (content : List Byte) : Except Code (List Byte) :=
  if argument = 0 then .ok content else .error .badParam

/-- READ_TIME (R38). -/
def execReadTime (s : State) : Host.Outcome State Fault Refusal :=
  completing s .readTime fun r s =>
    stationOnly r (answerRead r 2 2 (fun part argument => noArgument argument (s.timePart part)) s) s

/-! ## ALARMS -/

/-- The hold byte of an axis (R196). -/
def State.holdByte (s : State) (ax : Axis) : Byte :=
  let c := s.causes ax
  byteOf (bit (s.axisSafety ax).held + 2 * bit c.allstop + 4 * bit c.estop + 8 * bit c.holdOff + 16 * bit c.alarm)

/-- The interlock byte of an axis (R196). -/
def AxisSafety.interlockByte (a : AxisSafety) : Byte :=
  byteOf (natOfBits (a.terms.reverse) + 16 * bit a.plus + 32 * bit a.minus)

/-- The content of an ALARMS part (R180, R196). -/
def State.alarmsPart (s : State) (part : Nat) : List Byte :=
  s.safety.count ::
    match part with
    | 0 => word24 s.safety.alarms.toNat ++ [byteOf s.alarmNumber,
        byteOf (bit s.line.allstop + 2 * bit s.line.silent + 4 * bit s.line.erratic + 8 * bit s.line.estop)]
    | 1 => [byteOf s.safety.holdOff, s.holdByte .A, s.holdByte .B,
        byteOf (s.cfg.axisA.terms.length + 16 * s.cfg.axisB.terms.length)]
    | 2 => [s.safety.a.interlockByte, s.safety.b.interlockByte] ++ word24 s.cfg.reportMask.toNat
    | 3 => word24 s.cfg.axisA.holdMask.toNat
    | _ => word24 s.cfg.axisB.holdMask.toNat

/-- READ_ALARMS (R180). -/
def execReadAlarms (s : State) : Host.Outcome State Fault Refusal :=
  completing s .readAlarms fun r s =>
    stationOnly r (answerRead r 3 5 (fun part argument => noArgument argument (s.alarmsPart part)) s) s

/-! ## LIGHT -/

/-- The marker FFh for none. -/
def orMarker {n : Nat} : Option (Fin n) → Byte
  | some x => byteOf x.val
  | none => 0xFF

/-- The periods remaining of a channel's fade (R101, R109). -/
def State.fadeRemaining (s : State) (c : Channel) : Nat :=
  match c.fade with
  | some f =>
    match s.pool[f.slot] with
    | some slot => slot.length - slot.elapsed
    | none => 0
  | none => 0

/-- The content of a LIGHT part (R101, R196). Without a run region V is 0, as part 4 states, and H, T and the step periods are
sent as 0 too (notes/assumptions/36.md, DESIGN CHOICE, unsafe). -/
def State.lightPart (s : State) (i : Fin 24) (part : Nat) : List Byte :=
  let c := s.light.channels[i]
  let n := s.light.night
  match part with
  | 0 => [byteOf (bit c.enabled + 2 * bit s.light.master + 4 * bit s.light.override + 8 * bit n.on
        + 16 * bit (n.inside i.val) + 32 * bit s.light.stepping + 64 * s.peer.shed)]
      ++ word16 c.level ++ word16 s.light.outputs[i] ++ [orMarker c.lastScene]
  | 1 => word16 (s.light.logical i) ++ word16 ((c.fade.map Fade.start).getD 0) ++ word16 ((c.fade.map Fade.goal).getD 0)
  | 2 => [orMarker (c.fade.map Fade.slot)] ++ word16 (s.fadeRemaining c) ++ word16 n.cap ++ [byteOf n.first]
  | 3 => [byteOf n.last] ++ word32 c.groups.toNat ++ [byteOf s.light.offset]
  | _ =>
    match s.light.region with
    | some r => [byteOf r.head, byteOf r.span, byteOf r.tail, byteOf r.steps]
    | none => [0, 0, 0, 0]

/-- READ_LIGHT (R101). -/
def execReadLight (s : State) : Host.Outcome State Fault Refusal :=
  completing s .readLight fun r s =>
    stationOnly r (answerRead r 4 5
      (fun part argument => (orBad (codeBelow 24 argument.toNat)).map fun i => s.lightPart i part) s) s

/-! ## PEER -/

/-- The content of a PEER part (R58, R196); a placeholder reads the absent marker FFh in every content byte. -/
def PeerEntry.part (e : PeerEntry) (part : Nat) : List Byte :=
  match part, e.content with
  | 0, some c => [byteOf (1 + 2 * bit e.fresh + 4 * bit e.pinned)] ++ word16 e.age
      ++ [byteOf c.interval, byteOf c.role.toNat, byteOf (c.group.toNat + 16 * c.demand.toNat)]
  | 0, none => [byteOf (2 * bit e.fresh + 4 * bit e.pinned)] ++ word16 e.age ++ [0xFF, 0xFF, 0xFF]
  | _, some c => [c.flags, c.stateA, c.stateB, c.alarmCount, byteOf (c.lock.toNat + 4 * c.engine.toNat)]
  | _, none => [0xFF, 0xFF, 0xFF, 0xFF, 0xFF]

/-- The entry of an address (R52). -/
def State.peerEntry (s : State) (address : Nat) : Option PeerEntry :=
  s.peer.table.find? fun e => e.address == address

/-- What READ PEER returns (R58). -/
def State.peerPart (s : State) (address part : Nat) : Except Code (List Byte) :=
  if address = 0 ∨ 62 < address then .error .badParam
  else
    match s.peerEntry address with
    | some e => .ok (e.part part)
    | none => .error .absent

/-- READ_PEER (R58). -/
def execReadPeer (s : State) : Host.Outcome State Fault Refusal :=
  completing s .readPeer fun r s =>
    stationOnly r (answerRead r 5 2 (fun part argument => s.peerPart argument.toNat part) s) s

/-! ## SCENE -/

/-- The content of the SCENE part (R102, R196). -/
def State.scenePart (s : State) (scene : Fin 8) (i : Fin 24) : List Byte :=
  word16 s.light.scenes[scene].fadeTime ++ word16 ((s.light.scenes[scene].levels[i]).getD 65535)
    ++ [byteOf (bit (s.cfg.alertScene == some scene) + 2 * bit (s.cfg.powerOnScene == some scene))]

/-- READ_SCENE: the argument holds the scene in bits 7..5 and the channel in bits 4..0 (R102, R196). -/
def execReadScene (s : State) : Host.Outcome State Fault Refusal :=
  completing s .readScene fun r s =>
    stationOnly r (answerRead r 6 1
      (fun _ argument => (orBad (codeBelow 24 (argument.toNat % 32))).map fun i =>
        s.scenePart (Fin.ofNat 8 (argument.toNat / 32)) i) s) s

end Sys2Proof.Machine
end

