-- ==== Sys2Proof/Machine/Image.lean ====
section
/-! DEFINITION. The configuration image: its layout (R197), with every value taken as R190 gives, and the tests of R188. -/

namespace Sys2Proof.Machine

/-- The bytes of a section of the image. -/
def section_ (img : List Byte) (offset length : Nat) : List Byte := (img.drop offset).take length

/-- A value taken into a range (R190). -/
def into (lo hi n : Nat) : Nat := max lo (min hi n)

/-- A scene code: any other code is none (R190). -/
def sceneCode (n : Nat) : Option (Fin 8) := if n < 8 then some (Fin.ofNat 8 n) else none

/-- Axis kind (R190, R198). -/
def kindOf : Nat → AxisKind
  | 1 => .hatch
  | 2 => .windlass
  | _ => .none

/-- Obstruction response: STOP_BACK_OFF applies to a HATCH only (R134, R190). -/
def responseOf (kind : AxisKind) (n : Nat) : Response := if kind = .hatch ∧ n = 1 then .stopBackOff else .stop

/-- The scope of a term (R172, R198). -/
def scopeOf : Nat → Scope
  | 0 => .plus
  | 1 => .minus
  | _ => .both

/-- An interlock term; a damaged one is kept with scope BOTH and is never satisfied (R190). -/
def parseTerm (p : List Byte) : Term :=
  let damaged := 7 < natAt p 1 || 1 < natAt p 2 || 2 < natAt p 3
  { station := natAt p 0, flag := natAt p 1, required := natAt p 2,
    scope := if damaged then .both else scopeOf (natAt p 3), damaged := damaged }

/-- The terms of an axis section; an axis of kind NONE has none (R172). -/
def parseTerms (kind : AxisKind) (p : List Byte) : List Term :=
  if kind = .none then []
  else (List.range (min 4 (natAt p 22))).map fun i => parseTerm (section_ p (23 + 4 * i) 4)

/-- An axis section (R190, R197). -/
def parseAxis (p : List Byte) : AxisConfig :=
  let kind := kindOf (natAt p 0)
  { kind := kind, travelMax := max 1 (nat16At p 1), runDuty := min 1000 (nat16At p 3),
    creepDuty := min 1000 (nat16At p 5), creepDistance := nat16At p 7, rampUp := min 250 (natAt p 9),
    rampDown := min 250 (natAt p 10), startBlanking := min 50 (natAt p 11), stallTime := into 5 250 (natAt p 12),
    jogLease := into 10 100 (natAt p 13),
    bound := if natAt p 14 < 4 then some (Fin.ofNat 4 (natAt p 14)) else none,
    obstructionLimit := min 32767 (nat16At p 15), persistence := max 1 (natAt p 17),
    response := responseOf kind (natAt p 18), backOffDistance := nat16At p 19, runShed := min 3 (natAt p 21),
    terms := parseTerms kind p, holdMask := BitVec.ofNat 23 (nat24At p 39) }

/-- A decimation ratio is one of four (R190). -/
def isRatio (n : Nat) : Bool := n == 16 || n == 32 || n == 64 || n == 128

/-- A sense section (R190, R197). -/
def parseSense (p : List Byte) : SenseConfig :=
  { enabled := natAt p 0 != 0 && isRatio (natAt p 1), ratio := natAt p 1, rate := min 7 (natAt p 2),
    threshold := int16At p 3 }

/-- A key function (R190, R197, R198). -/
def parseKey (p : List Byte) : KeyFunction :=
  match natAt p 0 with
  | 1 => .inputOnly
  | 2 => if natAt p 1 < 8 then .sceneLocal (natAt p 1) else .none
  | 3 => if natAt p 1 < 8 ∧ natAt p 2 < 32 then .sceneGroup (natAt p 1) (natAt p 2) else .none
  | 4 => .jog (byteAt p 1) (byteAt p 2)
  | 5 => .stop (byteAt p 1)
  | _ => .none

/-- A flag source (R190, R198). -/
def flagSourceOf (n : Nat) : FlagSource :=
  if 1 ≤ n ∧ n ≤ 8 then .key (Fin.ofNat 8 (n - 1))
  else if 15 ≤ n ∧ n ≤ 18 then .sense (Fin.ofNat 4 (n - 15))
  else
    match n with
    | 9 => .minusEnd .A
    | 10 => .minusEnd .B
    | 11 => .plusEnd .A
    | 12 => .plusEnd .B
    | 13 => .moving .A
    | 14 => .moving .B
    | 19 => .estop
    | _ => .zero

/-- The axis action of the ALLSTOP row (R190). -/
def allstopAction (n : Nat) : AxisAction := if n = 2 then .stopRamp else .stopImmediate

/-- The axis action of the SILENT and ERRATIC rows (R190). -/
def rowAction (n : Nat) : AxisAction := if n = 0 then .none else .stopRamp

/-- A light action (R190). -/
def lightActionOf (n : Nat) : LightAction := if n = 1 then .recall else .none

/-- A row of the trigger table (R190, R197). -/
def parseRow (action : Nat → AxisAction) (p : List Byte) : TriggerRow :=
  { axisAction := action (natAt p 0), lightAction := lightActionOf (natAt p 1), holdOff := min 250 (natAt p 2) }

/-- The trigger table (R197). -/
def parseTrigger (p : List Byte) : TriggerTable :=
  { allstop := parseRow allstopAction (section_ p 0 3), silent := parseRow rowAction (section_ p 3 3),
    erratic := parseRow rowAction (section_ p 6 3) }

/-- A stored scene level (R190). -/
def levelOf (n : Nat) : Option Nat := if n = 65535 then none else some (min n 4095)

/-- A scene (R190, R197). -/
def parseScene (p : List Byte) : Scene :=
  { fadeTime := min 6000 (nat16At p 0), levels := Vector.ofFn fun i => levelOf (nat16At p (2 + 2 * i.val)) }

/-- The scenes (R197). -/
def parseScenes (img : List Byte) : Vector Scene 8 :=
  Vector.ofFn fun i => parseScene (section_ img (120 + 50 * i.val) 50)

/-- The group sets of the light channels (R197). -/
def parseGroups (img : List Byte) : Vector (BitVec 32) 24 :=
  Vector.ofFn fun i => BitVec.ofNat 32 (nat32At img (24 + 4 * i.val))

/-- The configuration of an image (R190, R197). Bit 23 of a mask names no alarm (notes/assumptions/17.md). -/
def parseImage (img : List Byte) : Configuration :=
  { beaconCapable := natAt img 3 != 0, budget := max 1 (natAt img 4), silentTime := into 10 250 (natAt img 5),
    interval := into 10 250 (natAt img 6), powerGroup := min 7 (natAt img 7), alertScene := sceneCode (natAt img 8),
    powerOnScene := sceneCode (natAt img 9),
    flagSources := Vector.ofFn fun i => flagSourceOf (natAt img (10 + i.val)),
    reportMask := BitVec.ofNat 23 (nat24At img 18), axisA := parseAxis (section_ img 520 80),
    axisB := parseAxis (section_ img 600 80),
    sense := Vector.ofFn fun i => parseSense (section_ img (680 + 8 * i.val) 8),
    keys := Vector.ofFn fun i => parseKey (section_ img (712 + 4 * i.val) 4),
    trigger := parseTrigger (section_ img 744 9) }

/-- The image is good: the signature, the format number, and the running check at 0000h after its last byte (R188). -/
def goodImage (img : List Byte) (check : BitVec 16) : Bool :=
  natAt img 0 == 0xD2 && natAt img 1 == 0x4C && natAt img 2 == 1 && check == 0

end Sys2Proof.Machine
end

