-- ==== Sys2Proof/Machine/Startup.lean ====
section
/-! DEFINITION. Hard reset, the reading of the image, and the end of LOADING in every block (10, and the last section of each
chapter). -/

namespace Sys2Proof.Machine

/-- HARD_RESET: every block takes its values after hard reset, the straps are read, and 0 or 63 ends LOADING at once in
LISTEN-ONLY (R184, R185). What stands on the other pins, and the commands that wait, are the surroundings'. -/
def execHardReset (straps : BitVec 6) (s : State) : Host.Outcome State Fault Refusal :=
  .next { State.cold { s.pins with straps := straps } with pending := s.pending }

/-- HELD_IN_RESET: every output is 0 and inactive, and no input is sampled, until the reset is released (R184). The blocks
stand at their values after hard reset at once, the loader as the straps last presented give it (notes/assumptions/40.md,
DESIGN CHOICE, unsafe). -/
def execHeldInReset (s : State) : Host.Outcome State Fault Refusal :=
  .next { State.cold s.pins with pending := s.pending, inReset := true }

/-! ## The end of LOADING -/

/-- The Line Unit at the end of LOADING (R22). -/
def State.startLine (s : State) : State :=
  s.setLine { s.line with budget := s.cfg.budget, silence := 0, erratic := false, silent := false }

/-- The Time Base at the end of LOADING (R27). -/
def State.startEngine (s : State) : State :=
  if s.cfg.beaconCapable then
    s.setTime { s.time with engine := .standby, silenceTimer := 25 + s.loader.address.getD 0 }
  else s.setTime { s.time with engine := .listener, silenceTimer := 0 }

/-- The addresses the terms of an axis pin: those in 1..62 other than the own (R55). -/
def State.pinnedBy (s : State) (ax : Axis) : List Nat :=
  ((s.axisCfg ax).terms.map Term.station).filter fun a => 1 ≤ a && a ≤ 62 && s.loader.address != some a

/-- A placeholder for a pinned address (R55). -/
def placeholder (a : Nat) : PeerEntry := { address := a, content := none, age := 0, fresh := false, pinned := true }

/-- The peer table at the end of LOADING: a placeholder for each pinned address (R55, R59). -/
def State.startPeers (s : State) : State :=
  s.setPeer { s.peer with table := (s.pinnedBy .A ++ s.pinnedBy .B).dedup.map placeholder }

/-- A light channel takes its group set (R103). -/
def Channel.inGroups (c : Channel) (groups : BitVec 32) : Channel := { c with groups := groups }

/-- The Light Unit takes its channels' group sets and its scenes (R103). -/
def State.startLights (s : State) (groups : Vector (BitVec 32) 24) (scenes : Vector Scene 8) : State :=
  s.setLight { s.light with
    channels := Vector.ofFn fun i => s.light.channels[i].inGroups groups[i], scenes := scenes }

/-- The state an enabled channel starts in (R116, R132). -/
def SenseChannel.begun (cfg : SenseConfig) : SenseChannel :=
  { SenseChannel.cold with state := if cfg.enabled then .settling else .off }

/-- The Sense Unit at the end of LOADING (R116, R132). -/
def State.startSense (s : State) : State := s.setSense (Vector.ofFn fun c => .begun s.cfg.sense[c])

/-- An alarm whose condition is present as the set is formed is set in the ordinary way (R182). -/
def State.raiseIf (s : State) (c : Bool) (a : Alarm) : State := if c then s.raise a else s

/-- The state an axis record is formed in (R163). -/
def State.formedState (s : State) (ax : Axis) : AxisState :=
  if s.inConflict ax then .fault else if s.heldNow ax then .held else .stopped

/-- An axis record is formed at the end of LOADING; that is no change of state (R163). -/
def State.formAxis (s : State) (ax : Axis) : State :=
  if (s.axisCfg ax).kind = .none then s.setAxis ax .disabled
  else
    s.setAxis ax { AxisRecord.disabled with
      state := s.formedState ax,
      position := if !s.switchRead ax .minus && s.switchRead ax .plus then (s.axisCfg ax).travelMax else 0,
      referenced := s.switchRead ax .minus,
      reason := if s.inConflict ax then .endConflict else .none }

/-- The hold state of an axis as the alarm set is formed (R182). -/
def State.formHold (s : State) (ax : Axis) : State :=
  s.setAxisSafety ax { s.axisSafety ax with held := s.heldNow ax }

/-- The Safety Unit and the axis records at the end of LOADING: the alarm set formed, conditions present set their alarms,
terms are evaluated, holds computed, records formed (R163, R182). ALLSTOP_SEEN is set first, then END_CONFLICT of axis A, then
of axis B, where the spec gives no order (notes/assumptions/44.md, DESIGN CHOICE, unsafe). -/
def State.startSafety (s : State) (formed : BitVec 23) : State :=
  let s1 := s.setSafety { s.safety with alarms := formed, count := 0, holdOff := 0 }
  let s2 := ((s1.raiseIf s1.line.allstop .allstopSeen).raiseIf (s1.inConflict .A) (.endConflict .A)).raiseIf
    (s1.inConflict .B) (.endConflict .B)
  (((((s2.evaluate .A).evaluate .B).formAxis .A).formAxis .B).formHold .A).formHold .B

/-- The Peer Unit's own content as it then stands, its counter, and the one announce request (R51, R59). -/
def State.startAnnouncing (s : State) : State := (s.setPeer { s.peer with content := s.contentNow }).announceRequest

/-- The power-on scene, or the alert scene under ALLSTOP (R100). -/
def State.powerOn (s : State) : State :=
  if s.line.allstop && s.cfg.trigger.allstop.lightAction == .recall then s.beginOverride
  else
    match s.cfg.powerOnScene with
    | some scene => s.recallScene scene (fun _ => true) none
    | none => s

/-- The loader has ended; it holds the station state and the address (R189, R191). The staging copy is gone, and the attempt and
the running check keep their last values (notes/assumptions/51.md, DESIGN CHOICE, unsafe). -/
def State.endLoading (s : State) (station : Station) (cfg : Configuration) : State :=
  (s.setLoader { s.loader with station := station, staging := [] }).setCfg cfg

/-- LOADING ends in CONFIGURED (R189). -/
def State.configure (s : State) (img : List Byte) : State :=
  let s1 := (s.endLoading .configured (parseImage img)).startLine.startEngine.startPeers
  let s2 := (s1.startLights (parseGroups img) (parseScenes img)).startSense
  (s2.startSafety 0).startAnnouncing.powerOn

/-- LOADING ends in UNCONFIGURED, with CONFIG_BAD standing in the set as it is formed (R191, R182). -/
def State.unconfigure (s : State) : State :=
  ((s.endLoading .unconfigured .defaults).startLine.startEngine.startSafety Alarm.configBad.mask).startAnnouncing

/-! ## The attempts -/

/-- A failed attempt discards its staging copy; the next begins at once, and after the third LOADING ends in UNCONFIGURED
(R187). -/
def State.failAttempt (s : State) : State :=
  let s1 := s.setLoader { s.loader with staging := [], check := 0xFFFF, attempt := min 3 (s.loader.attempt + 1) }
  if s.loader.attempt < 3 then s1 else s1.unconfigure

/-- ATTEMPT_FAIL (R187). -/
def execAttemptFail (s : State) : Host.Outcome State Fault Refusal :=
  event s (s.station == .loading) s.failAttempt

/-- The memory's next bytes join the staging copy and the running check; none past byte 1023 is read (R187). -/
def State.feed (s : State) (bytes : List Byte) : State :=
  let taken := bytes.take (1024 - s.loader.staging.length)
  s.setLoader { s.loader with
    staging := s.loader.staging ++ taken, check := crcFrom s.loader.check (bitsOfBytes taken) }

/-- The image is judged when all 1024 bytes have been read (R188). -/
def State.judgeImage (s : State) : State :=
  if s.loader.staging.length < 1024 then s
  else if goodImage s.loader.staging s.loader.check then s.configure s.loader.staging
  else s.failAttempt

/-- IMAGE_JUDGED (R188). -/
def execImageJudged (bytes : List Byte) (s : State) : Host.Outcome State Fault Refusal :=
  event s (s.station == .loading) (s.feed bytes).judgeImage

end Sys2Proof.Machine
end

