-- ==== Sys2Proof/Machine/SystemRequests.lean ====
section
/-! DEFINITION. Taking a request, and the completions of ALARM CLEAR, MAP CLEAR, RESTART, a class-4 entry and an unknown
kind (04, 09). -/

namespace Sys2Proof.Machine

/-! ## Taking a request (R63) -/

/-- The addressing of a frame by its destination (R61). -/
def State.addressingOf (s : State) (dest : Nat) : Addressing :=
  if s.loader.address = some dest then .station else if dest = 127 then .all else .group (dest - 64)

/-- The request of an intake entry (R62). -/
def State.frameRequest (s : State) (e : IntakeEntry) : Request :=
  { source := .peer e.source, addressing := s.addressingOf e.dest, body := .frame e.cls e.kind e.payload }

/-- A key's request as the decoder holds it: no at byte, no expected token, no fade override (R65, R66). -/
def keyRequest (k : KeyRequest) : Request :=
  { source := .key, addressing := .station,
    body := match k with
      | .recall scene => .frame 3 1 [byteOf scene]
      | .groupRecall scene group => .groupRecall scene group
      | .jog a d => .frame 1 2 [a, d]
      | .jogRelease a d => .jogRelease a d
      | .stop a => .frame 1 3 [a] }

/-- The lowest-numbered key with a pending request (R63). -/
def State.pendingKey (s : State) : Option (Fin 8) :=
  (List.finRange 8).find? fun k => s.cmd.keys[k].pending.isSome

/-- A request waits for the decoder (R63). -/
def State.requestWaits (s : State) : Bool := s.pendingKey.isSome || !s.cmd.intake.isEmpty

/-- The decoder takes a pending key request, or else the head of the intake queue (R63). -/
def State.takeRequest (s : State) : State :=
  match s.pendingKey with
  | some k =>
    match s.cmd.keys[k].pending with
    | some q =>
      s.setCmd { s.cmd with
        keys := s.cmd.keys.set k { s.cmd.keys[k] with pending := none },
        decoder := some { request := keyRequest q, age := 0 } }
    | none => s
  | none =>
    match s.cmd.intake with
    | e :: rest => s.setCmd { s.cmd with intake := rest, decoder := some { request := s.frameRequest e, age := 0 } }
    | [] => s

/-- DECODE_TAKE (R63). -/
def execDecodeTake (s : State) : Host.Outcome State Fault Refusal :=
  event s (s.cmd.decoder.isNone && s.requestWaits) s.takeRequest

/-! ## ALARM CLEAR -/

/-- The condition behind an alarm lasts (R177). -/
def State.lasts (s : State) : Alarm → Bool
  | .allstopSeen => s.line.allstop
  | .silentSeen => s.line.silent
  | .erraticSeen => s.line.erratic
  | .endConflict ax => s.inConflict ax
  | .configBad => s.station == .unconfigured
  | _ => false

/-- Clears the alarms of a set, stepping the count for each that was set (R178, step 1). -/
def State.clearAlarms (s : State) (set : BitVec 23) : State :=
  let cleared := s.safety.alarms &&& set
  s.setSafety { s.safety with
    alarms := s.safety.alarms &&& ~~~set, count := s.safety.count + BitVec.ofNat 8 (popcount cleared) }

/-- Clears the alarms of a set and sets again those cleared whose conditions last, in the order of their codes (R177; R178,
steps 1 and 2; notes/assumptions/39.md, DESIGN CHOICE, unsafe). The holds are re-evaluated once after it (R179). -/
def State.clearAndSetAgain (s : State) (set : BitVec 23) : State :=
  (Alarm.all.filter fun a => a.within set && s.alarmSet a && s.lasts a).foldl State.setAlarm (s.clearAlarms set)

/-- ALARM CLEAR at the Safety Unit, with its expected change count (R178, R72, R181). -/
def State.alarmClear (s : State) (x : BitVec 23 × Option Byte) : Code × State :=
  match admission false (stale x.2 s.safety.count) with
  | some code => (code, s)
  | none => (.ok, (s.clearAndSetAgain x.1).foresee)

/-- ALARM_CLEAR (R178). An event that holds an axis again within the instant comes after the reply (R181). -/
def execAlarmClear (s : State) : Host.Outcome State Fault Refusal :=
  completing s .alarmClear fun r s =>
    (respond r (parseAlarmClear r.payload) (fun x s => s.alarmClear x) s).oneInstant

/-! ## MAP CLEAR -/

/-- MAP_CLEAR (R37). -/
def execMapClear (s : State) : Host.Outcome State Fault Refusal :=
  completing s .mapClear fun r s =>
    respond r (parseNothing r.payload) (fun _ s => (.ok, s.setTime { s.time with arrivals := 0 })) s

/-! ## RESTART -/

/-- The Line Unit's part (R24): every frame but the one on the line leaves, and the refresh mark is cleared. A frame in
contention leaves at a loss. -/
def State.restartLine (s : State) : State :=
  s.setLine { s.line with
    queue := s.line.queue.filter SendFrame.onLine, refresh := false, leaveOnLoss := s.line.own == .contending }

/-- The Command Unit's part (R78). -/
def State.restartCmd (s : State) : State :=
  s.setCmd { s.cmd with
    intake := [], window := none, keys := Vector.ofFn fun k => { s.cmd.keys[k] with pending := none } }

/-- A channel with a fade takes its goal (R104, R115). -/
def Channel.completeAny (c : Channel) : Channel :=
  match c.fade with
  | some f => { c with level := f.goal, fade := none }
  | none => c

/-- The Light Unit's and the Ramp Pool's part (R104, R115). -/
def State.restartLights (s : State) : State :=
  let channels := Vector.ofFn fun i => s.light.channels[i].completeAny
  let motion : MotionUnit :=
    { a := { s.motion.a with slot := none }, b := { s.motion.b with slot := none } }
  (((s.setLight { s.light with channels := channels }).setPool (Vector.replicate 16 none)).setMotion motion).stopRun

/-- The Motion Unit's part for one axis (R164). -/
def State.restartAxis (s : State) (ax : Axis) : State :=
  match (s.axis ax).state with
  | .starting | .running | .stopping | .reversing => s.restFor ax .restart
  | .fault => if s.inConflict ax then s else s.rest ax
  | .stopped | .held | .disabled => s

/-- The soft restart of every block, the Safety Unit's part before the Motion Unit's (R78, R24, R44, R60, R104, R115, R164,
R183; notes/assumptions/11.md). -/
def State.softRestart (s : State) : State :=
  let s1 := s.restartLine.restartCmd
  let s2 := (s1.setTime { s1.time with schedule := [] }).restartLights
  let s3 := s2.clearAndSetAgain (BitVec.allOnes 23)
  ((s3.restartAxis .A).restartAxis .B).announceRequest

/-- RESTART (R78). An event that holds an axis again within the instant comes after the reply (R181). -/
def execRestart (s : State) : Host.Outcome State Fault Refusal :=
  completing s .restart fun r s =>
    (stationOnly r (respond r (parseNothing r.payload) (fun _ s => (.ok, s.softRestart.foresee)) s) s).oneInstant

/-! ## What is discarded or refused by its class and kind (R68) -/

/-- REPLY_DISCARD: a class-4 entry has no reply and no effect (R68). -/
def execReplyDiscard (s : State) : Host.Outcome State Fault Refusal :=
  completing s .replyDiscard fun _ s => s

/-- UNKNOWN_KIND (R68). -/
def execUnknownKind (s : State) : Host.Outcome State Fault Refusal :=
  completing s .unknownKind fun r s => s.reply r .unknownKind

end Sys2Proof.Machine
end

