-- ==== Sys2Proof/Machine/Dispatch.lean ====
section
/-! DEFINITION. The meaning of each command, one arm for each row of spec/opcode_table.json. -/

namespace Sys2Proof.Machine

def exec (i : Instr) (s : State) : Host.Outcome State Fault Refusal :=
  match i with
  | .hardReset straps => Sys2Proof.Machine.execHardReset straps s
  | .heldInReset => Sys2Proof.Machine.execHeldInReset s
  | .attemptFail => Sys2Proof.Machine.execAttemptFail s
  | .imageJudged bytes => Sys2Proof.Machine.execImageJudged bytes s
  | .periodBoundary keys found => Sys2Proof.Machine.execPeriodBoundary keys found s
  | .rampCompletion slot => Sys2Proof.Machine.execRampCompletion slot s
  | .silenceTimerExpiry => Sys2Proof.Machine.execSilenceTimerExpiry s
  | .beaconOffer => Sys2Proof.Machine.execBeaconOffer s
  | .referenceLost => Sys2Proof.Machine.execReferenceLost s
  | .scheduleDueRun => Sys2Proof.Machine.execScheduleDueRun s
  | .announceExpiry => Sys2Proof.Machine.execAnnounceExpiry s
  | .freshnessLapse address => Sys2Proof.Machine.execFreshnessLapse address s
  | .runStep => Sys2Proof.Machine.execRunStep s
  | .keyDebounceEstablish key => Sys2Proof.Machine.execKeyDebounceEstablish key s
  | .keyPress key => Sys2Proof.Machine.execKeyPress key s
  | .keyRelease key => Sys2Proof.Machine.execKeyRelease key s
  | .leaseEnd ax => Sys2Proof.Machine.execLeaseEnd ax s
  | .stall ax => Sys2Proof.Machine.execStall ax s
  | .blankingEnd ax => Sys2Proof.Machine.execBlankingEnd ax s
  | .holdOffEnd => Sys2Proof.Machine.execHoldOffEnd s
  | .frameBegin bits => Sys2Proof.Machine.execFrameBegin bits s
  | .contentionLost bits => Sys2Proof.Machine.execContentionLost bits s
  | .contentionWon bits => Sys2Proof.Machine.execContentionWon bits s
  | .bitError bits => Sys2Proof.Machine.execBitError bits s
  | .headerEndLatch bits => Sys2Proof.Machine.execHeaderEndLatch bits s
  | .senderEntersSlot bits => Sys2Proof.Machine.execSenderEntersSlot bits s
  | .slotEnd level => Sys2Proof.Machine.execSlotEnd level s
  | .startBitRead bits => Sys2Proof.Machine.execStartBitRead bits s
  | .frameReceiveIntact bits => Sys2Proof.Machine.execFrameReceiveIntact bits s
  | .receiveError bits => Sys2Proof.Machine.execReceiveError bits s
  | .invalidSourceDiscard bits => Sys2Proof.Machine.execInvalidSourceDiscard bits s
  | .deferredErrorCount bits => Sys2Proof.Machine.execDeferredErrorCount bits s
  | .beaconReceive => Sys2Proof.Machine.execBeaconReceive s
  | .announceReceive => Sys2Proof.Machine.execAnnounceReceive s
  | .silentEntry => Sys2Proof.Machine.execSilentEntry s
  | .allstopEntry bits => Sys2Proof.Machine.execAllstopEntry bits s
  | .allstopExit bits => Sys2Proof.Machine.execAllstopExit bits s
  | .estopAssert => Sys2Proof.Machine.execEstopAssert s
  | .estopRelease => Sys2Proof.Machine.execEstopRelease s
  | .travelPulse ax high => Sys2Proof.Machine.execTravelPulse ax high s
  | .endSwitchChange ax which active => Sys2Proof.Machine.execEndSwitchChange ax which active s
  | .senseSample channel bits => Sys2Proof.Machine.execSenseSample channel bits s
  | .obstructionSignal ax => Sys2Proof.Machine.execObstructionSignal ax s
  | .clip channel => Sys2Proof.Machine.execClip channel s
  | .decodeTake => Sys2Proof.Machine.execDecodeTake s
  | .goto => Sys2Proof.Machine.execGoto s
  | .jog => Sys2Proof.Machine.execJog s
  | .jogRelease => Sys2Proof.Machine.execJogRelease s
  | .stop => Sys2Proof.Machine.execStop s
  | .axisClear => Sys2Proof.Machine.execAxisClear s
  | .reference => Sys2Proof.Machine.execReference s
  | .tare => Sys2Proof.Machine.execTare s
  | .sceneRecall => Sys2Proof.Machine.execSceneRecall s
  | .groupRecallRequest => Sys2Proof.Machine.execGroupRecallRequest s
  | .levelSet => Sys2Proof.Machine.execLevelSet s
  | .lightsEnable => Sys2Proof.Machine.execLightsEnable s
  | .channelEnable => Sys2Proof.Machine.execChannelEnable s
  | .nightSet => Sys2Proof.Machine.execNightSet s
  | .nightOff => Sys2Proof.Machine.execNightOff s
  | .runSet => Sys2Proof.Machine.execRunSet s
  | .runStart => Sys2Proof.Machine.execRunStart s
  | .runStop => Sys2Proof.Machine.execRunStop s
  | .sceneTime => Sys2Proof.Machine.execSceneTime s
  | .alarmClear => Sys2Proof.Machine.execAlarmClear s
  | .mapClear => Sys2Proof.Machine.execMapClear s
  | .restart => Sys2Proof.Machine.execRestart s
  | .readAxis => Sys2Proof.Machine.execReadAxis s
  | .readSense => Sys2Proof.Machine.execReadSense s
  | .readTime => Sys2Proof.Machine.execReadTime s
  | .readAlarms => Sys2Proof.Machine.execReadAlarms s
  | .readLight => Sys2Proof.Machine.execReadLight s
  | .readPeer => Sys2Proof.Machine.execReadPeer s
  | .readScene => Sys2Proof.Machine.execReadScene s
  | .levelWindow => Sys2Proof.Machine.execLevelWindow s
  | .levelData => Sys2Proof.Machine.execLevelData s
  | .replyDiscard => Sys2Proof.Machine.execReplyDiscard s
  | .unknownKind => Sys2Proof.Machine.execUnknownKind s

end Sys2Proof.Machine
end

