-- ==== Sys2Proof/Machine/Clock.lean ====
section
/-! DEFINITION. The station's own clock: what the station itself puts in the queue, and one phase unit passing (R25, R62,
R63; notes/assumptions/4.md). -/

namespace Sys2Proof.Machine

/-- The command that carries out an owed event. -/
def commandFor : Owed → Instr
  | .slotStep k => .rampCompletion k
  | .silenceTimerExpiry => .silenceTimerExpiry
  | .beaconOffer => .beaconOffer
  | .referenceLost => .referenceLost
  | .scheduleDueRun => .scheduleDueRun
  | .announceExpiry => .announceExpiry
  | .freshnessLapse a => .freshnessLapse a
  | .runStep => .runStep
  | .keyEstablish k => .keyDebounceEstablish k
  | .keyPress k => .keyPress k
  | .keyRelease k => .keyRelease k
  | .leaseEnd ax => .leaseEnd ax
  | .stall ax => .stall ax
  | .blankingEnd ax => .blankingEnd ax
  | .holdOffEnd => .holdOffEnd
  | .silentEntry => .silentEntry
  | .estopRelease => .estopRelease
  | .beacon _ _ _ _ => .beaconReceive
  | .announce _ _ => .announceReceive
  | .obstruction ax _ _ => .obstructionSignal ax
  | .clip c => .clip c

/-- The time a decode takes: 1.0 ms, in phase units of 10 µs (R62). -/
def decodeUnits : Nat := 100

/-- The commands the station owes at this instant: the events owed; a request to take; a decode that is complete; an
emergency stop that its input shows (R62, R63, R18). -/
def State.ownCommands (s : State) : List Instr :=
  if !s.owed.isEmpty then s.owed.map commandFor
  else if s.estopShown then [.estopAssert]
  else
    match s.cmd.decoder with
    | some f => if decodeUnits ≤ f.age then [completionOf f.request] else []
    | none => if s.requestWaits then [.decodeTake] else []

/-- One phase unit of 10 µs passes (R25, R35, R62). -/
def State.passUnit (s : State) : State :=
  let s1 := s.setTime { s.time with
    elapsed := s.time.elapsed + 1, latch := s.time.latch.map fun l => { l with age := l.age + 1 } }
  s1.setCmd { s1.cmd with decoder := s1.cmd.decoder.map fun f => { f with age := f.age + 1 } }

/-- A phase unit passes; where it is the last of the period, the boundary comes, with the inputs as they stand (R25). -/
def State.advance (s : State) : State :=
  let s1 := s.passUnit
  if s1.time.elapsed < s1.time.periodLength then s1
  else { s1 with pending := [.periodBoundary s1.pins.keys { estopRead := s1.pins.estop }] }

/-- What the clock does on an empty queue: it puts in what the station owes, or lets a phase unit pass. Held in reset, the
station idles (R184). -/
def State.clock (s : State) : State :=
  if s.inReset then s
  else if s.ownCommands.isEmpty then s.advance else { s with pending := s.ownCommands }

end Sys2Proof.Machine
end

