-- ==== Sys2Proof/Safety.lean ====
section
/-! DEFINITION. What a sound state of the station is, in the terms the statements use: what stands between two commands, and
the laws the spec names ("This is the station's law for ..."). -/

namespace Sys2Proof.Machine

/-! ## Between two commands -/

/-- Nothing is left to take: no report waits, no event of the instant is to come, the announced content is the one held (R48),
and the holds are those the causes give (R171). -/
def State.calm (s : State) : Bool :=
  s.safety.raised.isEmpty && !s.safety.within && decide (s.contentNow = s.peer.content) && !s.holdStale .A && !s.holdStale .B

/-- The effective shed level and the outputs are those that belong to the state (R57, R95, R96). -/
def State.published (s : State) : Bool := decide (s.publish = s)

/-- The state between two commands. -/
def State.quiet (s : State) : Bool := s.calm && s.published

/-- A quiet station that is not held in reset. -/
def State.awake (s : State) : Bool := !s.inReset && s.quiet

/-- Every block follows (R48, R57, R96, R171), and a station held in reset has no configuration (R184, R191). -/
def State.follows (s : State) : Prop := s.quiet = true ∧ (s.inReset = true → s.cfg = Configuration.defaults)

/-! ## The station's laws -/

/-- The law for the drives (R135): the duty is nonzero in the motor-powered states only. The brake follows the state by
definition (`State.brakePin`). -/
def State.drivesLawful (s : State) : Prop :=
  ∀ ax, (s.axis ax).state.motorPowered = false → (s.axis ax).duty = 0

/-- The law for positions (R136). -/
def State.positionsLawful (s : State) : Prop := ∀ ax, (s.axis ax).position ≤ (s.axisCfg ax).travelMax

/-- The law for leases (R149). -/
def State.leasesLawful (s : State) : Prop :=
  ∀ ax, (s.axis ax).lease ≠ none → (s.axis ax).state.moves = true ∧ (s.axis ax).mode = some .jog

/-- The axis drives in STARTING, RUNNING or REVERSING. -/
def AxisState.drives : AxisState → Bool
  | .starting | .running | .reversing => true
  | .disabled | .stopped | .stopping | .held | .fault => false

/-- The law for emergency stops (R157). -/
def State.stopsLawful (s : State) : Prop :=
  s.line.allstop = true ∨ s.line.estop = true → ∀ ax, (s.axis ax).state.drives = false

/-- The bounds of the send queue, the intake queue and the schedule list (R20, R61, R39). -/
def State.queuesBounded (s : State) : Prop :=
  s.line.queue.length ≤ 8 ∧ s.cmd.intake.length ≤ 8 ∧ s.time.schedule.length ≤ 16

/-- The laws for the peer table (R52), with the bound on pinned entries that they rest on (R54, R55). -/
def State.tableLawful (s : State) : Prop :=
  s.peer.table.length ≤ 32 ∧ (s.peer.table.map PeerEntry.address).Nodup ∧
    (s.peer.table.filter PeerEntry.pinned).length ≤ 8

/-- The ranges of the Line Unit's counts (R1, R15, R16, R17, R19). -/
def State.lineCountsBounded (s : State) : Prop :=
  s.line.idleCount ≤ 10 ∧ s.line.dominantCount ≤ 40 ∧ s.line.releaseCount ≤ 3 ∧ s.line.budget ≤ s.cfg.budget ∧
    s.line.silence ≤ s.cfg.silentTime

/-- The number of light channels whose fade names slot `k` (R105). -/
def State.fadesOn (s : State) (k : Fin 16) : Nat :=
  ((List.finRange 24).filter fun i => s.light.channels[i].inSlot k).length

/-- The law for ramp slots (R105): a slot is free exactly when nothing names it, a LIGHT slot counts the channels that name
it, a MOTOR slot is named by its axis alone, and only an axis in STARTING or STOPPING names one (R111). -/
def State.slotsLawful (s : State) : Prop :=
  (∀ k : Fin 16,
    match s.pool[k] with
    | none => s.fadesOn k = 0 ∧ ∀ ax, (s.axis ax).slot ≠ some k
    | some slot => slot.elapsed < slot.length ∧
      match slot.owner with
      | .light => 1 ≤ slot.members ∧ slot.members = s.fadesOn k ∧ ∀ ax, (s.axis ax).slot ≠ some k
      | .motor ax _ _ => slot.members = 1 ∧ s.fadesOn k = 0 ∧ ∀ x, ((s.axis x).slot = some k ↔ x = ax)) ∧
  ∀ ax, (s.axis ax).slot ≠ none → (s.axis ax).state = .starting ∨ (s.axis ax).state = .stopping

/-- No axis record has been formed while LOADING (R163); both read as DISABLED then (notes/assumptions/9.md). -/
def State.loadingLawful (s : State) : Prop := s.station = .loading → ∀ ax, (s.axis ax).state = .disabled

/-- The law for interlocks (R159), with the evaluation that it rests on: the terms and the permitted directions kept are
those that the peer table gives (R173). -/
def State.interlocksLawful (s : State) : Prop :=
  ∀ ax, (s.axisSafety ax).terms = (s.axisCfg ax).terms.map s.termSatisfied ∧
    (s.axisSafety ax).plus = s.permittedNow ax .plus ∧ (s.axisSafety ax).minus = s.permittedNow ax .minus ∧
    ∀ d, (s.axis ax).state.moves = true → (s.axis ax).direction = some d → s.permittedNow ax d = true

/-! ## What an order leaves -/

/-- In `t` the alert scene has been recalled at once on the channels of `s` (R97, R99): each one with a level in it has that
level, and no fade. -/
def State.alertGiven (s t : State) : Prop :=
  ∀ (x : Fin 8) (i : Fin 24) (level : Nat), s.cfg.alertScene = some x → s.light.scenes[x].levels[i] = some level →
    t.light.channels[i] = { s.light.channels[i] with level := level, fade := none, lastScene := some x }

/-- From `s` to `t` a row of SILENT or ERRATIC has been applied (R158, R99). -/
def State.rowApplied (s t : State) (row : TriggerRow) (reason : StopReason) : Prop :=
  (row.axisAction = .stopRamp → ∀ ax, (s.axis ax).state.moves = true →
    (t.axis ax).reason = reason ∧ (t.axis ax).lease = none ∧
      ((s.axisCfg ax).rampDown ≠ 0 → (t.axis ax).state = .stopping ∧ (t.axis ax).token = (s.axis ax).token + 1) ∧
      ((s.axisCfg ax).rampDown = 0 → (t.axis ax).state = .stopped ∨ (t.axis ax).state = .held)) ∧
  (row.axisAction = .none → (∀ ax, (s.axisCfg ax).holdMask = 0) → t.motion = s.motion) ∧
  (row.lightAction = .recall → s.alertGiven t) ∧
  (row.lightAction = .none → ∀ i : Fin 24, t.light.channels[i].lastScene = s.light.channels[i].lastScene)

/-- From `s` to `t` the station has entered ERRATIC (R15, R158, R99). -/
def State.erraticEntered (s t : State) : Prop :=
  t.line.erratic = true ∧ (s.station ≠ .loading → t.alarmSet .erraticSeen = true) ∧
    s.rowApplied t s.cfg.trigger.erratic .erratic

/-- From `s` to `t` a line stop order has reached an axis (R157). -/
def State.lineStopped (s t : State) (ax : Axis) : Prop :=
  ((s.axis ax).state.moves = true → s.cfg.trigger.allstop.axisAction = .stopRamp → (s.axisCfg ax).rampDown ≠ 0 →
    (t.axis ax).state = .stopping ∧ (t.axis ax).reason = .allstop ∧ (t.axis ax).lease = none ∧
      (t.axis ax).token = (s.axis ax).token + 1) ∧
  ((s.axis ax).state.moves = true →
    s.cfg.trigger.allstop.axisAction ≠ .stopRamp ∨ (s.axisCfg ax).rampDown = 0 →
    (t.axis ax).state = .held ∧ (t.axis ax).reason = .allstop ∧ (t.axis ax).lease = none ∧ (t.axis ax).duty = 0) ∧
  ((s.axis ax).state = .reversing →
    (t.axis ax).state = .held ∧ (t.axis ax).reason = .allstop ∧ (t.axis ax).duty = 0 ∧
      (t.axis ax).token = (s.axis ax).token + 1) ∧
  ((s.axis ax).state = .stopped → s.heldNow ax = false →
    t.axis ax = { s.axis ax with state := .held, token := (s.axis ax).token + 1 }) ∧
  ((s.axis ax).state = .stopping ∨ (s.axis ax).state = .held ∨ (s.axis ax).state = .fault ∨
      (s.axis ax).state = .disabled →
    t.axis ax = s.axis ax)

/-! ## Which commands may change which part -/

/-- The resets (R184). -/
def resets : Instr → Bool
  | .hardReset _ | .heldInReset => true
  | _ => false

/-- What ends LOADING, and the resets (R187, R188). -/
def startsUp : Instr → Bool
  | .attemptFail | .imageJudged _ => true
  | c => resets c

/-- What shows new levels on the input pins (R64, R18, R137). -/
def presentsPins : Instr → Bool
  | .periodBoundary _ _ | .endSwitchChange _ _ _ | .estopAssert => true
  | c => resets c

/-- What may carry out all that is still owed: a boundary (notes/assumptions/3.md), and an end of a hold cause that something
of the same instant holds again (R181). -/
def carriesOwed : Instr → Bool
  | .periodBoundary _ _ | .holdOffEnd | .estopRelease | .allstopExit _ | .alarmClear | .restart => true
  | _ => false

/-- What sets P and φ (R25, R35). -/
def setsTime : Instr → Bool
  | .beaconReceive => true
  | c => carriesOwed c || resets c

/-- What marks or clears the arrival map (R36, R37). -/
def marksArrivals : Instr → Bool
  | .beaconReceive | .mapClear => true
  | c => carriesOwed c || resets c

/-- What sets a position (R136, R137, R151, R163). -/
def placesAxes : Instr → Bool
  | .travelPulse _ _ | .endSwitchChange _ _ _ | .reference => true
  | c => startsUp c

/-- What writes a scene (R84, R85, R103). -/
def writesScenes : Instr → Bool
  | .levelData | .sceneTime | .imageJudged _ => true
  | c => resets c

/-- What takes modulator bits, also those that are owed (R117, R125, R132). -/
def feedsSense : Instr → Bool
  | .senseSample _ _ | .obstructionSignal _ | .imageJudged _ => true
  | c => carriesOwed c || resets c

/-- What adds to the intake queue or takes from it (R13, R63, R78). -/
def handlesIntake : Instr → Bool
  | .frameReceiveIntact _ | .decodeTake | .restart => true
  | c => resets c

/-- What enters or leaves ALLSTOP (R17), also within the end of another hold cause (R181). -/
def turnsAllstop : Instr → Bool
  | .allstopEntry _ => true
  | c => carriesOwed c || resets c

/-- What loads, steps or stops the hold-off (R166, R168, R170, R182). -/
def countsHoldOff : Instr → Bool
  | .allstopEntry _ | .allstopExit _ | .holdOffEnd | .periodBoundary _ _ => true
  | c => startsUp c

/-- What runs entries of the schedule list, which may stop an axis and start it again in one event (R42, R43); a boundary
also carries out all that is still owed (notes/assumptions/3.md). -/
def runsSchedule : Instr → Bool
  | .periodBoundary _ _ | .scheduleDueRun | .beaconReceive => true
  | _ => false

/-! ## A request at its decode completion -/

/-- A station-addressed request from a peer (R62). -/
def fromPeer (a cls kind : Nat) (payload : List Byte) : Request :=
  { source := .peer a, addressing := .station, body := .frame cls kind payload }

/-- The request is in flight (R62). -/
def State.flies (s : State) (r : Request) : Prop := ∃ age, s.cmd.decoder = some { request := r, age := age }

/-- The station sends, and `n` more frames find room in its send queue (R20, R22). -/
def State.room (s : State) (n : Nat) : Bool := s.sends && s.line.queue.length + n ≤ 8

/-- The state with a frame joined to its send queue (R20). -/
def State.withFrame (s : State) (f : SendFrame) : State := s.setLine { s.line with queue := s.line.queue ++ [f] }

/-- The state with the OUTCOME of a request joined to its send queue (R73). -/
def State.replied (s : State) (r : Request) (a : Nat) (code : Code) : State :=
  s.withFrame (s.outcomeFrame a r.clsKind.1 r.clsKind.2 r.named code false)

/-- A DATA frame to a peer (R74). -/
def dataTo (a : Nat) (payload : List Byte) : SendFrame :=
  { cls := 4, kind := 2, dest := a, payload := some payload, onLine := false }

/-- The blocks that a change of lights and levels does not reach. -/
def State.sameBesideLights (s t : State) : Prop :=
  t.inReset = s.inReset ∧ t.pins = s.pins ∧ t.loader = s.loader ∧ t.cfg = s.cfg ∧ t.time = s.time ∧
    t.sense = s.sense ∧ t.motion = s.motion ∧ t.safety = s.safety ∧ t.peer = s.peer ∧ t.pending = s.pending

end Sys2Proof.Machine
end

