-- ==== Sys2Proof/Certificates/Slice0/Obligations.lean ====
section
/-! DEFINITION. The statements for the provers. Every one is about all states, those that no run reaches among them; a premise
`awake` says that the state is one between two commands (`State.quiet`), which `Obligations.EveryStepLeavesTheStationQuiet`
keeps. -/

open Sys2Proof Sys2Proof.Machine

/-! ## The machine as a whole -/

/-- A step takes the command at the front of the queue and runs it with the queue's rest (log entry 1). -/
def Obligations.StepRunsTheFrontCommand : Prop :=
  ∀ (c : Instr) (s : State), step { s with pending := c :: s.pending } = exec c s

/-- HARD_RESET reads the straps (R185) and leaves the blocks at their values after hard reset (R184), a LISTEN-ONLY station at
the end of LOADING in the same instant (R22, R182); while LOADING the alarm set stands empty, not yet formed, and both axes read
as DISABLED (log entry 9). That the attempt and the running check of a LISTEN-ONLY station, which reads no image, stand at 1 and
FFFFh too is the model's choice (log entry 51). HELD_IN_RESET holds every output inactive (R184). -/
def Obligations.ResetsLeaveTheStatedValues : Prop :=
  (∀ (n : BitVec 6) (s : State), ∃ t, exec (.hardReset n) s = .next t ∧ t.inReset = false ∧ t.pending = s.pending ∧
    t.loader.station = (if n.toNat = 0 ∨ n.toNat = 63 then .listenOnly else .loading) ∧
    t.loader.address = (if n.toNat = 0 ∨ n.toNat = 63 then none else some n.toNat) ∧
    t.loader.attempt = 1 ∧ t.loader.staging = [] ∧ t.loader.check = 0xFFFF ∧
    t.line.idleCount = 0 ∧ t.line.dominantCount = 0 ∧ t.line.allstop = false ∧ t.line.silent = false ∧
    t.line.erratic = false ∧ t.line.estop = false ∧ t.line.own = .none ∧ t.line.queue = [] ∧ t.line.silence = 0 ∧
    (n.toNat = 0 ∨ n.toNat = 63 → t.line.budget = 16 ∧ t.cfg = Configuration.defaults) ∧
    t.time.p = 0 ∧ t.phi = 0 ∧ t.time.periodLength = 1000 ∧ t.time.slew = 0 ∧ t.time.lock = .free ∧
    t.time.engine = .listener ∧ t.time.reference = none ∧ t.time.arrivals = 0 ∧ t.time.lastDelta = .none ∧
    t.time.schedule = [] ∧
    t.peer.table = [] ∧ t.peer.counter = 100 ∧ t.peer.shed = 0 ∧ t.cmd.intake = [] ∧ t.cmd.decoder = none ∧
    t.cmd.window = none ∧ (∀ k : Fin 8, t.cmd.keys[k].level = none ∧ t.cmd.keys[k].pending = none) ∧
    (∀ i : Fin 24, t.light.channels[i] =
        { enabled := true, level := 0, fade := none, groups := 0, lastScene := none } ∧ t.light.outputs[i] = 0) ∧
    t.light.master = true ∧
    (∀ k : Fin 8, t.light.scenes[k].fadeTime = 0 ∧ ∀ i : Fin 24, t.light.scenes[k].levels[i] = none) ∧
    t.light.night = { on := false, first := 0, last := 23, cap := 4095 } ∧ t.light.region = none ∧
    t.light.stepping = false ∧ t.light.offset = 0 ∧ t.light.stepCount = 0 ∧ t.light.override = false ∧
    (∀ k : Fin 16, t.pool[k] = none) ∧
    (∀ c : Fin 4, t.sense[c] =
      { state := .off, bitCount := 0, i1 := 0, i2 := 0, i3 := 0, v := 0, c1 := 0, c2 := 0, settle := 0, sample := 0,
        baseline := 0, force := 0, obstruction := 0, flag := false, runLength := 0, lastBit := false }) ∧
    t.safety.alarms = 0 ∧ t.safety.count = 0 ∧ t.safety.holdOff = 0 ∧
    (∀ ax, (t.axis ax).state = .disabled ∧ t.heldNow ax = false ∧ (t.axisSafety ax).held = false ∧
      ∀ d, (t.axisSafety ax).permitted d = true) ∧
    (∀ ax, t.dutyPin ax = 0 ∧ t.dirPin ax = false ∧ t.brakePin ax = false) ∧ t.owed = []) ∧
  ∀ s : State, ∃ t, exec .heldInReset s = .next t ∧ t.inReset = true ∧ t.pending = s.pending ∧ t.lineDrive = false ∧
    (∀ i : Fin 24, t.light.outputs[i] = 0) ∧
    ∀ ax, t.dutyPin ax = 0 ∧ t.dirPin ax = false ∧ t.brakePin ax = false

/-- While the station is held in reset no command but the resets and a change of an end switch's pin changes anything; the pin
is the surroundings', and no block reads it (R184; log entry 2). -/
def Obligations.NothingActsInReset : Prop :=
  ∀ (c : Instr) (s : State), s.inReset = true → (∀ n, c ≠ .hardReset n) → c ≠ .heldInReset →
    (∀ ax d b, c ≠ .endSwitchChange ax d b) → exec c s = .next s

/-! ## Start-up -/

/-- A failed attempt discards its copy and the next begins (R187); bytes that do not complete the image are staged and fed to
the check; a bad image fails its attempt (R188). The third failed attempt ends LOADING in UNCONFIGURED with the defaults, and
CONFIG_BAD stands in the set with the change count at 0 (R187, R191, R182, R51). -/
def Obligations.FailedAttemptsEndUnconfigured : Prop :=
  ∀ s : State, s.inReset = false → s.station = .loading →
    (s.loader.attempt < 3 → ∃ t, exec .attemptFail s = .next t ∧
      t.loader = { s.loader with attempt := s.loader.attempt + 1, staging := [], check := 0xFFFF }) ∧
    (∀ bytes : List Byte,
      (s.loader.staging.length + bytes.length < 1024 → ∃ t, exec (.imageJudged bytes) s = .next t ∧
        t.loader = { s.loader with
          staging := s.loader.staging ++ bytes, check := crcFrom s.loader.check (bitsOfBytes bytes) }) ∧
      (s.loader.staging.length + bytes.length = 1024 → s.loader.attempt < 3 →
        goodImage (s.loader.staging ++ bytes) (crcFrom s.loader.check (bitsOfBytes bytes)) = false →
        ∃ t, exec (.imageJudged bytes) s = .next t ∧
          t.loader = { s.loader with attempt := s.loader.attempt + 1, staging := [], check := 0xFFFF })) ∧
    (s.awake = true → s.loader.attempt = 3 → s.line.allstop = false → s.line.queue = [] →
      ∃ t, exec .attemptFail s = .next t ∧ t.station = .unconfigured ∧
        t.loader.address = s.loader.address ∧ t.cfg = Configuration.defaults ∧
        t.safety.alarms = Alarm.configBad.mask ∧ t.safety.count = 0 ∧ t.line.budget = 16 ∧ t.line.silence = 0 ∧
        t.line.erratic = false ∧ t.line.silent = false ∧ t.time.engine = .listener ∧ t.peer.counter = 100 ∧
        t.line.queue = [announceFrame] ∧ ∀ ax, (t.axis ax).state = .disabled)

/-- A good image ends LOADING in CONFIGURED, and every block takes its configured values (R188, R189, R22, R27, R55, R103, R116).
In an awake station with an empty send queue and a free slot each axis record is formed in FAULT, HELD or STOPPED (R163), the
alarm set, the holds and the permitted directions are formed (R182), the first ANNOUNCE joins the queue with the down-counter at
I (R51), and the power-on scene, or under ALLSTOP the alert scene, is recalled (R100). -/
def Obligations.GoodImageConfiguresEveryBlock : Prop :=
  ∀ (s : State) (bytes : List Byte), s.inReset = false → s.station = .loading →
    s.loader.staging.length + bytes.length = 1024 →
    goodImage (s.loader.staging ++ bytes) (crcFrom s.loader.check (bitsOfBytes bytes)) = true →
    ∃ t, exec (.imageJudged bytes) s = .next t ∧
      (let img := s.loader.staging ++ bytes
       t.station = .configured ∧ t.loader.address = s.loader.address ∧ t.cfg = parseImage img ∧
       t.line.budget = t.cfg.budget ∧ t.line.silence = 0 ∧ t.line.erratic = false ∧ t.line.silent = false ∧
       t.time.p = s.time.p ∧ t.phi = s.phi ∧
       (t.cfg.beaconCapable = true →
         t.time.engine = .standby ∧ t.time.silenceTimer = 25 + s.loader.address.getD 0) ∧
       (t.cfg.beaconCapable = false → t.time.engine = .listener) ∧
       (∀ e ∈ t.peer.table, e.content = none ∧ e.age = 0 ∧ e.fresh = false ∧ e.pinned = true) ∧
       (∀ a, (∃ e ∈ t.peer.table, e.address = a) ↔
         1 ≤ a ∧ a ≤ 62 ∧ s.loader.address ≠ some a ∧ ∃ ax, ∃ x ∈ (t.axisCfg ax).terms, x.station = a) ∧
       t.light.scenes = parseScenes img ∧ (∀ i : Fin 24, t.light.channels[i].groups = (parseGroups img)[i]) ∧
       (∀ c : Fin 4, t.sense[c].state = if t.cfg.sense[c].enabled then .settling else .off) ∧
       (∀ ax, (t.axis ax).duty = 0 ∧ (t.axis ax).direction = none ∧
         ((t.axisCfg ax).kind = .none → t.axis ax = AxisRecord.disabled) ∧
         ((t.axisCfg ax).kind ≠ .none →
           (t.axis ax).referenced = t.switchRead ax .minus ∧
           (t.axis ax).position =
             if t.switchRead ax .minus = false ∧ t.switchRead ax .plus = true then (t.axisCfg ax).travelMax
             else 0)) ∧
       (s.awake = true → s.line.queue = [] → (freeSlot s.pool).isSome = true →
         announceFrame ∈ t.line.queue ∧ t.peer.counter = t.cfg.interval ∧ t.safety.holdOff = 0 ∧
         (∀ al, t.alarmSet al = true ↔
           al = .allstopSeen ∧ s.line.allstop = true ∨ ∃ ax, al = .endConflict ax ∧ t.inConflict ax = true) ∧
         t.safety.count = BitVec.ofNat 8 (bit s.line.allstop + bit (t.inConflict .A) + bit (t.inConflict .B)) ∧
         (∀ ax, (t.axisSafety ax).held = t.heldNow ax ∧
           (∀ d, (t.axisSafety ax).permitted d = (t.axisCfg ax).terms.all fun x => !scopeCovers x.scope d) ∧
           ((t.axisCfg ax).kind ≠ .none → (t.axis ax).token = 0 ∧
             (t.axis ax).state =
               (if t.inConflict ax = true then .fault else if t.heldNow ax = true then .held else .stopped) ∧
             (t.axis ax).reason = if t.inConflict ax = true then .endConflict else .none)) ∧
         (∀ (x : Fin 8) (i : Fin 24) (level : Nat), t.light.scenes[x].levels[i] = some level →
           (s.line.allstop = true → t.cfg.trigger.allstop.lightAction = .recall → t.light.override = true ∧
             (t.cfg.alertScene = some x → t.light.channels[i].level = level ∧
               t.light.channels[i].fade = none ∧ t.light.channels[i].lastScene = some x)) ∧
           (s.line.allstop = false ∨ t.cfg.trigger.allstop.lightAction = .none → t.cfg.powerOnScene = some x →
             t.light.channels[i].lastScene = some x ∧
             (t.light.scenes[x].fadeTime = 0 → t.light.channels[i].level = level ∧
               t.light.channels[i].fade = none) ∧
             (t.light.scenes[x].fadeTime ≠ 0 → ∃ k : Fin 16,
               t.light.channels[i].fade = some { start := s.light.channels[i].level, goal := level, slot := k } ∧
               ∃ m, t.pool[k] = some { owner := .light, length := t.light.scenes[x].fadeTime, elapsed := 0,
                                       members := m })))))

/-! ## Invariants -/

/-- The state after reset satisfies every law below. -/
def Obligations.ResetIsLawful : Prop :=
  State.reset.follows ∧ State.reset.drivesLawful ∧ State.reset.positionsLawful ∧ State.reset.leasesLawful ∧
    State.reset.stopsLawful ∧ State.reset.queuesBounded ∧ State.reset.tableLawful ∧ State.reset.lineCountsBounded ∧
    State.reset.slotsLawful ∧ State.reset.loadingLawful ∧ State.reset.interlocksLawful

/-- After every step the announced content, the holds, the effective shed level and all 24 outputs are those that belong to the
state (R48, R57, R96, R171). -/
def Obligations.EveryStepLeavesTheStationQuiet : Prop :=
  ∀ s t : State, s.follows → step s = .next t → t.follows

/-- Every step keeps the law for the drives (R135). -/
def Obligations.EveryStepKeepsTheDriveLaw : Prop :=
  ∀ s t : State, s.drivesLawful → step s = .next t → t.drivesLawful

/-- Every step keeps the law for positions (R136). -/
def Obligations.EveryStepKeepsThePositionLaw : Prop :=
  ∀ s t : State, s.positionsLawful → step s = .next t → t.positionsLawful

/-- Every step keeps the law for leases (R149). -/
def Obligations.EveryStepKeepsTheLeaseLaw : Prop :=
  ∀ s t : State, s.leasesLawful → step s = .next t → t.leasesLawful

/-- Every step keeps the law for emergency stops (R157) and, with the evaluation of the terms that it rests on, the law for
interlocks (R159, R173). -/
def Obligations.EveryStepKeepsTheEmergencyStopLaw : Prop :=
  ∀ s t : State, step s = .next t →
    (s.stopsLawful → t.stopsLawful) ∧ (s.interlocksLawful → t.interlocksLawful)

/-- Every step keeps the bounds of the three queues (R20, R61, R39), the ranges of the Line Unit's counts (R1, R15, R16, R17,
R19), and the law for ramp slots (R105), this where no axis record is formed before the end of LOADING (R163; log entry 9),
which every step keeps too. -/
def Obligations.EveryStepKeepsTheBounds : Prop :=
  ∀ s t : State, step s = .next t →
    (s.queuesBounded → t.queuesBounded) ∧ (s.lineCountsBounded → t.lineCountsBounded) ∧
    (s.loadingLawful → t.loadingLawful) ∧ (s.loadingLawful → s.slotsLawful → t.slotsLawful)

/-- Every step keeps the laws for the peer table (R52, R54, R55). -/
def Obligations.EveryStepKeepsThePeerTableLaws : Prop :=
  ∀ s t : State, s.tableLawful → step s = .next t → t.tableLawful

/-- The frame of every command: what no command but the named ones changes, whatever the state (R25, R35, R36, R37, R84, R85,
R103, R117, R136, R137, R151, R163, R170, R182, R184, R189). With it (a command that ends a hold cause, and a boundary, may
carry out what is still owed, R181; log entries 3 and 48) the two laws for a change: an axis's token stands exactly where its
state stands, in every event that can change it one way only and no hold-mask alarm can stop it within (R139); and the baseline
of a running channel does not change while its bound axis is motor-powered (R122). -/
def Obligations.CommandsChangeOnlyTheirParts : Prop :=
  ∀ (c : Instr) (s t : State), exec c s = .next t →
    t.pending = s.pending ∧
    (resets c = false → t.inReset = s.inReset) ∧
    (startsUp c = false → t.loader = s.loader ∧ t.cfg = s.cfg ∧
      ∀ i : Fin 24, t.light.channels[i].groups = s.light.channels[i].groups) ∧
    (presentsPins c = false → t.pins = s.pins) ∧
    (setsTime c = false → t.time.p = s.time.p ∧ t.time.elapsed = s.time.elapsed) ∧
    (marksArrivals c = false → t.time.arrivals = s.time.arrivals) ∧
    (placesAxes c = false → ∀ ax,
      (t.axis ax).position = (s.axis ax).position ∧ (t.axis ax).referenced = (s.axis ax).referenced) ∧
    (writesScenes c = false → t.light.scenes = s.light.scenes) ∧
    (feedsSense c = false → ∀ x : Fin 4, t.sense[x].i1 = s.sense[x].i1 ∧ t.sense[x].i2 = s.sense[x].i2 ∧
      t.sense[x].i3 = s.sense[x].i3 ∧ t.sense[x].bitCount = s.sense[x].bitCount ∧
      t.sense[x].sample = s.sense[x].sample ∧ t.sense[x].state = s.sense[x].state ∧
      t.sense[x].runLength = s.sense[x].runLength) ∧
    (handlesIntake c = false → t.cmd.intake = s.cmd.intake) ∧
    (turnsAllstop c = false → t.line.allstop = s.line.allstop) ∧
    (countsHoldOff c = false → t.safety.holdOff = s.safety.holdOff) ∧
    (startsUp c = false → runsSchedule c = false → (∀ ax, (s.axisCfg ax).holdMask = 0) →
      ∀ ax, (t.axis ax).token = (s.axis ax).token ↔ (t.axis ax).state = (s.axis ax).state) ∧
    (carriesOwed c = false → ∀ (x : Fin 4) (ax : Axis), s.boundAxis x = some ax →
      s.sense[x].state = .running → (s.axis ax).state.motorPowered = true →
      (t.axis ax).state.motorPowered = true → t.sense[x].baseline = s.sense[x].baseline)

/-! ## The coding of frames -/

/-- A receiver finds every frame that R3 allows intact, with every field as it was sent (R2, R3, R4, R10, R192). -/
def Obligations.SentFrameIsReceivedIntact : Prop :=
  ∀ f : Frame, f.cls < 8 → 1 ≤ f.source → f.source ≤ 62 → f.dest < 128 → f.kind < 32 → f.payload.length ≤ 8 →
    judge f.lineBits = .intact f

/-- A legal frame never shows more than eight equal bit times on the line (R2). -/
def Obligations.NoFrameShowsNineEqualBits : Prop :=
  ∀ (f : Frame) (i : Nat) (b : LineBit), ∃ j, j < 9 ∧ f.lineBits[i + j]? ≠ some b

/-! ## The period boundary -/

/-- P and φ at a boundary, and the length of the period it opens (R25, R26). Where the reference is lost or the silence timer
ends at this same boundary, R32 and R28 clear c and R26 steps it; that the length is fixed from c as it stood before is the
model's choice (log entry 23). -/
def Obligations.BoundaryOpensThePeriod : Prop :=
  ∀ (keys : BitVec 8) (found : BoundaryFound) (s : State), s.inReset = false → s.owed = [] →
    ∃ t, exec (.periodBoundary keys found) s = .next t ∧ t.time.p = s.time.p + 1 ∧ t.phi = 0 ∧
      (0 < s.time.slew → t.time.periodLength = 999 ∧ t.time.slew = s.time.slew - 1 ∧
        t.time.lock = if s.time.slew = 1 then .locked else .slewing) ∧
      (s.time.slew < 0 → t.time.periodLength = 1001 ∧ t.time.slew = s.time.slew + 1 ∧
        t.time.lock = if s.time.slew = -1 then .locked else .slewing) ∧
      (s.time.slew = 0 → t.time.periodLength = 1000 ∧ t.time.slew = 0 ∧ t.time.lock = s.time.lock)

/-- At a boundary no axis changes its state. Where no slot completes, every busy slot steps, and its members' levels and the
axes' duties follow R108. Where one does, the stepping of all is owed, as one event that other events of the instant may come
before or after (R109, R110). A lease that ends before the stepping leaves the axis in STOPPING, from the duty that it had before
the boundary, with a slot that does not step at it (R110, R149). With the stepping left for later no slot has stepped, and every
busy one owes its step but those given at the same instant, which do not step at this boundary (R110; log entry 41). -/
def Obligations.BoundaryStepsTheRamps : Prop :=
  ∀ (keys : BitVec 8) (asserted : Bool) (s : State), s.awake = true → s.owed = [] → s.time.slew = 0 →
    (∃ t, exec (.periodBoundary keys { estopRead := asserted }) s = .next t ∧
      (∀ ax, (t.axis ax).state = (s.axis ax).state ∧ (t.axis ax).token = (s.axis ax).token ∧
        (t.axis ax).position = (s.axis ax).position) ∧
      (∀ i : Fin 24, s.light.channels[i].fade = none → t.light.channels[i] = s.light.channels[i]) ∧
      ((∀ (k : Fin 16) (slot : Slot), s.pool[k] = some slot → slot.elapsed + 1 < slot.length) →
        (∀ k : Fin 16, Owed.slotStep k ∉ t.owed ∧
          t.pool[k] = s.pool[k].map fun slot => { slot with elapsed := slot.elapsed + 1 }) ∧
        (∀ (i : Fin 24) (f : Fade), s.light.channels[i].fade = some f → ∀ slot, s.pool[f.slot] = some slot →
          t.light.channels[i].level = interpolate f.start f.goal (slot.elapsed + 1) slot.length) ∧
        ∀ (ax : Axis) (k : Fin 16), (s.axis ax).slot = some k → ∀ slot, s.pool[k] = some slot →
          ∀ start goal, slot.owner = .motor ax start goal → (s.axis ax).state.motorPowered = true →
          (t.axis ax).duty = interpolate start goal (slot.elapsed + 1) slot.length) ∧
      (∀ (k : Fin 16) (slot : Slot), s.pool[k] = some slot → slot.length ≤ slot.elapsed + 1 →
        t.pool = s.pool ∧ t.light.channels = s.light.channels ∧
        (∀ ax, (t.axis ax).duty = (s.axis ax).duty) ∧
        ∀ j : Fin 16, Owed.slotStep j ∈ t.owed ↔ s.pool[j].isSome = true)) ∧
    (∀ given : List (Fin 16),
      (∃ t, exec (.periodBoundary keys { estopRead := asserted, given := given, stepsLater := true }) s = .next t ∧
        t.pool = s.pool ∧ t.light.channels = s.light.channels ∧
        (∀ ax, (t.axis ax).state = (s.axis ax).state ∧ (t.axis ax).token = (s.axis ax).token ∧
          (t.axis ax).position = (s.axis ax).position ∧ (t.axis ax).duty = (s.axis ax).duty) ∧
        ∀ j : Fin 16, Owed.slotStep j ∈ t.owed ↔
          ∃ slot, s.pool[j] = some slot ∧ ¬(j ∈ given ∧ slot.elapsed = 0)) ∧
      ∀ (k : Fin 16) (slot : Slot), k ∈ given → s.pool[k] = some slot → slot.elapsed = 0 →
        ∃ t, exec (.periodBoundary keys { estopRead := asserted, given := given }) s = .next t ∧
          t.pool[k] = some slot ∧ Owed.slotStep k ∉ t.owed ∧
          ∀ (i : Fin 24) (f : Fade), s.light.channels[i].fade = some f → f.slot = k →
            t.light.channels[i] = s.light.channels[i]) ∧
    ∀ (ax : Axis) (a : Nat), s.slotsLawful → (s.axis ax).lease = some { holder := .peer a, remaining := 1 } →
      (s.axis ax).state.moves = true → (s.axisCfg ax).rampDown ≠ 0 → (freeSlot s.pool).isSome = true →
      ∃ t, exec (.periodBoundary keys { estopRead := asserted, early := [.leaseEnd ax] }) s = .next t ∧
        (t.axis ax).state = .stopping ∧ (t.axis ax).reason = .leaseEnd ∧ (t.axis ax).lease = none ∧
        (t.axis ax).duty = (s.axis ax).duty ∧
        ∃ k, (t.axis ax).slot = some k ∧ Owed.slotStep k ∉ t.owed ∧ t.pool[k] = some {
          owner := .motor ax (s.axis ax).duty 0, length := (s.axisCfg ax).rampDown, elapsed := 0, members := 1 }

/-- RAMP_COMPLETION takes the stepping that is owed, whole (R110). Where only LIGHT slots owe it: a slot brought to its end gives
each member exactly its goal and is free (R109), every other one steps its members by R108, a slot that owes nothing does
nothing, and nothing else changes but the outputs. -/
def Obligations.RampCompletionGivesTheGoals : Prop :=
  ∀ (s : State) (k : Fin 16), s.awake = true → Owed.slotStep k ∈ s.owed →
    (∀ (j : Fin 16) (slot : Slot), Owed.slotStep j ∈ s.owed → s.pool[j] = some slot → slot.owner = .light) →
    ∃ t, exec (.rampCompletion k) s = .next t ∧
      (∀ j : Fin 16,
        (Owed.slotStep j ∉ s.owed ∨ s.pool[j] = none → t.pool[j] = s.pool[j]) ∧
        ∀ slot, Owed.slotStep j ∈ s.owed → s.pool[j] = some slot → t.pool[j] =
          if slot.elapsed + 1 < slot.length then some { slot with elapsed := slot.elapsed + 1 } else none) ∧
      (∀ i : Fin 24,
        (s.light.channels[i].fade = none → t.light.channels[i] = s.light.channels[i]) ∧
        ∀ f, s.light.channels[i].fade = some f →
          (Owed.slotStep f.slot ∉ s.owed ∨ s.pool[f.slot] = none → t.light.channels[i] = s.light.channels[i]) ∧
          ∀ slot, Owed.slotStep f.slot ∈ s.owed → s.pool[f.slot] = some slot → t.light.channels[i] =
            if slot.elapsed + 1 < slot.length then
              { s.light.channels[i] with level := interpolate f.start f.goal (slot.elapsed + 1) slot.length }
            else { s.light.channels[i] with level := f.goal, fade := none }) ∧
      (∀ j : Fin 16, Owed.slotStep j ∉ t.owed) ∧ t.line = s.line ∧ t.cmd = s.cmd ∧ s.sameBesideLights t

/-- RAMP_COMPLETION of an axis's slot, with only LIGHT slots to step beside it: STARTING to RUNNING, STOPPING to its rest state
(R109, R143, R145, R140, R139). -/
def Obligations.RampCompletionMovesTheAxis : Prop :=
  ∀ (s : State) (k : Fin 16) (ax other : Axis), s.awake = true → s.room 1 = true →
    Owed.slotStep k ∈ s.owed → other ≠ ax → (s.axis ax).slot = some k → ∀ slot, s.pool[k] = some slot →
    ∀ start goal, slot.owner = .motor ax start goal → slot.length ≤ slot.elapsed + 1 →
    (∀ (j : Fin 16) (x : Slot), j ≠ k → Owed.slotStep j ∈ s.owed → s.pool[j] = some x → x.owner = .light) →
    ((s.axis ax).state = .starting → ∃ t, exec (.rampCompletion k) s = .next t ∧ t.pool[k] = none ∧
      t.axis ax = { s.axis ax with
        state := .running, slot := none, stallCount := 0, duty := movingDuty (s.axisCfg ax) (s.axis ax),
        token := (s.axis ax).token + 1 } ∧ t.axis other = s.axis other ∧ t.time = s.time ∧ t.cmd = s.cmd) ∧
    ((s.axis ax).state = .stopping → ∃ t, exec (.rampCompletion k) s = .next t ∧ t.pool[k] = none ∧
      t.axis ax = { s.axis ax with
        state := (if s.heldNow ax then .held else .stopped), slot := none, duty := 0, lease := none,
        stallCount := 0, blanking := 0, backOff := 0, token := (s.axis ax).token + 1 } ∧
      t.axis other = s.axis other ∧ t.time = s.time ∧ t.cmd = s.cmd)

/-- SILENCE_TIMER_EXPIRY and REFERENCE_LOST: the engine becomes TIMEKEEPER, or stays; in both the reference is cleared, c is 0
and the lock state FREE, and the count goes on (R28, R32). -/
def Obligations.TheTimeBaseRunsFree : Prop :=
  ∀ s : State, s.inReset = false →
    (Owed.silenceTimerExpiry ∈ s.owed → s.time.engine = .standby → s.time.silenceTimer ≤ 1 →
      ∃ t, exec .silenceTimerExpiry s = .next t ∧ t.cmd = s.cmd ∧
        t.time = { s.time with
          engine := .timekeeper, silenceTimer := 0, reference := none, referenceAge := 0, slew := 0,
          lock := .free }) ∧
    (Owed.referenceLost ∈ s.owed → s.time.reference ≠ none → 24 ≤ s.time.referenceAge →
      ∃ t, exec .referenceLost s = .next t ∧ t.cmd = s.cmd ∧
        t.time = { s.time with reference := none, referenceAge := 0, slew := 0, lock := .free })

/-- BEACON_OFFER joins a BEACON to the send queue unless one is still in it (R29); to a full queue it displaces the newest
waiting frame of the largest class above its own, or is dropped where there is none, and either sets SEND_DROP (R20).
ANNOUNCE_EXPIRY loads the down-counter with I and joins an ANNOUNCE (R49); one that waits or contends takes the request in, and
one past contention is marked for a refresh (R21). -/
def Obligations.BeaconAndAnnounceJoinTheQueue : Prop :=
  ∀ s : State, s.awake = true →
    (Owed.beaconOffer ∈ s.owed → Owed.silenceTimerExpiry ∉ s.owed → s.time.engine = .timekeeper →
      ((∀ f ∈ s.line.queue, f.cls ≠ 2) → s.room 1 = true →
        ∃ t, exec .beaconOffer s = .next t ∧ t.time = s.time ∧ t.motion = s.motion ∧ t.safety = s.safety ∧
          t.line = { s.line with queue := s.line.queue ++
            [{ cls := 2, kind := 1, dest := 127, payload := none, onLine := false }] }) ∧
      ((∃ f ∈ s.line.queue, f.cls = 2) →
        ∃ t, exec .beaconOffer s = .next t ∧ t.line = s.line ∧ t.time = s.time ∧ t.motion = s.motion) ∧
      ((∀ f ∈ s.line.queue, f.cls ≠ 2) → s.line.queue.length = 8 → s.sends = true →
        s.cfg.reportMask = 0 → (∀ ax, Alarm.sendDrop.within (s.axisCfg ax).holdMask = false) →
        (∀ before f after, s.line.queue = before ++ f :: after → f.onLine = false → 2 < f.cls →
          (∀ g ∈ before, g.onLine = true ∨ g.cls ≤ f.cls) → (∀ g ∈ after, g.onLine = true ∨ g.cls < f.cls) →
          ∃ t, exec .beaconOffer s = .next t ∧ t.alarmSet .sendDrop = true ∧ t.motion = s.motion ∧
            t.line.queue = before ++ after ++
              [{ cls := 2, kind := 1, dest := 127, payload := none, onLine := false }]) ∧
        ((∀ f ∈ s.line.queue, f.onLine = true ∨ f.cls ≤ 2) →
          ∃ t, exec .beaconOffer s = .next t ∧ t.alarmSet .sendDrop = true ∧ t.line.queue = s.line.queue ∧
            t.motion = s.motion))) ∧
    (Owed.announceExpiry ∈ s.owed → s.peer.counter ≤ 1 →
      ((∀ f ∈ s.line.queue, f.cls ≠ 5) → s.room 1 = true →
        ∃ t, exec .announceExpiry s = .next t ∧ t.peer = { s.peer with counter := s.cfg.interval } ∧
          t.time = s.time ∧ t.motion = s.motion ∧ t.safety = s.safety ∧
          t.line = { s.line with queue := s.line.queue ++
            [{ cls := 5, kind := 1, dest := 127, payload := none, onLine := false }] }) ∧
      ∀ f, s.line.queue.find? (fun f => f.cls == 5) = some f → s.sends = true →
        (f.onLine = false ∨ s.line.own = .contending →
          ∃ t, exec .announceExpiry s = .next t ∧ t.peer = { s.peer with counter := s.cfg.interval } ∧
            t.line = s.line ∧ t.motion = s.motion) ∧
        (f.onLine = true → s.line.own = .sending ∨ s.line.own = .slot →
          ∃ t, exec .announceExpiry s = .next t ∧ t.peer = { s.peer with counter := s.cfg.interval } ∧
            t.line = { s.line with refresh := true } ∧ t.motion = s.motion))

/-- FRESHNESS_LAPSE: the entry whose age passes four times its interval is no longer fresh, its demand no longer counts, and
every term is evaluated again (R56, R57, R173). -/
def Obligations.FreshnessLapses : Prop :=
  ∀ s : State, s.inReset = false → ∀ e ∈ s.peer.table, ∀ c, e.content = some c → e.fresh = true →
    4 * c.interval ≤ e.age → e.age < 65535 → Owed.freshnessLapse e.address ∈ s.owed →
    ∃ t, exec (.freshnessLapse e.address) s = .next t ∧
      { e with age := e.age + 1, fresh := false } ∈ t.peer.table ∧ t.peer.table.length = s.peer.table.length ∧
      (∀ x ∈ s.peer.table, x.address ≠ e.address → x ∈ t.peer.table) ∧ t.peer.shed = t.shedNow ∧
      (∀ ax, (t.axisSafety ax).terms = (t.axisCfg ax).terms.map t.termSatisfied ∧
        (t.axisSafety ax).plus = t.permittedNow ax .plus ∧ (t.axisSafety ax).minus = t.permittedNow ax .minus) ∧
      t.time = s.time ∧ t.cmd = s.cmd

/-- A direction that ceases to be permitted, at a received ANNOUNCE, stops the axis that moves in it: STOPPING, reason
INTERLOCK, one token step, no lease, and INTERLOCK is set (R159, R173, R145). That the loss comes before an alarm which the same
report raises for the other axis, where the hold mask has it, is the model's choice (log entry 50). -/
def Obligations.LostDirectionStopsTheAxis : Prop :=
  ∀ (s : State) (a : Nat) (p : List Byte) (ax : Axis) (d : Direction),
    s.owed.find? isAnnounce = some (.announce a p) → s.awake = true → s.station ≠ .loading →
    (s.axis ax).state.moves = true → (s.axis ax).direction = some d → (s.axisSafety ax).permitted d = true →
    (s.axisCfg ax).rampDown ≠ 0 →
    (s.setPeer { s.peer with table := announceInto s.peer.table a (storedContent p) }).permittedNow ax d = false →
    ∃ t, exec .announceReceive s = .next t ∧ (t.axis ax).state = .stopping ∧ (t.axis ax).reason = .interlock ∧
      (t.axis ax).token = (s.axis ax).token + 1 ∧ (t.axis ax).lease = none ∧
      (t.axis ax).position = (s.axis ax).position ∧ t.alarmSet (.interlock ax) = true ∧
      (t.axisSafety ax).permitted d = false

/-- SCHEDULE_DUE_RUN: the due entries leave the list and the others stay (R42); a due group-addressed LEVEL SET with fade time 0
takes effect on its selection as at a decode completion (R42, R87, R80). -/
def Obligations.DueEntriesRunAndLeave : Prop :=
  ∀ s : State, Owed.scheduleDueRun ∈ s.owed →
    (s.inReset = false → ∃ t, exec .scheduleDueRun s = .next t ∧ t.cmd = s.cmd ∧
      t.time = { s.time with schedule := s.time.schedule.filter fun e => e.due != s.time.p }) ∧
    ∀ (e : Entry) (g : Nat) (channel : Option (Fin 24)) (level : Nat), s.awake = true →
      s.time.schedule.filter (fun e => e.due == s.time.p) = [e] → e.addressing = .group g →
      e.request = .levelSet channel level 0 → s.lightingHeld = false →
      ∃ t, exec .scheduleDueRun s = .next t ∧ t.line = s.line ∧ t.motion = s.motion ∧
        ∀ i : Fin 24, t.light.channels[i] =
          if s.light.channels[i].groups.getLsbD g = true ∧ (channel = none ∨ channel = some i) then
            { s.light.channels[i] with level := level, fade := none, lastScene := none }
          else s.light.channels[i]

/-- RUN_STEP advances the offset modulo V (R93); BLANKING_END ends the blanking (R142, R125); HOLD_OFF_END releases an axis that
no other cause holds, and leaves one that is still held (R170, R171, R141). Where the line has reached ALLSTOP at the same
instant, an axis in HELD stays there (R181; log entry 33), and the order of ALLSTOP comes before its alarm (log entry 46, the
model's choice). Where SILENT_ENTRY, with SILENT_SEEN in the axis's hold mask, belongs to the same boundary, no change of hold
is reported in either order: the axis stays HELD with its token (R181); nor is it where an emergency stop, read at the boundary, is
asserted after the hold-off's end (R18). What else is owed and holds the axis again is taken as
log entry 48 says; that axis B takes an order before an alarm of axis A's part acts is the model's choice (log entry 50). -/
def Obligations.BoundaryCountsEnd : Prop :=
  ∀ s : State, s.awake = true →
    (∀ r : RunRegion, s.light.region = some r → Owed.runStep ∈ s.owed → s.light.stepping = true →
      r.steps ≤ s.light.stepCount + 1 →
      ∃ t, exec .runStep s = .next t ∧ t.light.offset = (s.light.offset + 1) % r.span ∧ t.light.stepCount = 0 ∧
        t.light.stepping = true ∧ t.light.channels = s.light.channels ∧ t.light.region = some r ∧
        t.pool = s.pool ∧ t.line = s.line ∧ t.cmd = s.cmd ∧ s.sameBesideLights t) ∧
    (∀ ax other : Axis, other ≠ ax → Owed.blankingEnd ax ∈ s.owed → (s.axis ax).state.motorPowered = true →
      (s.axis ax).blanking = 1 →
      ∃ t, exec (.blankingEnd ax) s = .next t ∧ t.axis ax = { s.axis ax with blanking := 0 } ∧
        t.axis other = s.axis other ∧ t.line = s.line ∧ t.safety = s.safety ∧ t.light = s.light ∧
        t.time = s.time) ∧
    (Owed.holdOffEnd ∈ s.owed → s.safety.holdOff = 1 → s.allstopReached = false → s.room 1 = true →
      s.endHoldOff.heldAgain = false →
      ∃ t, exec .holdOffEnd s = .next t ∧ t.safety.holdOff = 0 ∧ t.safety.alarms = s.safety.alarms ∧
        t.time = s.time ∧
        ∀ ax, t.axis ax =
          if (s.axis ax).state = .held ∧ (s.causes ax).allstop = false ∧ (s.causes ax).estop = false ∧
              (s.causes ax).alarm = false then
            { s.axis ax with state := .stopped, token := (s.axis ax).token + 1 }
          else s.axis ax) ∧
    (Owed.holdOffEnd ∈ s.owed → s.safety.holdOff = 1 → s.allstopReached = true →
      ∃ t, exec .holdOffEnd s = .next t ∧ t.safety.holdOff = 0 ∧ t.line.allstop = true ∧
        ∀ ax, s.lineStopped t ax) ∧
    (Owed.holdOffEnd ∈ s.owed → s.safety.holdOff = 1 → s.allstopReached = false → s.estopShown = true →
      ∀ ax, (s.axis ax).state = .held →
      ∃ t u, exec .holdOffEnd s = .next t ∧ t.safety.holdOff = 0 ∧ t.axis ax = s.axis ax ∧ t.heldNow ax = true ∧
        exec .estopAssert t = .next u ∧ u.line.estop = true ∧ u.axis ax = s.axis ax ∧ u.heldNow ax = true) ∧
    (s.owed = [.silentEntry, .holdOffEnd] → s.safety.holdOff = 1 → s.allstopReached = false → s.station ≠ .loading →
      s.line.silence + 1 = s.cfg.silentTime → ∀ ax, (s.axis ax).state = .held →
      Alarm.silentSeen.within (s.axisCfg ax).holdMask = true →
      (∃ t, exec .holdOffEnd s = .next t ∧ t.safety.holdOff = 0 ∧ t.axis ax = s.axis ax ∧ t.heldNow ax = true) ∧
      ∃ t u, exec .silentEntry s = .next t ∧ exec .holdOffEnd t = .next u ∧ u.safety.holdOff = 0 ∧
        u.axis ax = s.axis ax ∧ u.heldNow ax = true)

/-- KEY_DEBOUNCE_ESTABLISH, KEY_PRESS and KEY_RELEASE: the level takes the sampled value, the count returns to 0, and a press or
a release places the request of its function (R64, R65, R66). That the last sample of a key whose level is known takes the
sampled value too is the model's choice (log entry 42, DESIGN CHOICE): R64 says so only while the level is unknown. -/
def Obligations.KeysTakeTheirLevels : Prop :=
  ∀ (s : State) (k : Fin 8), s.inReset = false →
    (∀ x, Owed.keyEstablish k ∈ s.owed → s.cmd.keys[k].level = none → s.keySample k = x →
      s.cmd.keys[k].lastSample = some x → 1 ≤ s.cmd.keys[k].count →
      ∃ t, exec (.keyDebounceEstablish k) s = .next t ∧ t.time = s.time ∧ t.cmd = { s.cmd with
        keys := s.cmd.keys.set k
          { level := some x, lastSample := some x, count := 0, pending := s.cmd.keys[k].pending } }) ∧
    (Owed.keyPress k ∈ s.owed → s.cmd.keys[k].level = some .released → s.keySample k = .pressed →
      2 ≤ s.cmd.keys[k].count →
      ∃ t, exec (.keyPress k) s = .next t ∧ t.time = s.time ∧ t.cmd = { s.cmd with
        keys := s.cmd.keys.set k
          { level := some .pressed, lastSample := some .pressed, count := 0,
            pending :=
              match s.cfg.keys[k] with
              | .none | .inputOnly => s.cmd.keys[k].pending
              | .sceneLocal scene => some (.recall scene)
              | .sceneGroup scene group => some (.groupRecall scene group)
              | .jog a d => some (.jog a d)
              | .stop a => some (.stop a) } }) ∧
    (Owed.keyRelease k ∈ s.owed → s.cmd.keys[k].level = some .pressed → s.keySample k = .released →
      2 ≤ s.cmd.keys[k].count →
      ∃ t, exec (.keyRelease k) s = .next t ∧ t.time = s.time ∧ t.cmd = { s.cmd with
        keys := s.cmd.keys.set k
          { level := some .released, lastSample := some .released, count := 0,
            pending :=
              match s.cfg.keys[k] with
              | .jog a d => some (.jogRelease a d)
              | .none | .inputOnly | .sceneLocal _ | .sceneGroup _ _ | .stop _ => s.cmd.keys[k].pending } })

/-- LEASE_END stops the axis by its ramp with reason LEASE_END (R149, R145); STALL leaves it in FAULT, cut, with reason STALL and
its alarm set (R156, R140). -/
def Obligations.LeaseEndAndStallStopTheAxis : Prop :=
  ∀ (s : State) (ax : Axis), s.awake = true →
    (∀ a, Owed.leaseEnd ax ∈ s.owed → (s.axis ax).lease = some { holder := .peer a, remaining := 1 } →
      (s.axis ax).state.moves = true → (s.axisCfg ax).rampDown ≠ 0 →
      ∃ t, exec (.leaseEnd ax) s = .next t ∧ (t.axis ax).state = .stopping ∧ (t.axis ax).reason = .leaseEnd ∧
        (t.axis ax).lease = none ∧ (t.axis ax).token = (s.axis ax).token + 1 ∧
        (t.axis ax).position = (s.axis ax).position ∧ t.time = s.time ∧ t.cmd = s.cmd) ∧
    (Owed.stall ax ∈ s.owed → (s.axis ax).state = .running ∨ (s.axis ax).state = .reversing →
      (s.axisCfg ax).stallTime ≤ (s.axis ax).stallCount + 1 → s.station ≠ .loading →
      ∃ t, exec (.stall ax) s = .next t ∧ (t.axis ax).state = .fault ∧ (t.axis ax).reason = .stall ∧
        (t.axis ax).duty = 0 ∧ (t.axis ax).lease = none ∧ (t.axis ax).stallCount = 0 ∧ t.brakePin ax = false ∧
        (t.axis ax).token = (s.axis ax).token + 1 ∧ (t.axis ax).position = (s.axis ax).position ∧
        t.alarmSet (.stall ax) = true ∧ t.time = s.time ∧ t.cmd = s.cmd)

/-! ## The line -/

/-- SILENT_ENTRY: the station enters SILENT, Q stays at T, SILENT_SEEN is set, and the row is applied: with STOP_RAMP each
moving axis stops by its ramp with reason SILENT, with RECALL the alert scene is recalled at once (R16, R158, R169, R99). The
reason is SILENT where SILENT_SEEN is in the axis's hold mask too: the order before the alarm is the model's choice (log entry
46), and so is axis B's order before an alarm of axis A's part (log entry 50). -/
def Obligations.SilentEntryAppliesItsRow : Prop :=
  ∀ s : State, s.awake = true → Owed.silentEntry ∈ s.owed → s.station ≠ .loading →
    s.line.silence + 1 = s.cfg.silentTime →
    ∃ t, exec .silentEntry s = .next t ∧ t.line.silent = true ∧ t.line.silence = s.cfg.silentTime ∧
      t.line.budget = s.line.budget ∧ t.alarmSet .silentSeen = true ∧ t.time = s.time ∧ t.cmd = s.cmd ∧
      s.rowApplied t s.cfg.trigger.silent .silent

/-- ESTOP_ASSERT: at the first sample that reads asserted the line is driven, the own frame is cut with the noise budget
unchanged, no axis drives on, and the line stop order reaches each axis in its state (R18, R19, R157, R167); ESTOP_RELEASE ends
the drive at r = 3 (R19). That an own frame in SLOT is gone at the assertion too, and not at the end of the slot (R9), is the
model's reading (log entry 14, DEDUCED). That axis B takes the order before an alarm of axis A's part acts through a hold mask
is its choice (log entry 50). ESTOP_RELEASE is stated where nothing of the instant holds an axis again (R181, log entry 48). -/
def Obligations.EmergencyStopIsAssertedAndReleased : Prop :=
  ∀ s : State, s.inReset = false →
    (∃ t, exec .estopAssert s = .next t ∧ t.line.estop = true ∧ t.line.releaseCount = 0 ∧ t.lineDrive = true ∧
      t.line.budget = s.line.budget ∧ t.time.p = s.time.p ∧ t.cmd = s.cmd ∧
      (s.line.estop = false → t.line.own = .none ∧ (∀ ax, (t.axis ax).state.drives = false) ∧
        (s.awake = true → ∀ ax, s.lineStopped t ax))) ∧
    (Owed.estopRelease ∈ s.owed → s.line.estop = true → s.line.releaseCount = 2 →
      (s.disown .estopRelease).releaseEstop.heldAgain = false →
      ∃ t, exec .estopRelease s = .next t ∧ t.line.estop = false ∧ t.line.releaseCount = 3 ∧
        t.line.allstop = s.line.allstop ∧ t.line.budget = s.line.budget ∧ t.time = s.time ∧ t.cmd = s.cmd)

/-- FRAME_BEGIN puts on the line the frame of the lowest class, and among those the one that joined first (R5, R20);
START_BIT_READ begins the decoding of a frame (R1, R10). -/
def Obligations.FramesBegin : Prop :=
  ∀ (bits : List LineBit) (s s1 : State), s.readBits bits = s1 → s.inReset = false → s1.awake = true →
    (s1.mayBegin = true → (∀ f ∈ s1.line.queue, f.cls ≤ 7) →
      ∃ t before f after, exec (.frameBegin bits) s = .next t ∧ s1.line.queue = before ++ f :: after ∧
        (∀ g ∈ before, f.cls < g.cls) ∧ (∀ g ∈ after, f.cls ≤ g.cls) ∧
        t.line.queue = before ++ { f with onLine := true } :: after ∧ t.line.own = .contending ∧
        t.line.place = .inFrame ∧ t.line.bits = [false] ∧ t.line.budget = s1.line.budget ∧ t.motion = s1.motion) ∧
    (s1.lineIdle = true → s1.line.own = .none → s1.decodes = true →
      ∃ t, exec (.startBitRead (bits ++ [false])) s = .next t ∧ t.line.place = .inFrame ∧ t.line.bits = [false] ∧
        t.line.idleCount = 0 ∧ t.line.own = .none ∧ t.line.queue = s1.line.queue ∧ t.motion = s1.motion)

/-- CONTENTION_LOST: the station stops driving, goes on as a receiver, and its frame stays queued (R6). CONTENTION_WON: it
sends on, and an ANNOUNCE takes its payload from the current content (R6, R7). -/
def Obligations.ContentionIsLostOrWon : Prop :=
  ∀ (bits : List LineBit) (s s1 : State), s.readBits bits = s1 → s.inReset = false → s1.awake = true →
    (s1.losesNow = true → s1.line.leaveOnLoss = false →
      ∃ t, exec (.contentionLost bits) s = .next t ∧ t.line = { s1.line with
        own := .none, queue := s1.line.queue.map fun f => { f with onLine := false } } ∧ t.motion = s1.motion) ∧
    (∀ f, s1.line.queue.find? SendFrame.onLine = some f → s1.winsNow = true →
      ∃ t, exec (.contentionWon bits) s = .next t ∧ t.line.own = .sending ∧ t.line.bits = s1.line.bits ∧
        t.line.queue = (if f.cls = 5 then
          s1.line.queue.map fun g => if g.onLine then { g with payload := some s1.announcePayload } else g
        else s1.line.queue) ∧ t.motion = s1.motion)

/-- BIT_ERROR: the frame leaves the queue unsent; read recessive the error is counted at once, and at the last of the budget the
station enters ERRATIC; read dominant it is owed (R8, R15, R158, R99). The row's order comes before ERRATIC_SEEN acts through a
hold mask, which is the model's choice (log entries 46 and 50). -/
def Obligations.BitErrorRemovesTheFrame : Prop :=
  ∀ (bits : List LineBit) (s s1 : State), s.readBits bits = s1 → s.inReset = false → s1.awake = true →
    s1.line.refresh = false → ∀ level, s1.errorLevel = some level →
    (level = false → ∃ t, exec (.bitError bits) s = .next t ∧ t.line.own = .none ∧ t.line.place = .outside ∧
      t.line.queue = s1.line.queue.filter (fun f => !f.onLine) ∧ t.line.errorOwed = true ∧
      t.line.budget = s1.line.budget ∧ t.motion = s1.motion) ∧
    (level = true → ∃ t, exec (.bitError bits) s = .next t ∧ t.line.own = .none ∧ t.line.place = .outside ∧
      t.line.budget = s1.line.budget - 1 ∧ (s1.line.budget = 1 → s1.erraticEntered t) ∧
      (s1.line.budget ≠ 1 → t.line.queue = s1.line.queue.filter (fun f => !f.onLine) ∧ t.motion = s1.motion))

/-- HEADER_END_LATCH: the sender of a BEACON fills its payload with P and φ, and a receiver latches its own (R7, R30). -/
def Obligations.HeaderEndLatchesTheCount : Prop :=
  ∀ (bits : List LineBit) (s s1 : State), s.readBits bits = s1 → s.inReset = false → s1.awake = true →
    s1.latchesNow = true →
    (s1.line.own = .sending → ∃ t, exec (.headerEndLatch bits) s = .next t ∧
      t.line.queue = (s1.line.queue.map fun f =>
        if f.onLine then { f with payload := some (word16 s1.time.p.toNat ++ word16 s1.phi) } else f) ∧
      t.time = s1.time ∧ t.motion = s1.motion) ∧
    (s1.line.own = .none → ∃ t, exec (.headerEndLatch bits) s = .next t ∧ t.line = s1.line ∧
      t.time = { s1.time with latch := some { p := s1.time.p, phi := s1.phi, age := 0 } } ∧ t.motion = s1.motion)

/-- SENDER_ENTERS_SLOT and SLOT_END: after the last bit the sender reads the slot, the frame leaves the queue, and a dominant
slot raises the noise budget, which ends ERRATIC when it reaches B (R9, R15). An ANNOUNCE that leaves with its refresh mark set
places a new one (R21). -/
def Obligations.TheSlotEndsTheOwnFrame : Prop :=
  (∀ (bits : List LineBit) (s s1 : State), s.readBits bits = s1 → s.inReset = false → s1.awake = true →
    s1.sentWhole = true →
    ∃ t, exec (.senderEntersSlot bits) s = .next t ∧ t.line.own = .slot ∧ t.line.place = .slot ∧
      t.line.queue = s1.line.queue ∧ t.line.budget = s1.line.budget ∧ t.motion = s1.motion) ∧
  ∀ (level : LineBit) (s : State), s.awake = true → s.line.own = .slot → s.line.errorOwed = false →
    (s.line.refresh = false →
      ∃ t, exec (.slotEnd level) s = .next t ∧ t.line.own = .none ∧
        t.line.queue = s.line.queue.filter (fun f => !f.onLine) ∧
        t.line.budget = (if level then s.line.budget else min s.cfg.budget (s.line.budget + 1)) ∧
        (level = true ∨ s.line.budget + 1 < s.cfg.budget → t.line.erratic = s.line.erratic) ∧
        (level = false → s.cfg.budget ≤ s.line.budget + 1 → t.line.erratic = false) ∧
        t.line.silence = s.line.silence ∧ t.motion = s.motion) ∧
    (s.line.refresh = true → s.sends = true → s.line.queue.length ≤ 8 →
      (∃ f ∈ s.line.queue, f.onLine = true ∧ f.cls = 5) →
      ∃ t, exec (.slotEnd level) s = .next t ∧ t.line.own = .none ∧ t.line.refresh = false ∧
        t.line.queue = s.line.queue.filter (fun f => !f.onLine) ++
          [{ cls := 5, kind := 1, dest := 127, payload := none, onLine := false }] ∧ t.motion = s.motion)

/-- FRAME_RECEIVE_INTACT: the frame is acknowledged and counted, Q becomes 0 and SILENT ends, and ERRATIC ends when the noise
budget reaches B (R11, R15, R16); it is routed by its class (R12, R13), and one that bears the own address sets ADDRESS_CLASH and
is not routed: nothing of it is handed over (R14). -/
def Obligations.IntactFrameIsRouted : Prop :=
  ∀ (bits : List LineBit) (s s1 : State), s.readBits bits = s1 → s.inReset = false → s1.awake = true →
    ∀ f, s1.intactFrame = some f →
    ∃ t, exec (.frameReceiveIntact bits) s = .next t ∧
      t.line.budget = min s1.cfg.budget (s1.line.budget + 1) ∧ t.line.silence = 0 ∧ t.line.silent = false ∧
      (s1.line.budget + 1 < s1.cfg.budget → t.line.erratic = s1.line.erratic) ∧
      (s1.cfg.budget ≤ s1.line.budget + 1 → t.line.erratic = false) ∧
      t.line.place = .slot ∧ (t.line.ackDrive = true ↔ s1.station ≠ .listenOnly) ∧
      (s1.loader.address = some f.source →
        t.alarmSet .addressClash = true ∧ t.cmd = s1.cmd ∧ ∀ o ∈ t.owed, o ∈ s1.owed) ∧
      (s1.loader.address ≠ some f.source →
        (f.cls = 1 ∨ f.cls = 3 ∨ f.cls = 4 ∨ f.cls = 6 → s1.addressed f.dest = true →
          (s1.cmd.intake.length < 8 → t.cmd = { s1.cmd with intake := s1.cmd.intake ++
            [{ cls := f.cls, source := f.source, dest := f.dest, kind := f.kind, payload := f.payload }] }) ∧
          (8 ≤ s1.cmd.intake.length → t.cmd = s1.cmd ∧ t.alarmSet .intakeFull = true)) ∧
        (f.cls = 1 ∨ f.cls = 3 ∨ f.cls = 4 ∨ f.cls = 6 → s1.addressed f.dest = false → t.cmd = s1.cmd) ∧
        (f.cls = 0 ∨ f.cls = 7 → t.cmd = s1.cmd ∧ t.owed = s1.owed ∧ t.motion = s1.motion) ∧
        (f.cls = 2 → f.kind = 1 → f.payload.length = 4 → t.owed = s1.owed ++
          [.beacon f.source (BitVec.ofNat 16 (nat16At f.payload 0)) (nat16At f.payload 2) s1.latchOf]) ∧
        (f.cls = 5 → f.kind = 1 → f.payload.length = 8 →
          t.owed = s1.owed ++ [.announce f.source f.payload]))

/-- RECEIVE_ERROR counts one error at once, or owes it where a coding error is read on a dominant bit; INVALID_SOURCE_DISCARD
counts none and does not acknowledge; DEFERRED_ERROR_COUNT counts the error owed (R10, R15). Where the error is the last of the
budget, a station that stands between two commands enters ERRATIC with all that its row orders (R15, R158, R99), the order
before ERRATIC_SEEN acts through a hold mask (the model's choice, log entries 46 and 50). -/
def Obligations.ReceiveErrorsAreCounted : Prop :=
  ∀ (bits : List LineBit) (s s1 : State), s.readBits bits = s1 → s.inReset = false →
    (s1.verdict = .illegalLength ∨ s1.verdict = .codingError true → ∃ t, exec (.receiveError bits) s = .next t ∧
      t.line.place = .outside ∧ t.line.budget = s1.line.budget - 1 ∧
      (s1.line.budget = 1 → t.line.erratic = true ∧ (s1.awake = true → s1.erraticEntered t)) ∧
      t.cmd = s1.cmd) ∧
    (s1.verdict = .codingError false → ∃ t, exec (.receiveError bits) s = .next t ∧ t.line.place = .outside ∧
      t.line.errorOwed = true ∧ t.line.budget = s1.line.budget ∧ t.cmd = s1.cmd) ∧
    (s1.verdict = .badCheck → ∃ t, exec (.receiveError bits) s = .next t ∧ t.line.place = .slot ∧
      t.line.ackDrive = false ∧ t.line.budget = s1.line.budget - 1 ∧
      (s1.line.budget = 1 → t.line.erratic = true ∧ (s1.awake = true → s1.erraticEntered t)) ∧
      t.cmd = s1.cmd) ∧
    (s1.verdict = .badSource → ∃ t, exec (.invalidSourceDiscard bits) s = .next t ∧ t.line.place = .slot ∧
      t.line.ackDrive = false ∧ t.line.budget = s1.line.budget ∧ t.cmd = s1.cmd) ∧
    (s.line.errorOwed = true → s.line.own ≠ .slot → ∃ t, exec (.deferredErrorCount [true]) s = .next t ∧
      t.line.errorOwed = false ∧ t.line.budget = s.line.budget - 1 ∧
      (s.line.budget = 1 → t.line.erratic = true ∧ (s.awake = true → s.erraticEntered t)) ∧ t.cmd = s.cmd)

/-- BEACON_RECEIVE: the arrival map gets the bin of Δ, none for a gross beacon or one outside −80..79 (R36), and the beacon of a
reference is applied: to the slew remainder where |Δ| ≤ 50, by a hard realign otherwise (R31, R34, R35, R36, R195). A lower
beacon leaves the engine of a beacon-capable station in STANDBY with its silence timer at 25 (R28, R29). A hard realign sets
REALIGNED and keeps exactly the entries at distance 1 to 255; one that it has passed sets LATE_RUN, one pushed out of reach
SCHEDULE_LOST (R35, R43). -/
def Obligations.BeaconAlignsTheCount : Prop :=
  ∀ (s : State) (a : Nat) (pb : BitVec 16) (phib : Nat) (latch : Latch),
    s.owed.find? isBeacon = some (.beacon a pb phib latch) → s.inReset = false →
    ∃ t, exec .beaconReceive s = .next t ∧
      (∀ d, beaconDelta latch pb (min phib 999) = some d → ∀ i : Fin 16, t.time.arrivals.getLsbD i =
        (s.time.arrivals.getLsbD i || decide (-80 + 10 * (i.val : Int) ≤ d ∧ d ≤ -71 + 10 * (i.val : Int)))) ∧
      (beaconDelta latch pb (min phib 999) = none → t.time.arrivals = s.time.arrivals) ∧ t.cmd = s.cmd ∧
      (s.time.engine ≠ .listener → s.isLower a = true →
        t.time.engine = .standby ∧ t.time.silenceTimer = 25) ∧
      (s.time.engine = .listener ∨ s.isLower a = false →
        t.time.engine = s.time.engine ∧ t.time.silenceTimer = s.time.silenceTimer) ∧
      (s.alignsTo a = false → t.time.reference = s.time.reference ∧ t.time.slew = s.time.slew ∧
        t.time.lock = s.time.lock ∧ t.time.p = s.time.p ∧ t.time.elapsed = s.time.elapsed ∧
        t.time.lastDelta = s.time.lastDelta ∧ t.time.schedule = s.time.schedule) ∧
      (s.alignsTo a = true → t.time.reference = some a ∧ t.time.referenceAge = 0 ∧
        (∀ d, beaconDelta latch pb (min phib 999) = some d → t.time.lastDelta = .value d ∧
          (d.natAbs ≤ 50 → t.time.schedule = s.time.schedule) ∧
          (d.natAbs ≤ 2 → t.time.slew = 0 ∧ t.time.lock = .locked ∧ t.time.p = s.time.p ∧
            t.time.elapsed = s.time.elapsed) ∧
          (2 < d.natAbs → d.natAbs ≤ 50 → t.time.slew = d ∧ t.time.lock = .slewing ∧ t.time.p = s.time.p ∧
            t.time.elapsed = s.time.elapsed)) ∧
        (beaconDelta latch pb (min phib 999) = none → t.time.lastDelta = .gross) ∧
        (beaconDelta latch pb (min phib 999) = none ∨
            (∃ d, beaconDelta latch pb (min phib 999) = some d ∧ 50 < d.natAbs) →
          t.time.p = pb + BitVec.ofNat 16 ((min phib 999 + latch.age) / 1000) ∧
          t.time.elapsed = (min phib 999 + latch.age) % 1000 ∧ t.time.periodLength = 1000 ∧ t.time.slew = 0 ∧
          t.time.lock = .locked ∧
          t.time.schedule = s.time.schedule.filter
            (fun e => 1 ≤ e.distance t.time.p && e.distance t.time.p ≤ 255) ∧
          (s.awake = true → s.station ≠ .loading → t.alarmSet .realigned = true ∧
            ∀ e ∈ s.time.schedule,
              (e.distance t.time.p = 0 ∨ 32768 ≤ e.distance t.time.p → t.alarmSet .lateRun = true) ∧
              (256 ≤ e.distance t.time.p → e.distance t.time.p < 32768 → t.alarmSet .scheduleLost = true))))

/-- ANNOUNCE_RECEIVE stores the content as received with the interval clamped, at age 0 and fresh; a known address keeps its
entry and its pin, a new one takes a place, and no other entry changes unless the table is full (R53, R54, R195). A full table
then loses, of its entries that are not pinned, the one of the greatest age, and among those of the lowest address (R54). -/
def Obligations.AnnouncementIsStored : Prop :=
  ∀ (s : State) (a : Nat) (p : List Byte), s.owed.find? isAnnounce = some (.announce a p) → s.inReset = false →
    ∃ t, exec .announceReceive s = .next t ∧ t.time = s.time ∧ t.cmd = s.cmd ∧ t.peer.shed = t.shedNow ∧
      (∃ e ∈ t.peer.table, e.address = a ∧ e.age = 0 ∧ e.fresh = true ∧
        ((∀ x ∈ s.peer.table, x.address ≠ a) → e.pinned = false) ∧
        (s.tableLawful → ∀ x ∈ s.peer.table, x.address = a → e.pinned = x.pinned) ∧
        ∃ c, e.content = some c ∧ c.interval = max 10 (min 250 (natAt p 3)) ∧ c.flags = byteAt p 2 ∧
          c.group.toNat = natAt p 1 % 8 ∧ c.demand.toNat = natAt p 1 / 16 % 4 ∧ c.stateA = byteAt p 4 ∧
          c.stateB = byteAt p 5 ∧ c.alarmCount = byteAt p 6 ∧ c.lock.toNat = natAt p 7 % 4 ∧
          c.engine.toNat = natAt p 7 / 4 % 4 ∧ c.role.toNat = natAt p 0 % 32) ∧
      ((∃ x ∈ s.peer.table, x.address = a) ∨ s.peer.table.length < 32 →
        ∀ x ∈ s.peer.table, x.address ≠ a → x ∈ t.peer.table) ∧
      (∀ x ∈ s.peer.table, x.pinned = true → x.address ≠ a → s.tableLawful → x ∈ t.peer.table) ∧
      ∀ victim ∈ s.peer.table, victim.pinned = false → s.peer.table.length = 32 → s.tableLawful →
        (∀ x ∈ s.peer.table, x.address ≠ a) →
        (∀ x ∈ s.peer.table, x.pinned = false → x.age < victim.age ∨
          x.age = victim.age ∧ victim.address ≤ x.address) →
        (∀ e ∈ t.peer.table, e.address ≠ victim.address) ∧
          ∀ x ∈ s.peer.table, x.address ≠ victim.address → x ∈ t.peer.table

/-- ALLSTOP_ENTRY: ALLSTOP is present and its alarm set, the hold-off stops, no axis drives on and the line stop order reaches
each axis in its state, the noise budget is unchanged, and under RECALL the override is in force, the run stopped and the alert
scene recalled at once (R17, R166, R157, R97); the order comes before ALLSTOP_SEEN acts through a hold mask, which is the
model's choice (log entries 46 and 50). ALLSTOP_EXIT: the hold-off is loaded and the override ends (R17, R168, R98), stated
where nothing of the instant holds an axis again (R181, log entry 48). -/
def Obligations.AllstopEntersAndEnds : Prop :=
  ∀ (bits : List LineBit) (s s1 : State), s.readBits bits = s1 → s.inReset = false → s1.awake = true →
    (s1.allstopReached = true →
      ∃ t, exec (.allstopEntry bits) s = .next t ∧ t.line.allstop = true ∧ t.line.errorOwed = false ∧
        t.line.place = .outside ∧ t.line.budget = s1.line.budget ∧ t.safety.holdOff = 0 ∧
        (s1.station ≠ .loading → t.alarmSet .allstopSeen = true) ∧
        (∀ ax, (t.axis ax).state.drives = false ∧ s1.lineStopped t ax) ∧
        (s1.cfg.trigger.allstop.lightAction = .recall →
          t.light.override = true ∧ t.light.stepping = false ∧ t.light.offset = 0 ∧ s1.alertGiven t) ∧
        (s1.cfg.trigger.allstop.lightAction = .none → t.light.override = s1.light.override)) ∧
    (s1.allstopOver = true → s1.exitAllstop.heldAgain = false →
      ∃ t, exec (.allstopExit bits) s = .next t ∧ t.line.allstop = false ∧
        t.safety.holdOff = s1.cfg.trigger.allstop.holdOff ∧ t.light.override = false ∧
        t.safety.alarms &&& s1.safety.alarms = s1.safety.alarms ∧
        ∀ i : Fin 24, t.light.channels[i].lastScene = s1.light.channels[i].lastScene)

/-! ## Axes and sensors -/

/-- TRAVEL_PULSE changes position by one, saturated (R136), in every state but DISABLED; a GOTO that reaches its target comes to
rest with TARGET, and a WINDLASS at its soft limit with END (R144); in RUNNING a GOTO that has not arrived runs at its creep duty
within the creep distance and at its run duty elsewhere (R143); a back-off ends with its count (R155). -/
def Obligations.PulsesCountAndArrive : Prop :=
  ∀ (s : State) (ax : Axis) (high : Bool), s.awake = true → (s.axis ax).state ≠ .disabled →
    ∃ t, exec (.travelPulse ax high) s = .next t ∧ t.time = s.time ∧ t.cmd = s.cmd ∧
      (t.axis ax).position = (if high then min (s.axisCfg ax).travelMax ((s.axis ax).position + 1)
        else (s.axis ax).position - 1) ∧
      (t.axis ax).referenced = (s.axis ax).referenced ∧
      (∀ p, (s.axis ax).state.moves = true → (s.axis ax).mode = some .goto →
        (s.axis ax).target = some (.position p) →
        ((s.axisCfg ax).kind = .hatch ∨ (t.axis ax).position < (s.axisCfg ax).travelMax) →
        ((s.axis ax).direction = some .plus ∧ p ≤ (t.axis ax).position ∨
          (s.axis ax).direction = some .minus ∧ (t.axis ax).position ≤ p) →
        ((t.axis ax).state = .stopped ∨ (t.axis ax).state = .held) ∧ (t.axis ax).reason = .target ∧
          (t.axis ax).duty = 0) ∧
      (∀ target, (s.axis ax).state = .running → (s.axis ax).mode = some .goto →
        (s.axis ax).target = some target →
        ((s.axisCfg ax).kind = .hatch ∨ (t.axis ax).position < (s.axisCfg ax).travelMax) →
        (∀ p, target = .position p → ¬((s.axis ax).direction = some .plus ∧ p ≤ (t.axis ax).position) ∧
          ¬((s.axis ax).direction = some .minus ∧ (t.axis ax).position ≤ p)) →
        (t.axis ax).state = .running ∧ (t.axis ax).token = (s.axis ax).token ∧ (t.axis ax).duty =
          if (match target with
            | .position p =>
              decide ((p - (t.axis ax).position) + ((t.axis ax).position - p) ≤ (s.axisCfg ax).creepDistance)
            | .endMinus =>
              (s.axis ax).referenced && decide ((t.axis ax).position ≤ (s.axisCfg ax).creepDistance)
            | .endPlus => (s.axis ax).referenced &&
              decide ((s.axisCfg ax).travelMax - (t.axis ax).position ≤ (s.axisCfg ax).creepDistance)) = true
          then (s.axisCfg ax).creepDuty else (s.axisCfg ax).runDuty) ∧
      ((s.axis ax).state.moves = true ∨ (s.axis ax).state = .stopping → (s.axisCfg ax).kind = .windlass →
        (s.axis ax).direction = some .plus → (s.axisCfg ax).travelMax ≤ (t.axis ax).position →
        ((t.axis ax).state = .stopped ∨ (t.axis ax).state = .held) ∧ (t.axis ax).reason = .endReached ∧
          (t.axis ax).duty = 0) ∧
      ((s.axis ax).state = .reversing → (s.axis ax).direction = some (if high then .plus else .minus) →
        (1 < (s.axis ax).backOff → (t.axis ax).state = .reversing ∧
          (t.axis ax).backOff = (s.axis ax).backOff - 1 ∧ (t.axis ax).stallCount = 0) ∧
        ((s.axis ax).backOff = 1 → ((t.axis ax).state = .stopped ∨ (t.axis ax).state = .held) ∧
          (t.axis ax).reason = (s.axis ax).reason)) ∧
      ((s.axis ax).state.motorPowered = false → (t.axis ax).state = (s.axis ax).state ∧
        (t.axis ax).token = (s.axis ax).token)

/-- END_SWITCH_CHANGE: an activation sets position and referenced, ends a movement toward it with END, or a GOTO whose target
the new position reaches with TARGET, or else gives a GOTO in RUNNING the duty of its new distance; both switches of a HATCH
active leave it in FAULT with END_CONFLICT (R137, R138, R143, R144, R155); a switch going inactive moves nothing. That an axis
moving toward the second switch goes straight to FAULT, its token one higher, is the model's choice (log entry 37, DESIGN
CHOICE). A WINDLASS reads its minus switch alone, and its plus input changes nothing but the pin (R134). -/
def Obligations.EndSwitchesAct : Prop :=
  ∀ (s : State) (ax : Axis) (d : Direction), s.awake = true → s.station ≠ .loading →
    (s.axis ax).state ≠ .disabled →
    ((s.axisCfg ax).kind = .windlass → ∀ b,
      exec (.endSwitchChange ax .plus b) s = .next (s.setSwitchPin ax .plus b)) ∧
    ((s.axisCfg ax).kind = .hatch ∨ (s.axisCfg ax).kind = .windlass ∧ d = .minus →
      (∃ t, exec (.endSwitchChange ax d false) s = .next t ∧ t.switchPin ax d = false ∧
        (t.axis ax).position = (s.axis ax).position ∧ (t.axis ax).referenced = (s.axis ax).referenced) ∧
      (s.switchPin ax d = false →
        ∃ t, exec (.endSwitchChange ax d true) s = .next t ∧ t.switchPin ax d = true ∧ t.time = s.time ∧
          (t.axis ax).position = (match d with | .minus => 0 | .plus => (s.axisCfg ax).travelMax) ∧
          (t.axis ax).referenced = (match d with | .minus => true | .plus => (s.axis ax).referenced) ∧
          ((s.axisCfg ax).kind = .hatch → s.switchPin ax d.reverse = true →
            (t.axis ax).state = .fault ∧ t.alarmSet (.endConflict ax) = true ∧
            ((s.axis ax).state ≠ .fault → (t.axis ax).reason = .endConflict ∧ (t.axis ax).duty = 0 ∧
              (t.axis ax).token = (s.axis ax).token + 1) ∧
            ((s.axis ax).state = .fault → (t.axis ax).reason = (s.axis ax).reason ∧
              (t.axis ax).token = (s.axis ax).token)) ∧
          ((s.axisCfg ax).kind = .windlass ∨ s.switchPin ax d.reverse = false →
            ((s.axis ax).direction = some d →
              ((s.axis ax).state.moves = true ∨ (s.axis ax).state = .stopping →
                ((t.axis ax).state = .stopped ∨ (t.axis ax).state = .held) ∧
                  (t.axis ax).reason = .endReached ∧ (t.axis ax).duty = 0) ∧
              ((s.axis ax).state = .reversing →
                ((t.axis ax).state = .stopped ∨ (t.axis ax).state = .held) ∧
                  (t.axis ax).reason = (s.axis ax).reason)) ∧
            ∀ p, (s.axis ax).direction = some d.reverse → (s.axis ax).mode = some .goto →
              (s.axis ax).target = some (.position p) → p ≤ (s.axisCfg ax).travelMax →
              ((s.axis ax).state.moves = true → p = (t.axis ax).position →
                ((t.axis ax).state = .stopped ∨ (t.axis ax).state = .held) ∧ (t.axis ax).reason = .target ∧
                  (t.axis ax).duty = 0) ∧
              ((s.axis ax).state = .running → Alarm.sendDrop.within (s.axisCfg ax).holdMask = false →
                p ≠ (t.axis ax).position →
                (t.axis ax).state = .running ∧ (t.axis ax).token = (s.axis ax).token ∧ (t.axis ax).duty =
                  if (p - (t.axis ax).position) + ((t.axis ax).position - p) ≤ (s.axisCfg ax).creepDistance then
                    (s.axisCfg ax).creepDuty
                  else (s.axisCfg ax).runDuty))))

/-- SENSE_SAMPLE of one bit: the integrators take it (R117); where it completes R bits, the combs form the output (R118), which
a channel in SETTLING counts, the fourth making its first sample with the auto-tare (R119), and which a channel in RUNNING
scales to its sample, with the tracking step, the net force and the flag that follow from it (R120, R121, R122, R124, R128). For
a motor-powered bound axis the sample raises the peak and steps or clears the obstruction count; at rest the count is 0 (R125,
R126, R127); that they take the first sample too, the fourth output of SETTLING, is the model's reading (log entry 31, DEDUCED).
The bit whose sample would signal is owed to OBSTRUCTION_SIGNAL (log entry 20), and the CLIP of a bit comes after its sample
(log entry 45, the model's choice). -/
def Obligations.BitsMakeSamples : Prop :=
  ∀ (s : State) (c : Fin 4) (b : Bool), s.awake = true → s.owed = [] → s.sense[c].state ≠ .off →
    (∀ ax, s.signalled c b = some ax → exec (.senseSample c [b]) s = .next (s.owe (.obstruction ax c b))) ∧
    (s.signalled c b = none →
      ∃ t, exec (.senseSample c [b]) s = .next t ∧ t.time = s.time ∧ t.cmd = s.cmd ∧
        t.sense[c].i1 = s.sense[c].i1 + (if b then 1 else -1) ∧ t.sense[c].i2 = s.sense[c].i2 + t.sense[c].i1 ∧
        t.sense[c].i3 = s.sense[c].i3 + t.sense[c].i2 ∧ t.sense[c].lastBit = b ∧
        t.sense[c].runLength =
          (if s.sense[c].lastBit = b then min 65535 (s.sense[c].runLength + 1) else 1) ∧
        (s.sense[c].bitCount + 1 < s.cfg.sense[c].ratio → t.sense[c].bitCount = s.sense[c].bitCount + 1 ∧
          t.sense[c].state = s.sense[c].state ∧ t.sense[c].sample = s.sense[c].sample ∧
          t.sense[c].baseline = s.sense[c].baseline ∧ t.sense[c].force = s.sense[c].force) ∧
        (s.cfg.sense[c].ratio ≤ s.sense[c].bitCount + 1 →
          t.sense[c].bitCount = 0 ∧ t.sense[c].v = t.sense[c].i3 ∧ t.sense[c].c1 = t.sense[c].v - s.sense[c].v ∧
          t.sense[c].c2 = t.sense[c].c1 - s.sense[c].c1 ∧
          (s.sense[c].state = .settling → s.sense[c].settle < 3 →
            t.sense[c].state = .settling ∧ t.sense[c].settle = s.sense[c].settle + 1) ∧
          (s.sense[c].state = .settling → 3 ≤ s.sense[c].settle →
            t.sense[c].baseline = if s.frozen c = true then 0 else t.sense[c].sample * 256) ∧
          (s.sense[c].state = .running → t.sense[c].baseline =
            if s.cfg.sense[c].rate = 0 ∨ s.frozen c = true then s.sense[c].baseline
            else s.sense[c].baseline +
              (t.sense[c].sample * 256 - s.sense[c].baseline) / 2 ^ (12 - s.cfg.sense[c].rate)) ∧
          (s.sense[c].state = .running ∨ 3 ≤ s.sense[c].settle →
            t.sense[c].state = .running ∧
            t.sense[c].sample = scale s.cfg.sense[c].ratio (t.sense[c].c2 - s.sense[c].c2).toInt ∧
            t.sense[c].force =
              max (-32768) (min 32767 (t.sense[c].sample - (t.sense[c].baseline + 128) / 256)) ∧
            (t.sense[c].flag = true ↔ s.cfg.sense[c].threshold ≤ t.sense[c].force) ∧
            ∀ ax, s.boundAxis c = some ax →
              ((s.axis ax).state.motorPowered = true →
                (t.axis ax).peak = max (s.axis ax).peak t.sense[c].force.natAbs) ∧
              ((∀ x, Alarm.sendDrop.within (s.axisCfg x).holdMask = false) → t.sense[c].obstruction =
                if (s.axis ax).state.motorPowered = true ∧ (s.axis ax).blanking = 0 ∧
                    (s.axisCfg ax).obstructionLimit < t.sense[c].force.natAbs then s.sense[c].obstruction + 1
                else 0))))

/-- OBSTRUCTION_SIGNAL: the channel takes the owed bit, at whose sample it signals (R125; log entry 20): the alarm is set, the
count is 0 and the peak taken, and the axis comes to rest, backs off, or enters FAULT from REVERSING (R126, R127, R153, R154,
R155), and the CLIP of the same bit comes after (log entry 45, the model's choice). Where the axis has come to rest since, the
sample finds it at rest and no signal arises (R131). CLIP sets its alarm, with one step of the count and its notice, and touches
no channel (R129, R175, R176). -/
def Obligations.ObstructionAndClipAreReported : Prop :=
  ∀ s : State, s.awake = true → s.station ≠ .loading →
    (∀ (ax : Axis) (c : Fin 4) (b : Bool), s.owed.find? (isSignal ax) = some (.obstruction ax c b) →
      (s.signalled c b = some ax →
        ∃ t, exec (.obstructionSignal ax) s = .next t ∧ t.alarmSet (.obstruction ax) = true ∧
          (t.axis ax).reason = .obstruction ∧ (t.axis ax).lease = none ∧ t.time = s.time ∧
          t.sense[c].bitCount = 0 ∧ t.sense[c].obstruction = 0 ∧ (s.axis ax).blanking = 0 ∧
          (s.axisCfg ax).obstructionLimit < t.sense[c].force.natAbs ∧
          (t.axis ax).peak = max (s.axis ax).peak t.sense[c].force.natAbs ∧
          ((s.axis ax).state = .reversing → (t.axis ax).state = .fault ∧ (t.axis ax).duty = 0) ∧
          ((s.axis ax).state.moves = true → (s.axisCfg ax).kind = .hatch →
            (s.axisCfg ax).response = .stopBackOff → 0 < (s.axisCfg ax).backOffDistance →
            (t.axis ax).state = .reversing ∧ (t.axis ax).duty = (s.axisCfg ax).creepDuty ∧
            (t.axis ax).backOff = (s.axisCfg ax).backOffDistance ∧ (t.axis ax).stallCount = 0 ∧
            (t.axis ax).direction = (s.axis ax).direction.map Direction.reverse) ∧
          (s.room 2 = true → s.cfg.reportMask = 0 → (freeSlot s.pool).isSome = true →
            (t.axis ax).token = (s.axis ax).token + 1 ∧
            ((s.axis ax).state = .stopping ∨ (s.axis ax).state.moves = true ∧
                ((s.axisCfg ax).kind ≠ .hatch ∨ (s.axisCfg ax).response = .stop ∨
                  (s.axisCfg ax).backOffDistance = 0) →
              (t.axis ax).duty = 0 ∧ (t.axis ax).state =
                if s.heldNow ax ∨ (Alarm.obstruction ax).within (s.axisCfg ax).holdMask = true then .held
                else .stopped))) ∧
      (s.boundAxis c = some ax → (s.axis ax).state.motorPowered = false →
        ∃ t, exec (.obstructionSignal ax) s = .next t ∧ t.time = s.time ∧ t.cmd = s.cmd ∧
          t.sense[c].i1 = s.sense[c].i1 + (if b then 1 else -1) ∧ t.sense[c].lastBit = b ∧
          t.alarmSet (.obstruction ax) = s.alarmSet (.obstruction ax) ∧
          ((∀ x, Alarm.sendDrop.within (s.axisCfg x).holdMask = false) → t.motion = s.motion))) ∧
    ∀ c : Fin 4, Owed.clip c ∈ s.owed →
      ∃ t, exec (.clip c) s = .next t ∧ t.alarmSet (.clip c) = true ∧ t.time = s.time ∧ t.cmd = s.cmd ∧
        (∀ x : Fin 4, t.sense[x].runLength = s.sense[x].runLength ∧ t.sense[x].sample = s.sense[x].sample) ∧
        (s.alarmSet (.clip c) = true → t.safety = s.safety ∧ t.line = s.line ∧ t.motion = s.motion) ∧
        (s.alarmSet (.clip c) = false → s.room 1 = true →
          (∀ ax, (Alarm.clip c).within (s.axisCfg ax).holdMask = false) →
          t.safety.alarms = s.safety.alarms ||| (Alarm.clip c).mask ∧ t.safety.count = s.safety.count + 1 ∧
          t.motion = s.motion ∧ t.line.queue = s.line.queue ++
            if (Alarm.clip c).within s.cfg.reportMask = true then
              [{ cls := 0, kind := 1, dest := 127, onLine := false,
                 payload := some [byteOf (Alarm.clip c).code, s.safety.count + 1] }]
            else [])

/-! ## Requests -/

/-- DECODE_TAKE takes the pending request of the lowest-numbered key, or else the head of the intake queue (R63, R61, R62). -/
def Obligations.DecoderTakesTheNextRequest : Prop :=
  ∀ s : State, s.awake = true → s.cmd.decoder = none →
    (∀ (k : Fin 8) (q : KeyRequest), s.cmd.keys[k].pending = some q →
      (∀ j : Fin 8, j < k → s.cmd.keys[j].pending = none) →
      ∃ t, exec .decodeTake s = .next t ∧ t = s.setCmd { s.cmd with
        keys := s.cmd.keys.set k { s.cmd.keys[k] with pending := none },
        decoder := some { request := keyRequest q, age := 0 } }) ∧
    (∀ (e : IntakeEntry) (rest : List IntakeEntry), (∀ j : Fin 8, s.cmd.keys[j].pending = none) →
      s.cmd.intake = e :: rest →
      ∃ t, exec .decodeTake s = .next t ∧ t = s.setCmd { s.cmd with
        intake := rest,
        decoder := some {
          request := {
            source := .peer e.source,
            addressing := if s.loader.address = some e.dest then .station
              else if e.dest = 127 then .all else .group (e.dest - 64),
            body := .frame e.cls e.kind e.payload },
          age := 0 } })

/-- GOTO END_MINUS or END_PLUS of a HATCH with a ramp-up starts the axis: STARTING, token stepped, duty 0 with the ramp's slot
given, blanking loaded, peak 0, and the OUTCOME is OK with the new token (R146, R142, R139, R73). The slot is the lowest free
one (R106); where none is free it is the LIGHT slot with the fewest remaining periods, and of those the lowest, whose members
take their goals at once, and RAMP_SHORT is set (R113). -/
def Obligations.GotoStartsTheAxis : Prop :=
  ∀ (s : State) (a : Nat) (ax other : Axis) (toPlus : Bool) (k : Fin 16) (x y : Byte),
    s.flies (fromPeer a 1 1 [if ax = .A then 0 else 1, if toPlus then 1 else 2, x, y]) → s.awake = true →
    s.room 2 = true → other ≠ ax → s.motionHeld = false → (s.axis ax).state = .stopped →
    (s.axisCfg ax).kind = .hatch → (s.axisCfg ax).rampUp ≠ 0 →
    freeSlot s.pool = some k ∨
      (freeSlot s.pool = none ∧ s.station ≠ .loading ∧ s.cfg.reportMask = 0 ∧
        (∀ z, Alarm.rampShort.within (s.axisCfg z).holdMask = false) ∧
        ∃ seized, s.pool[k] = some seized ∧ seized.owner = .light ∧
          ∀ (j : Fin 16) (slot : Slot), s.pool[j] = some slot → slot.owner = .light →
            seized.length - seized.elapsed < slot.length - slot.elapsed ∨
              (seized.length - seized.elapsed = slot.length - slot.elapsed ∧ k ≤ j)) →
    s.switchPin ax (if toPlus then .plus else .minus) = false →
    (s.axisSafety ax).permitted (if toPlus then .plus else .minus) = true →
    ∃ t, exec .goto s = .next t ∧
      t.axis ax = { s.axis ax with
        state := .starting, token := (s.axis ax).token + 1,
        direction := some (if toPlus then .plus else .minus), mode := some .goto,
        target := some (if toPlus then .endPlus else .endMinus), lease := none, reason := .none, peak := 0,
        stallCount := 0, backOff := 0, blanking := (s.axisCfg ax).startBlanking, duty := 0, slot := some k } ∧
      t.pool[k] = some {
        owner := .motor ax 0 (if (s.axis ax).referenced = true ∧
            (if toPlus then (s.axisCfg ax).travelMax - (s.axis ax).position else (s.axis ax).position) ≤
              (s.axisCfg ax).creepDistance then (s.axisCfg ax).creepDuty else (s.axisCfg ax).runDuty),
        length := (s.axisCfg ax).rampUp, elapsed := 0, members := 1 } ∧
      t.axis other = s.axis other ∧ t.brakePin ax = true ∧ t.cmd.decoder = none ∧ t.time = s.time ∧
      (freeSlot s.pool = some k → t.safety = s.safety ∧ t.light.channels = s.light.channels) ∧
      (freeSlot s.pool = none → t.alarmSet .rampShort = true ∧
        ∀ i : Fin 24, t.light.channels[i] =
          match s.light.channels[i].fade with
          | some f => if f.slot = k then { s.light.channels[i] with level := f.goal, fade := none }
              else s.light.channels[i]
          | none => s.light.channels[i]) ∧
      ∃ f ∈ t.line.queue, f.cls = 4 ∧ f.kind = 1 ∧ f.dest = a ∧ f.onLine = false ∧
        f.payload = some [0x21, if ax = .A then 0x20 else 0x40, (s.axis ax).token + 1, s.pLow]

/-- GOTO to a position where it does not start: HELD, STALE, BUSY, NOT_READY, INTERLOCKED or OK with no motion, in the order of
R67 and R146; the axis does not move and its token stands. -/
def Obligations.GotoIsRefusedInOrder : Prop :=
  ∀ (s : State) (a : Nat) (ax : Axis) (token hi lo : Byte) (r : Request),
    r = fromPeer a 1 1 [if ax = .A then 0 else 1, 0x80, hi, lo, token] → s.flies r → s.awake = true →
    s.room 1 = true → (s.axisCfg ax).kind ≠ .none →
    (s.motionHeld = true → exec .goto s = .next ((s.endDecode r).replied r a .held)) ∧
    (s.motionHeld = false → token ≠ (s.axis ax).token →
      exec .goto s = .next ((s.endDecode r).replied r a .stale)) ∧
    (s.motionHeld = false → token = (s.axis ax).token →
      ((s.axis ax).state.motorPowered = true → exec .goto s = .next ((s.endDecode r).replied r a .busy)) ∧
      ((s.axis ax).state = .held → exec .goto s = .next ((s.endDecode r).replied r a .held)) ∧
      ((s.axis ax).state = .fault → exec .goto s = .next ((s.endDecode r).replied r a .notReady)) ∧
      ((s.axis ax).state = .stopped → (s.axis ax).referenced = false →
        exec .goto s = .next ((s.endDecode r).replied r a .notReady)) ∧
      ((s.axis ax).state = .stopped → (s.axis ax).referenced = true →
        min (hi.toNat * 256 + lo.toNat) (s.axisCfg ax).travelMax = (s.axis ax).position →
        exec .goto s = .next (((s.endDecode r).setAxis ax { s.axis ax with
          target := some (.position (s.axis ax).position), reason := .target }).replied r a .ok)) ∧
      ((s.axis ax).state = .stopped → (s.axis ax).referenced = true →
        (s.axis ax).position < min (hi.toNat * 256 + lo.toNat) (s.axisCfg ax).travelMax →
        s.switchRead ax .plus = false → (s.axisSafety ax).plus = false →
        exec .goto s = .next ((s.endDecode r).replied r a .interlocked)))

/-- JOG: the lease's holder in its direction reloads it (R148, R149); an axis at rest starts with a lease (R148, R142); any other
JOG of a motor-powered axis is BUSY: one not in JOG mode, another source, another direction, or an axis that stops or backs off.
JOG_RELEASE by a key: a STOP of the axis whose LOCAL lease runs in the key's direction, and nothing otherwise (R65). -/
def Obligations.JogHoldsALease : Prop :=
  (∀ (s : State) (a : Nat) (ax : Axis) (d : Direction) (r : Request),
    r = fromPeer a 1 2 [if ax = .A then 0 else 1, if d = .plus then 0 else 1] → s.flies r → s.awake = true →
    s.motionHeld = false → (s.axisCfg ax).kind ≠ .none →
    (∀ l, (s.axis ax).lease = some l → l.holder = .peer a → s.room 1 = true → (s.axis ax).state.moves = true →
      (s.axis ax).mode = some .jog → (s.axis ax).direction = some d →
      exec .jog s = .next (((s.endDecode r).setAxis ax { s.axis ax with
        lease := some { holder := .peer a, remaining := (s.axisCfg ax).jogLease } }).replied r a .ok)) ∧
    (s.room 1 = true → (s.axis ax).state.motorPowered = true →
      ((s.axis ax).mode ≠ some .jog ∨ (s.axis ax).direction ≠ some d ∨ (s.axis ax).state.moves = false ∨
        ∀ l, (s.axis ax).lease = some l → l.holder ≠ .peer a) →
      exec .jog s = .next ((s.endDecode r).replied r a .busy)) ∧
    (s.room 2 = true → (s.axis ax).state = .stopped → s.switchPin ax d = false → (s.axisCfg ax).kind = .hatch →
      (s.axisSafety ax).permitted d = true → (s.axisCfg ax).rampUp ≠ 0 → (freeSlot s.pool).isSome = true →
      ∃ t, exec .jog s = .next t ∧ (t.axis ax).state = .starting ∧
        (t.axis ax).lease = some { holder := .peer a, remaining := (s.axisCfg ax).jogLease } ∧
        (t.axis ax).direction = some d ∧ (t.axis ax).mode = some .jog ∧
        (t.axis ax).token = (s.axis ax).token + 1 ∧ (t.axis ax).duty = 0 ∧ t.safety = s.safety)) ∧
  ∀ (s : State) (ax : Axis) (d : Direction) (r : Request),
    r = keyRequest (.jogRelease (if ax = .A then 0 else 1) (if d = .plus then 0 else 1)) → s.flies r →
    s.awake = true → (s.axisCfg ax).kind ≠ .none →
    ((s.axis ax).leasedTo .key d = false → exec .jogRelease s = .next (s.endDecode r)) ∧
    ((s.axis ax).leasedTo .key d = true → (s.axis ax).state.moves = true → (s.axisCfg ax).rampDown ≠ 0 →
      ∃ t, exec .jogRelease s = .next t ∧ (t.axis ax).state = .stopping ∧ (t.axis ax).reason = .stopCmd ∧
        (t.axis ax).lease = none)

/-- STOP: an axis in STARTING or RUNNING stops by its ramp, a back-off comes to rest, any other is not changed; the outcome is OK
in every state, with the token as it then stands (R150, R145, R140, R73). -/
def Obligations.StopStopsTheAxis : Prop :=
  ∀ (s : State) (a : Nat) (ax : Axis) (r : Request), r = fromPeer a 1 3 [if ax = .A then 0 else 1] →
    s.flies r → s.awake = true → (s.axisCfg ax).kind ≠ .none →
    (s.room 1 = true → (s.axis ax).state.motorPowered = false ∨ (s.axis ax).state = .stopping →
      exec .stop s = .next ((s.endDecode r).replied r a .ok)) ∧
    ((s.axis ax).state.moves = true → (s.axisCfg ax).rampDown ≠ 0 → (freeSlot s.pool).isSome = true →
      ∃ t, exec .stop s = .next t ∧ (t.axis ax).state = .stopping ∧ (t.axis ax).reason = .stopCmd ∧
        (t.axis ax).lease = none ∧ (t.axis ax).token = (s.axis ax).token + 1 ∧
        (t.axis ax).position = (s.axis ax).position ∧ t.time = s.time ∧
        (s.room 2 = true → ∃ f ∈ t.line.queue, f.cls = 4 ∧ f.kind = 1 ∧ f.dest = a ∧ f.onLine = false ∧
          f.payload = some [0x23, if ax = .A then 0x20 else 0x40, (s.axis ax).token + 1, s.pLow])) ∧
    (s.room 2 = true → (s.axis ax).state = .reversing →
      ∃ t, exec .stop s = .next t ∧ (t.axis ax).reason = .stopCmd ∧ (t.axis ax).duty = 0 ∧
        (t.axis ax).token = (s.axis ax).token + 1 ∧
        (t.axis ax).state = (if s.heldNow ax then .held else .stopped) ∧
        ∃ f ∈ t.line.queue, f.cls = 4 ∧ f.kind = 1 ∧ f.dest = a ∧ f.onLine = false ∧
          f.payload = some [0x23, if ax = .A then 0x20 else 0x40, (s.axis ax).token + 1, s.pLow])

/-- AXIS CLEAR brings an axis in FAULT to rest unless its switches conflict (R152); REFERENCE sets the position of an axis in
STOPPED (R151); TARE sets the baseline of a channel in RUNNING whose axis is at rest (R123, R124, R128). -/
def Obligations.AxesAndChannelsAreSetAtRest : Prop :=
  ∀ (s : State) (a : Nat) (r : Request), s.flies r → s.awake = true →
    (∀ ax : Axis, (s.axisCfg ax).kind ≠ .none → s.motionHeld = false →
      r = fromPeer a 1 4 [if ax = .A then 0 else 1] →
      (s.room 1 = true → (s.axis ax).state ≠ .fault → exec .axisClear s = .next ((s.endDecode r).replied r a .ok)) ∧
      (s.room 1 = true → (s.axis ax).state = .fault → s.inConflict ax = true →
        exec .axisClear s = .next ((s.endDecode r).replied r a .notReady)) ∧
      (s.room 2 = true → (s.axis ax).state = .fault → s.inConflict ax = false →
        ∃ t, exec .axisClear s = .next t ∧ (t.axis ax).token = (s.axis ax).token + 1 ∧ (t.axis ax).duty = 0 ∧
          (t.axis ax).state = (if s.heldNow ax then .held else .stopped) ∧
          (t.axis ax).position = (s.axis ax).position ∧ (t.axis ax).referenced = (s.axis ax).referenced ∧
          (t.axis ax).reason = (s.axis ax).reason ∧ t.safety.alarms = s.safety.alarms)) ∧
    (∀ (ax : Axis) (hi lo : Byte), (s.axisCfg ax).kind ≠ .none → s.motionHeld = false → s.room 1 = true →
      r = fromPeer a 1 5 [if ax = .A then 0 else 1, hi, lo] →
      ((s.axis ax).state = .stopped → exec .reference s = .next (((s.endDecode r).setAxis ax { s.axis ax with
        position := min (hi.toNat * 256 + lo.toNat) (s.axisCfg ax).travelMax,
        referenced := true }).replied r a .ok)) ∧
      ((s.axis ax).state = .held → exec .reference s = .next ((s.endDecode r).replied r a .held)) ∧
      ((s.axis ax).state.motorPowered = true ∨ (s.axis ax).state = .fault →
        exec .reference s = .next ((s.endDecode r).replied r a .busy))) ∧
    ∀ c : Fin 4, s.cfg.sense[c].enabled = true → s.room 1 = true → r = fromPeer a 1 6 [byteOf c.val] →
      (s.sense[c].state ≠ .running → exec .tare s = .next ((s.endDecode r).replied r a .notReady)) ∧
      (s.sense[c].state = .running → s.frozen c = true → exec .tare s = .next ((s.endDecode r).replied r a .busy)) ∧
      (s.sense[c].state = .running → s.frozen c = false → -32768 ≤ s.sense[c].sample → s.sense[c].sample ≤ 32767 →
        ∃ t, exec .tare s = .next t ∧ t.sense[c].baseline = s.sense[c].sample * 256 ∧ t.sense[c].force = 0 ∧
          t.sense[c].sample = s.sense[c].sample ∧ (t.sense[c].flag = true ↔ s.cfg.sense[c].threshold ≤ 0) ∧
          t.cmd.decoder = none ∧ t.time = s.time)

/-- The settings of the lights: LIGHTS ENABLE, CHANNEL ENABLE, NIGHT SET, NIGHT OFF, RUN SET, RUN START, RUN STOP and SCENE TIME
write what they name, the outputs follow, and the outcome is OK (R82, R83, R88, R89, R90, R91, R92, R85, R95, R73). -/
def Obligations.LightSettingsAreTaken : Prop :=
  ∀ (s : State) (a : Nat) (r : Request), s.flies r → s.awake = true → s.room 1 = true → s.lightingHeld = false →
    (∀ on : Bool, r = fromPeer a 3 3 [if on then 1 else 0] →
      exec .lightsEnable s =
        .next ((((s.endDecode r).setLight { s.light with master := on }).replied r a .ok).publish)) ∧
    (∀ (x y z : Byte) (on : Bool), r = fromPeer a 3 4 [x, y, z, if on then 1 else 0] →
      ∃ t, exec .channelEnable s = .next t ∧ t.line = (s.replied r a .ok).line ∧ t.pool = s.pool ∧
        s.sameBesideLights t ∧ ∀ i : Fin 24, t.light.channels[i] =
          if (x.toNat * 65536 + y.toNat * 256 + z.toNat).testBit i.val then
            { s.light.channels[i] with enabled := on } else s.light.channels[i]) ∧
    (∀ ps pe hi lo : Byte, ps.toNat < 24 → pe.toNat < 24 → r = fromPeer a 3 5 [ps, pe, hi, lo] →
      exec .nightSet s = .next ((((s.endDecode r).setLight { s.light with
        night := { on := true, first := ps.toNat, last := pe.toNat,
                   cap := min (hi.toNat * 256 + lo.toNat) 4095 } }).replied r a .ok).publish)) ∧
    (r = fromPeer a 3 6 [] → exec .nightOff s = .next ((((s.endDecode r).setLight { s.light with
      night := { s.light.night with on := false } }).replied r a .ok).publish)) ∧
    (∀ h v t n : Byte, h.toNat + v.toNat + t.toNat = 24 → 2 ≤ v.toNat → 1 ≤ n.toNat → n.toNat ≤ 250 →
      r = fromPeer a 3 7 [h, v, t, n] →
      (s.light.stepping = true → exec .runSet s = .next ((s.endDecode r).replied r a .busy)) ∧
      (s.light.stepping = false → exec .runSet s = .next ((((s.endDecode r).setLight { s.light with
        region := some { head := h.toNat, span := v.toNat, tail := t.toNat,
                         steps := n.toNat } }).replied r a .ok).publish))) ∧
    (r = fromPeer a 3 8 [] →
      (s.light.region = none → exec .runStart s = .next ((s.endDecode r).replied r a .notReady)) ∧
      (∀ g, s.light.region = some g → Owed.runStep ∉ s.owed →
        exec .runStart s = .next ((((s.endDecode r).setLight { s.light with
          stepping := true, offset := 0, stepCount := 0 }).replied r a .ok).publish))) ∧
    (r = fromPeer a 3 9 [] → Owed.runStep ∉ s.owed →
      exec .runStop s = .next ((((s.endDecode r).setLight { s.light with
        stepping := false, offset := 0, stepCount := 0 }).replied r a .ok).publish)) ∧
    ∀ (k : Fin 8) (hi lo : Byte), r = fromPeer a 3 10 [byteOf k.val, hi, lo] →
      (s.cfg.alertScene = some k → exec .sceneTime s = .next ((s.endDecode r).replied r a .locked)) ∧
      (s.cfg.alertScene ≠ some k → exec .sceneTime s = .next ((((s.endDecode r).setLight { s.light with
        scenes := s.light.scenes.set k { s.light.scenes[k] with
          fadeTime := min (hi.toNat * 256 + lo.toNat) 6000 } }).replied r a .ok).publish))

/-- LEVEL SET and SCENE RECALL: with fade time 0 the selected channels take their goals at once; with a fade time they join one
free slot (R81, R86, R87, R106, R110), and where none is free they take their goals at once and RAMP_SHORT is set (R112). With an
at byte k periods ahead a LEVEL SET acts at once at k = 0, joins the schedule list by its due distance (SCHEDULED, or FULL) for k
up to 127, is EXPIRED up to 247, and from 248 acts at once with LATE and LATE_RUN set (R39, R40). GROUP_RECALL_REQUEST offers its
frame and recalls the scene on the own channels of the group (R65). -/
def Obligations.LevelsAndScenesAreGiven : Prop :=
  (∀ (s : State) (a : Nat) (r : Request) (i : Fin 24) (hi lo : Byte), s.flies r → s.awake = true →
    s.room 1 = true → s.lightingHeld = false →
    (r = fromPeer a 3 2 [byteOf i.val, hi, lo, 0, 0] →
      ∃ t, exec .levelSet s = .next t ∧ t.line = (s.replied r a .ok).line ∧ s.sameBesideLights t ∧
        ∀ j : Fin 24, t.light.channels[j] = if j = i then { s.light.channels[j] with
            level := min (hi.toNat * 256 + lo.toNat) 4095, fade := none, lastScene := none }
          else s.light.channels[j]) ∧
    (∀ (k : Fin 16) (fade : Byte), 1 ≤ fade.toNat → s.light.channels[i].fade = none → freeSlot s.pool = some k →
      r = fromPeer a 3 2 [byteOf i.val, hi, lo, 0, fade] →
      ∃ t, exec .levelSet s = .next t ∧ s.sameBesideLights t ∧
        t.pool = s.pool.set k (some { owner := .light, length := fade.toNat, elapsed := 0, members := 1 }) ∧
        ∀ j : Fin 24, t.light.channels[j] = if j = i then { s.light.channels[j] with
            fade := some { start := s.light.channels[j].level, goal := min (hi.toNat * 256 + lo.toNat) 4095,
                           slot := k }, lastScene := none }
          else s.light.channels[j]) ∧
    (∀ fade : Byte, 1 ≤ fade.toNat → s.light.channels[i].fade = none → freeSlot s.pool = none →
      s.cfg.reportMask = 0 → (∀ ax, Alarm.rampShort.within (s.axisCfg ax).holdMask = false) →
      r = fromPeer a 3 2 [byteOf i.val, hi, lo, 0, fade] →
      ∃ t, exec .levelSet s = .next t ∧ t.alarmSet .rampShort = true ∧ t.pool = s.pool ∧ t.motion = s.motion ∧
        t.time = s.time ∧ ∀ j : Fin 24, t.light.channels[j] = if j = i then { s.light.channels[j] with
            level := min (hi.toNat * 256 + lo.toNat) 4095, lastScene := none }
          else s.light.channels[j]) ∧
    ∀ d : Byte, r = fromPeer a 3 2 [byteOf i.val, hi, lo, 0, 0, d] →
      (d = s.pLow →
        ∃ t, exec .levelSet s = .next t ∧ t.line = (s.replied r a .ok).line ∧ s.sameBesideLights t ∧
          t.light.channels[i].level = min (hi.toNat * 256 + lo.toNat) 4095) ∧
      (1 ≤ (d - s.pLow).toNat → (d - s.pLow).toNat ≤ 127 →
        (16 ≤ s.time.schedule.length → exec .levelSet s = .next ((s.endDecode r).replied r a .full)) ∧
        (s.time.schedule.length < 16 →
          ∃ t before after, exec .levelSet s = .next t ∧ t.line = (s.replied r a .scheduled).line ∧
            t.light = s.light ∧ s.time.schedule = before ++ after ∧
            t.time = { s.time with nextOrder := s.time.nextOrder + 1, schedule := before ++ [{
              request := .levelSet (some i) (min (hi.toNat * 256 + lo.toNat) 4095) 0, source := .peer a,
              addressing := .station, due := s.time.p + BitVec.ofNat 16 (d - s.pLow).toNat,
              order := s.time.nextOrder }] ++ after } ∧
            (∀ e ∈ before, e.distance s.time.p ≤ (d - s.pLow).toNat) ∧
            ∀ e ∈ after.head?, (d - s.pLow).toNat < e.distance s.time.p)) ∧
      (128 ≤ (d - s.pLow).toNat → (d - s.pLow).toNat ≤ 247 →
        exec .levelSet s = .next ((s.endDecode r).replied r a .expired)) ∧
      (248 ≤ (d - s.pLow).toNat → s.cfg.reportMask = 0 →
        (∀ ax, Alarm.lateRun.within (s.axisCfg ax).holdMask = false) →
        ∃ t, exec .levelSet s = .next t ∧ t.alarmSet .lateRun = true ∧ t.time = s.time ∧ t.motion = s.motion ∧
          t.light.channels[i].level = min (hi.toNat * 256 + lo.toNat) 4095 ∧
          t.line.queue = s.line.queue ++ [{
            cls := 4, kind := 1, dest := a, onLine := false,
            payload := some [0x62, 0x02, t.safety.count, s.pLow] }])) ∧
  (∀ (s : State) (a : Nat) (r : Request) (k : Fin 8), r = fromPeer a 3 1 [byteOf k.val, 0, 0] → s.flies r →
    s.awake = true → s.room 1 = true → s.lightingHeld = false →
    ∃ t, exec .sceneRecall s = .next t ∧ t.line = (s.replied r a .ok).line ∧ s.sameBesideLights t ∧
      ∀ j : Fin 24, t.light.channels[j] =
        match s.light.scenes[k].levels[j] with
        | some level => { s.light.channels[j] with level := level, fade := none, lastScene := some k }
        | none => s.light.channels[j]) ∧
  ∀ (s : State) (k : Fin 8) (g : Nat) (r : Request), r = keyRequest (.groupRecall k.val g) → s.flies r →
    s.awake = true → s.room 1 = true → s.lightingHeld = false → g < 32 → s.light.scenes[k].fadeTime = 0 →
    ∃ t, exec .groupRecallRequest s = .next t ∧ s.sameBesideLights t ∧
      t.line = (s.withFrame { cls := 3, kind := 1, dest := 64 + g, payload := some [byteOf k.val],
                              onLine := false }).line ∧
      ∀ j : Fin 24, t.light.channels[j] =
        match s.light.scenes[k].levels[j] with
        | some level => if s.light.channels[j].groups.getLsbD g then
            { s.light.channels[j] with level := level, fade := none, lastScene := some k }
          else s.light.channels[j]
        | none => s.light.channels[j]

/-- LEVEL WINDOW opens the window for its source, or refuses the alert scene with LOCKED and leaves none open (R75, R77). LEVEL
DATA from the owner writes one value at the pointer, which advances and returns from c1 to c0; without a window it is BAD_PARAM
and from another peer NOT_OWNER (R76, R84). -/
def Obligations.TheWindowWritesScenes : Prop :=
  ∀ (s : State) (a : Nat) (r : Request), s.flies r → s.awake = true → s.room 1 = true →
    (∀ (k : Fin 8) (c0 c1 : Byte), c0.toNat ≤ c1.toNat → c0.toNat ≤ 23 →
      r = fromPeer a 6 1 [byteOf k.val, c0, c1] →
      (s.cfg.alertScene = some k → exec .levelWindow s =
        .next ((s.setCmd { s.cmd with decoder := none, window := none }).replied r a .locked)) ∧
      (s.cfg.alertScene ≠ some k → exec .levelWindow s =
        .next ((s.setCmd { s.cmd with decoder := none, window := some {
          owner := a, scene := k, first := c0.toNat, last := c1.toNat,
          pointer := c0.toNat } }).replied r a .ok))) ∧
    ∀ hi lo : Byte, r = fromPeer a 6 2 [hi, lo] →
      (s.cmd.window = none → exec .levelData s =
        .next ((s.endDecode r).replied r a .badParam)) ∧
      (∀ w, s.cmd.window = some w → w.owner ≠ a → exec .levelData s =
        .next ((s.endDecode r).replied r a .notOwner)) ∧
      (∀ w i, s.cmd.window = some w → w.owner = a → w.pointer = Fin.val (n := 24) i →
        ∃ t, exec .levelData s = .next t ∧ t.line = (s.replied r a .ok).line ∧ s.sameBesideLights t ∧
          t.cmd = { s.cmd with decoder := none, window := some { w with
            pointer := if w.pointer = w.last then w.first else w.pointer + 1 } } ∧
          t.light.channels = s.light.channels ∧
          t.light.scenes = s.light.scenes.set w.scene { s.light.scenes[w.scene] with
            levels := s.light.scenes[w.scene].levels.set i
              (if hi.toNat * 256 + lo.toNat = 65535 then none else some (min (hi.toNat * 256 + lo.toNat) 4095)) })

/-- ALARM CLEAR refuses a differing expected count with STALE (R72, R178); a set that names only clear alarms changes nothing
(R178). For every set of alarms: an alarm that it names ends clear unless its condition lasts, when it ends set again; every
other one stands; and the count steps once for each clearing and once for each setting (R175, R177, R178). A newly set alarm of
the report mask sends its ALARM NOTICE with the count after its step (R176). MAP CLEAR clears all 16 bins and nothing else
(R37). The clause for every set is stated where nothing of the instant holds an axis again (R181, log entry 48). -/
def Obligations.AlarmsAndMapAreCleared : Prop :=
  ∀ (s : State) (a : Nat) (r : Request), s.flies r → s.awake = true → s.room 1 = true →
    (∀ x y z count : Byte, x.toNat < 128 → count ≠ s.safety.count → r = fromPeer a 3 11 [x, y, z, count] →
      exec .alarmClear s = .next ((s.endDecode r).replied r a .stale)) ∧
    (∀ x y z : Byte, x.toNat < 128 → r = fromPeer a 3 11 [x, y, z] →
      s.safety.alarms &&& BitVec.ofNat 23 (x.toNat * 65536 + y.toNat * 256 + z.toNat) = 0 →
      exec .alarmClear s = .next ((s.endDecode r).replied r a .ok)) ∧
    (∀ (x y z : Byte) (named : BitVec 23), x.toNat < 128 → r = fromPeer a 3 11 [x, y, z] →
      named = BitVec.ofNat 23 (x.toNat * 65536 + y.toNat * 256 + z.toNat) → s.room 2 = true →
      s.cfg.reportMask = 0 → ((s.endDecode r).clearAndSetAgain named).heldAgain = false →
      ∃ t, exec .alarmClear s = .next t ∧
        (∀ al, t.alarmSet al = (s.alarmSet al && (!al.within named || s.lasts al))) ∧
        t.safety.count = s.safety.count + BitVec.ofNat 8 (
          (Alarm.all.filter fun al => al.within named && s.alarmSet al).length +
          (Alarm.all.filter fun al => al.within named && s.alarmSet al && s.lasts al).length) ∧
        ((∀ ax, (s.axisCfg ax).holdMask &&& named = 0) → t.motion = s.motion) ∧
        ∃ f ∈ t.line.queue, f.cls = 4 ∧ f.kind = 1 ∧ f.dest = a ∧ f.onLine = false ∧
          f.payload = some [0x6B, 0, t.safety.count, s.pLow]) ∧
    (r = fromPeer a 3 11 [0, 0x80, 0] → s.alarmSet (.interlock .A) = true →
      (∀ ax, (Alarm.interlock .A).within (s.axisCfg ax).holdMask = false) →
      ∃ t, exec .alarmClear s = .next t ∧ t.safety.alarms = s.safety.alarms &&& ~~~(Alarm.interlock .A).mask ∧
        t.safety.count = s.safety.count + 1 ∧ t.motion = s.motion) ∧
    (r = fromPeer a 3 11 [0, 0, 1] → s.alarmSet .allstopSeen = true → s.line.allstop = true →
      (s.cfg.reportMask = 0 →
        ∃ t, exec .alarmClear s = .next t ∧ t.safety.alarms = s.safety.alarms ∧
          t.safety.count = s.safety.count + 2 ∧ t.motion = s.motion) ∧
      (Alarm.allstopSeen.within s.cfg.reportMask = true → s.room 2 = true →
        ∃ t, exec .alarmClear s = .next t ∧ t.safety.alarms = s.safety.alarms ∧
          t.safety.count = s.safety.count + 2 ∧ t.motion = s.motion ∧ t.line.queue = s.line.queue ++ [
            { cls := 0, kind := 1, dest := 127, onLine := false, payload := some [0, s.safety.count + 2] },
            { cls := 4, kind := 1, dest := a, onLine := false,
              payload := some [0x6B, 0, s.safety.count + 2, s.pLow] }])) ∧
    (r = fromPeer a 3 12 [] → exec .mapClear s =
      .next (((s.endDecode r).setTime { s.time with arrivals := 0 }).replied r a .ok))

/-- RESTART: the schedule list, the intake queue, the pending key requests and the window are emptied, every fade ends at its
goal and every slot is free, the run stops, no axis is motor-powered, and P, the reference and the configuration are kept (R78,
R44, R104, R115, R164). Of the send queue the frame on the line alone stays, an ANNOUNCE and the OUTCOME OK follow it (R24, R60,
R73), and every alarm is cleared and set again where its condition lasts (R183, R177). Stated where nothing of the instant holds
an axis again (R181, log entry 48). -/
def Obligations.RestartKeepsAndEmpties : Prop :=
  ∀ (s : State) (a : Nat), s.inReset = false → s.flies (fromPeer a 3 13 []) →
    ((s.endDecode (fromPeer a 3 13 [])).softRestart).heldAgain = false →
    ∃ t, exec .restart s = .next t ∧ t.time = { s.time with schedule := [] } ∧ t.cmd.intake = [] ∧
      t.cmd.decoder = none ∧ t.cmd.window = none ∧
      (∀ k : Fin 8, t.cmd.keys[k] = { s.cmd.keys[k] with pending := none }) ∧
      (∀ i : Fin 24, t.light.channels[i] =
        match s.light.channels[i].fade with
        | some f => { s.light.channels[i] with level := f.goal, fade := none }
        | none => s.light.channels[i]) ∧
      (∀ k : Fin 16, t.pool[k] = none) ∧ t.light.stepping = false ∧ t.light.offset = 0 ∧
      t.light.scenes = s.light.scenes ∧ t.light.night = s.light.night ∧
      (∀ ax, (t.axis ax).state.motorPowered = false ∧ (t.axis ax).position = (s.axis ax).position ∧
        ((s.axis ax).state.motorPowered = true → (t.axis ax).reason = .restart ∧ (t.axis ax).duty = 0)) ∧
      t.cfg = s.cfg ∧ t.loader = s.loader ∧ t.line.budget = s.line.budget ∧ t.line.allstop = s.line.allstop ∧
      t.peer.table = s.peer.table ∧ t.safety.holdOff = s.safety.holdOff ∧
      (s.awake = true → s.sends = true → s.cfg.reportMask = 0 →
        (s.line.queue.filter SendFrame.onLine).length ≤ 1 →
        (∀ f ∈ s.line.queue, f.onLine = true → f.cls ≠ 5) →
        t.line.own = s.line.own ∧ t.line.queue = s.line.queue.filter SendFrame.onLine ++ [
          { cls := 5, kind := 1, dest := 127, payload := none, onLine := false },
          { cls := 4, kind := 1, dest := a, onLine := false,
            payload := some [0x6D, 0, t.safety.count, s.pLow] }] ∧
        (∀ al, t.alarmSet al = (s.alarmSet al && s.lasts al)) ∧
        t.safety.count = s.safety.count + BitVec.ofNat 8 (
          (Alarm.all.filter s.alarmSet).length +
          (Alarm.all.filter fun al => s.alarmSet al && s.lasts al).length))

/-- Each READ answers with a DATA frame of the part it names, laid out as Appendix A gives it, and changes nothing it reads (R74,
R38, R58, R101, R102, R130, R162, R180, R193, R196). Without a run region LIGHT part 4 is four zeros, of which the spec states V
alone (log entry 36). -/
def Obligations.ReadsAnswerWithTheirParts : Prop :=
  ∀ (s : State) (a : Nat) (r : Request) (part : Nat) (x : Byte) (content : List Byte), s.flies r → s.awake = true →
    s.room 1 = true → r = fromPeer a 3 14 [byteOf part, x] →
    (∀ ax : Axis, (s.axisCfg ax).kind ≠ .none → x = (if ax = .A then 0 else 1) →
      part = 0x00 ∧ content = [(s.axis ax).token,
          byteOf ((s.axis ax).state.code + 8 * bit (s.axis ax).referenced +
            16 * directionCode (s.axis ax).direction + 64 * modeCode (s.axis ax).mode)] ++
          word16 (s.axis ax).position ++ word16 (s.axis ax).duty ∨
        part = 0x01 ∧ content = [(s.axis ax).token,
          byteOf ((s.axis ax).reason.code + 16 * bit (s.switchRead ax .minus) + 32 * bit (s.switchRead ax .plus) +
            64 * targetCode (s.axis ax).target)] ++
          word16 (targetPosition (s.axis ax).target) ++ word16 (s.axis ax).peak ∨
        part = 0x02 ∧ content = [(s.axis ax).token, byteOf (holderCode (s.axis ax).lease),
          byteOf (leaseRemaining (s.axis ax).lease), byteOf (s.axis ax).stallCount] ++
          word16 (s.axis ax).backOff →
      exec .readAxis s = .next ((s.endDecode r).withFrame (dataTo a (byteOf part :: x :: content)))) ∧
    (∀ c : Fin 4, s.cfg.sense[c].enabled = true → x = byteOf c.val →
      part = 0x10 ∧ content = [byteOf (s.sense[c].state.code + 4 * s.sense[c].settle + 16 * bit s.sense[c].flag +
            32 * axisCode (s.boundAxis c)), byteOf s.sense[c].obstruction] ++
          signed16 s.sense[c].sample ++ signed16 s.sense[c].force ∨
        part = 0x11 ∧ content = signed16 ((s.sense[c].baseline + 128) / 256) ++
          [byteOf s.cfg.sense[c].ratio, byteOf s.cfg.sense[c].rate] ++ word16 s.sense[c].runLength →
      exec .readSense s = .next ((s.endDecode r).withFrame (dataTo a (byteOf part :: x :: content)))) ∧
    (x = 0 →
      part = 0x20 ∧ content = word16 s.time.p.toNat ++ word16 s.time.arrivals.toNat ++
          signed16 (match s.time.lastDelta with
            | .none => -32768
            | .gross => -32767
            | .value d => d) ∨
        part = 0x21 ∧ content = [byteOf (s.time.lock.code + 4 * s.time.engine.code),
          byteOf (s.time.reference.getD 0)] ++ word16 s.time.p.toNat →
      exec .readTime s = .next ((s.endDecode r).withFrame (dataTo a (byteOf part :: x :: content)))) ∧
    (x = 0 →
      part = 0x30 ∧ content = s.safety.count :: word24 s.safety.alarms.toNat ++
          [byteOf s.alarmNumber, byteOf (bit s.line.allstop + 2 * bit s.line.silent + 4 * bit s.line.erratic +
            8 * bit s.line.estop)] ∨
        part = 0x31 ∧ content = s.safety.count :: byteOf s.safety.holdOff ::
          ([Axis.A, Axis.B].map fun ax => byteOf (bit (s.axisSafety ax).held + 2 * bit s.line.allstop +
            4 * bit s.line.estop + 8 * bit (0 < s.safety.holdOff) +
            16 * bit (Alarm.all.any fun al => al.within (s.axisCfg ax).holdMask && s.alarmSet al))) ++
          [byteOf (s.cfg.axisA.terms.length + 16 * s.cfg.axisB.terms.length)] ∨
        part = 0x32 ∧ content = s.safety.count ::
          ([s.safety.a, s.safety.b].map fun y =>
            byteOf (natOfBits y.terms.reverse + 16 * bit y.plus + 32 * bit y.minus)) ++
          word24 s.cfg.reportMask.toNat ∨
        part = 0x33 ∧ content = s.safety.count :: word24 s.cfg.axisA.holdMask.toNat ∨
        part = 0x34 ∧ content = s.safety.count :: word24 s.cfg.axisB.holdMask.toNat →
      exec .readAlarms s = .next ((s.endDecode r).withFrame (dataTo a (byteOf part :: x :: content)))) ∧
    (∀ i : Fin 24, x = byteOf i.val →
      part = 0x40 ∧ content = byteOf (bit s.light.channels[i].enabled + 2 * bit s.light.master +
            4 * bit s.light.override + 8 * bit s.light.night.on + 16 * bit (s.light.night.inside i.val) +
            32 * bit s.light.stepping + 64 * s.peer.shed) ::
          word16 s.light.channels[i].level ++ word16 s.light.outputs[i] ++
          [match s.light.channels[i].lastScene with
            | some scene => byteOf scene.val
            | none => 0xFF] ∨
        part = 0x41 ∧ content = word16 (s.light.logical i) ++
          (match s.light.channels[i].fade with
            | some f => word16 f.start ++ word16 f.goal
            | none => [0, 0, 0, 0]) ∨
        part = 0x42 ∧ content = (match s.light.channels[i].fade with
            | some f => byteOf f.slot.val :: word16 (match s.pool[f.slot] with
              | some slot => slot.length - slot.elapsed
              | none => 0)
            | none => [0xFF, 0, 0]) ++ word16 s.light.night.cap ++ [byteOf s.light.night.first] ∨
        part = 0x43 ∧ content = byteOf s.light.night.last :: word32 s.light.channels[i].groups.toNat ++
          [byteOf s.light.offset] ∨
        part = 0x44 ∧ content = (match s.light.region with
            | some g => [byteOf g.head, byteOf g.span, byteOf g.tail, byteOf g.steps]
            | none => [0, 0, 0, 0]) →
      exec .readLight s = .next ((s.endDecode r).withFrame (dataTo a (byteOf part :: x :: content)))) ∧
    (part = 0x50 ∨ part = 0x51 →
      (x.toNat = 0 ∨ 62 < x.toNat → exec .readPeer s = .next ((s.endDecode r).replied r a .badParam)) ∧
      (1 ≤ x.toNat → x.toNat ≤ 62 → (∀ e ∈ s.peer.table, e.address ≠ x.toNat) →
        exec .readPeer s = .next ((s.endDecode r).replied r a .absent)) ∧
      ∀ e, s.peer.table.find? (fun e => e.address == x.toNat) = some e → 1 ≤ x.toNat → x.toNat ≤ 62 →
        part = 0x50 ∧ content = byteOf (bit e.content.isSome + 2 * bit e.fresh + 4 * bit e.pinned) ::
            word16 e.age ++ (match e.content with
              | some c => [byteOf c.interval, byteOf c.role.toNat, byteOf (c.group.toNat + 16 * c.demand.toNat)]
              | none => [0xFF, 0xFF, 0xFF]) ∨
          part = 0x51 ∧ content = (match e.content with
              | some c => [c.flags, c.stateA, c.stateB, c.alarmCount, byteOf (c.lock.toNat + 4 * c.engine.toNat)]
              | none => [0xFF, 0xFF, 0xFF, 0xFF, 0xFF]) →
        exec .readPeer s = .next ((s.endDecode r).withFrame (dataTo a (byteOf part :: x :: content)))) ∧
    ∀ (k : Fin 8) (i : Fin 24), x = byteOf (32 * k.val + i.val) → part = 0x60 →
      exec .readScene s = .next ((s.endDecode r).withFrame (dataTo a (byteOf part :: x ::
        word16 s.light.scenes[k].fadeTime ++ word16 ((s.light.scenes[k].levels[i]).getD 65535) ++
          [byteOf (bit (s.cfg.alertScene == some k) + 2 * bit (s.cfg.powerOnScene == some k))])))

/-- REPLY_DISCARD: a class-4 entry has no reply and no effect. UNKNOWN_KIND: any kind that its class does not take is refused
UNKNOWN_KIND, with no effect (R68, R73). -/
def Obligations.RepliesAndUnknownKindsDoNothing : Prop :=
  ∀ (s : State) (a kind : Nat) (p : List Byte) (r : Request), s.flies r → s.awake = true →
    (r = fromPeer a 4 kind p → exec .replyDiscard s = .next (s.endDecode r)) ∧
    (r = fromPeer a 1 kind p → s.room 1 = true → kind = 0 ∨ 6 < kind →
      exec .unknownKind s = .next ((s.endDecode r).replied r a .unknownKind)) ∧
    (r = fromPeer a 3 kind p → s.room 1 = true → kind = 0 ∨ 14 < kind →
      exec .unknownKind s = .next ((s.endDecode r).replied r a .unknownKind)) ∧
    (r = fromPeer a 6 kind p → s.room 1 = true → kind = 0 ∨ 2 < kind →
      exec .unknownKind s = .next ((s.endDecode r).replied r a .unknownKind))

/-! ## Rules of value -/

/-- The output value of every channel of a quiet station (R95), from its logical level (R94). -/
def Obligations.OutputsFollowTheLevels : Prop :=
  ∀ (s : State) (i : Fin 24), s.quiet = true →
    (∀ r, s.light.region = some r → r.head ≤ i.val → i.val < r.head + r.span → ∀ j : Fin 24,
      j.val = r.head + (i.val - r.head + s.light.offset) % r.span → s.light.logical i = s.light.channels[j].level) ∧
    (∀ r, s.light.region = some r → ¬(r.head ≤ i.val ∧ i.val < r.head + r.span) →
      s.light.logical i = s.light.channels[i].level) ∧
    (s.light.region = none → s.light.logical i = s.light.channels[i].level) ∧
    (s.light.offset = 0 → s.light.logical i = s.light.channels[i].level) ∧
    ([shedCap 0, shedCap 1, shedCap 2, shedCap 3] = [4095, 3072, 2048, 1024]) ∧
    (s.light.channels[i].enabled = false ∨ s.light.master = false → s.light.outputs[i] = 0) ∧
    (s.light.channels[i].enabled = true → s.light.master = true →
      (s.light.override = true → s.light.outputs[i] = s.light.logical i) ∧
      (s.light.override = false → s.light.night.on = true → s.light.night.inside i.val = false →
        s.light.outputs[i] = min (s.light.logical i) (min (shedCap s.peer.shed) s.light.night.cap)) ∧
      (s.light.override = false → s.light.night.on = false ∨ s.light.night.inside i.val = true →
        s.light.outputs[i] = min (s.light.logical i) (shedCap s.peer.shed))) ∧
    s.light.outputs[i] ≤ s.light.logical i

/-- The offset Δ of a beacon (R33). -/
def Obligations.BeaconOffsetFollowsTheTable : Prop :=
  ∀ (p pb : BitVec 16) (phi phib age : Nat), phi ≤ 999 → phib ≤ 999 →
    (pb = p → beaconDelta { p := p, phi := phi, age := age } pb phib = some ((phib : Int) - phi)) ∧
    (pb = p + 1 → beaconDelta { p := p, phi := phi, age := age } pb phib = some ((phib : Int) - phi + 1000)) ∧
    (pb = p - 1 → beaconDelta { p := p, phi := phi, age := age } pb phib = some ((phib : Int) - phi - 1000)) ∧
    (pb ≠ p → pb ≠ p + 1 → pb ≠ p - 1 → beaconDelta { p := p, phi := phi, age := age } pb phib = none) ∧
    ∀ d, beaconDelta { p := p, phi := phi, age := age } pb phib = some d → -1999 ≤ d ∧ d ≤ 1999

/-- The scaling of a decimated output to a sample (R120). -/
def Obligations.SamplesAreScaledByTheRatio : Prop :=
  ∀ y : Int,
    scale 16 y = max (-32768) (min 32767 (y * 8)) ∧
    scale 32 y = max (-32768) (min 32767 y) ∧
    scale 64 y = max (-32768) (min 32767 ((y + 4) / 8)) ∧
    scale 128 y = max (-32768) (min 32767 ((y + 32) / 64))
end

