-- ==== Sys2Proof/Laws/State.lean ====
section
/-! SUPPORT. One lemma for each field and each update of the state, so that no proof unfolds a record update. -/

namespace Sys2Proof.Machine

@[simp] theorem State.setLoader_pending (s : State) (x : Loader) : (s.setLoader x).pending = s.pending := rfl
@[simp] theorem State.setLoader_inReset (s : State) (x : Loader) : (s.setLoader x).inReset = s.inReset := rfl
@[simp] theorem State.setLoader_pins (s : State) (x : Loader) : (s.setLoader x).pins = s.pins := rfl
@[simp] theorem State.setLoader_loader (s : State) (x : Loader) : (s.setLoader x).loader = x := rfl
@[simp] theorem State.setLoader_cfg (s : State) (x : Loader) : (s.setLoader x).cfg = s.cfg := rfl
@[simp] theorem State.setLoader_line (s : State) (x : Loader) : (s.setLoader x).line = s.line := rfl
@[simp] theorem State.setLoader_time (s : State) (x : Loader) : (s.setLoader x).time = s.time := rfl
@[simp] theorem State.setLoader_peer (s : State) (x : Loader) : (s.setLoader x).peer = s.peer := rfl
@[simp] theorem State.setLoader_cmd (s : State) (x : Loader) : (s.setLoader x).cmd = s.cmd := rfl
@[simp] theorem State.setLoader_light (s : State) (x : Loader) : (s.setLoader x).light = s.light := rfl
@[simp] theorem State.setLoader_pool (s : State) (x : Loader) : (s.setLoader x).pool = s.pool := rfl
@[simp] theorem State.setLoader_sense (s : State) (x : Loader) : (s.setLoader x).sense = s.sense := rfl
@[simp] theorem State.setLoader_motion (s : State) (x : Loader) : (s.setLoader x).motion = s.motion := rfl
@[simp] theorem State.setLoader_safety (s : State) (x : Loader) : (s.setLoader x).safety = s.safety := rfl
@[simp] theorem State.setLoader_owed (s : State) (x : Loader) : (s.setLoader x).owed = s.owed := rfl

@[simp] theorem State.setCfg_pending (s : State) (x : Configuration) : (s.setCfg x).pending = s.pending := rfl
@[simp] theorem State.setCfg_inReset (s : State) (x : Configuration) : (s.setCfg x).inReset = s.inReset := rfl
@[simp] theorem State.setCfg_pins (s : State) (x : Configuration) : (s.setCfg x).pins = s.pins := rfl
@[simp] theorem State.setCfg_loader (s : State) (x : Configuration) : (s.setCfg x).loader = s.loader := rfl
@[simp] theorem State.setCfg_cfg (s : State) (x : Configuration) : (s.setCfg x).cfg = x := rfl
@[simp] theorem State.setCfg_line (s : State) (x : Configuration) : (s.setCfg x).line = s.line := rfl
@[simp] theorem State.setCfg_time (s : State) (x : Configuration) : (s.setCfg x).time = s.time := rfl
@[simp] theorem State.setCfg_peer (s : State) (x : Configuration) : (s.setCfg x).peer = s.peer := rfl
@[simp] theorem State.setCfg_cmd (s : State) (x : Configuration) : (s.setCfg x).cmd = s.cmd := rfl
@[simp] theorem State.setCfg_light (s : State) (x : Configuration) : (s.setCfg x).light = s.light := rfl
@[simp] theorem State.setCfg_pool (s : State) (x : Configuration) : (s.setCfg x).pool = s.pool := rfl
@[simp] theorem State.setCfg_sense (s : State) (x : Configuration) : (s.setCfg x).sense = s.sense := rfl
@[simp] theorem State.setCfg_motion (s : State) (x : Configuration) : (s.setCfg x).motion = s.motion := rfl
@[simp] theorem State.setCfg_safety (s : State) (x : Configuration) : (s.setCfg x).safety = s.safety := rfl
@[simp] theorem State.setCfg_owed (s : State) (x : Configuration) : (s.setCfg x).owed = s.owed := rfl

@[simp] theorem State.setPins_pending (s : State) (x : Pins) : (s.setPins x).pending = s.pending := rfl
@[simp] theorem State.setPins_inReset (s : State) (x : Pins) : (s.setPins x).inReset = s.inReset := rfl
@[simp] theorem State.setPins_pins (s : State) (x : Pins) : (s.setPins x).pins = x := rfl
@[simp] theorem State.setPins_loader (s : State) (x : Pins) : (s.setPins x).loader = s.loader := rfl
@[simp] theorem State.setPins_cfg (s : State) (x : Pins) : (s.setPins x).cfg = s.cfg := rfl
@[simp] theorem State.setPins_line (s : State) (x : Pins) : (s.setPins x).line = s.line := rfl
@[simp] theorem State.setPins_time (s : State) (x : Pins) : (s.setPins x).time = s.time := rfl
@[simp] theorem State.setPins_peer (s : State) (x : Pins) : (s.setPins x).peer = s.peer := rfl
@[simp] theorem State.setPins_cmd (s : State) (x : Pins) : (s.setPins x).cmd = s.cmd := rfl
@[simp] theorem State.setPins_light (s : State) (x : Pins) : (s.setPins x).light = s.light := rfl
@[simp] theorem State.setPins_pool (s : State) (x : Pins) : (s.setPins x).pool = s.pool := rfl
@[simp] theorem State.setPins_sense (s : State) (x : Pins) : (s.setPins x).sense = s.sense := rfl
@[simp] theorem State.setPins_motion (s : State) (x : Pins) : (s.setPins x).motion = s.motion := rfl
@[simp] theorem State.setPins_safety (s : State) (x : Pins) : (s.setPins x).safety = s.safety := rfl
@[simp] theorem State.setPins_owed (s : State) (x : Pins) : (s.setPins x).owed = s.owed := rfl

@[simp] theorem State.setLine_pending (s : State) (x : LineUnit) : (s.setLine x).pending = s.pending := rfl
@[simp] theorem State.setLine_inReset (s : State) (x : LineUnit) : (s.setLine x).inReset = s.inReset := rfl
@[simp] theorem State.setLine_pins (s : State) (x : LineUnit) : (s.setLine x).pins = s.pins := rfl
@[simp] theorem State.setLine_loader (s : State) (x : LineUnit) : (s.setLine x).loader = s.loader := rfl
@[simp] theorem State.setLine_cfg (s : State) (x : LineUnit) : (s.setLine x).cfg = s.cfg := rfl
@[simp] theorem State.setLine_line (s : State) (x : LineUnit) : (s.setLine x).line = x := rfl
@[simp] theorem State.setLine_time (s : State) (x : LineUnit) : (s.setLine x).time = s.time := rfl
@[simp] theorem State.setLine_peer (s : State) (x : LineUnit) : (s.setLine x).peer = s.peer := rfl
@[simp] theorem State.setLine_cmd (s : State) (x : LineUnit) : (s.setLine x).cmd = s.cmd := rfl
@[simp] theorem State.setLine_light (s : State) (x : LineUnit) : (s.setLine x).light = s.light := rfl
@[simp] theorem State.setLine_pool (s : State) (x : LineUnit) : (s.setLine x).pool = s.pool := rfl
@[simp] theorem State.setLine_sense (s : State) (x : LineUnit) : (s.setLine x).sense = s.sense := rfl
@[simp] theorem State.setLine_motion (s : State) (x : LineUnit) : (s.setLine x).motion = s.motion := rfl
@[simp] theorem State.setLine_safety (s : State) (x : LineUnit) : (s.setLine x).safety = s.safety := rfl
@[simp] theorem State.setLine_owed (s : State) (x : LineUnit) : (s.setLine x).owed = s.owed := rfl

@[simp] theorem State.setTime_pending (s : State) (x : TimeBase) : (s.setTime x).pending = s.pending := rfl
@[simp] theorem State.setTime_inReset (s : State) (x : TimeBase) : (s.setTime x).inReset = s.inReset := rfl
@[simp] theorem State.setTime_pins (s : State) (x : TimeBase) : (s.setTime x).pins = s.pins := rfl
@[simp] theorem State.setTime_loader (s : State) (x : TimeBase) : (s.setTime x).loader = s.loader := rfl
@[simp] theorem State.setTime_cfg (s : State) (x : TimeBase) : (s.setTime x).cfg = s.cfg := rfl
@[simp] theorem State.setTime_line (s : State) (x : TimeBase) : (s.setTime x).line = s.line := rfl
@[simp] theorem State.setTime_time (s : State) (x : TimeBase) : (s.setTime x).time = x := rfl
@[simp] theorem State.setTime_peer (s : State) (x : TimeBase) : (s.setTime x).peer = s.peer := rfl
@[simp] theorem State.setTime_cmd (s : State) (x : TimeBase) : (s.setTime x).cmd = s.cmd := rfl
@[simp] theorem State.setTime_light (s : State) (x : TimeBase) : (s.setTime x).light = s.light := rfl
@[simp] theorem State.setTime_pool (s : State) (x : TimeBase) : (s.setTime x).pool = s.pool := rfl
@[simp] theorem State.setTime_sense (s : State) (x : TimeBase) : (s.setTime x).sense = s.sense := rfl
@[simp] theorem State.setTime_motion (s : State) (x : TimeBase) : (s.setTime x).motion = s.motion := rfl
@[simp] theorem State.setTime_safety (s : State) (x : TimeBase) : (s.setTime x).safety = s.safety := rfl
@[simp] theorem State.setTime_owed (s : State) (x : TimeBase) : (s.setTime x).owed = s.owed := rfl

@[simp] theorem State.setPeer_pending (s : State) (x : PeerUnit) : (s.setPeer x).pending = s.pending := rfl
@[simp] theorem State.setPeer_inReset (s : State) (x : PeerUnit) : (s.setPeer x).inReset = s.inReset := rfl
@[simp] theorem State.setPeer_pins (s : State) (x : PeerUnit) : (s.setPeer x).pins = s.pins := rfl
@[simp] theorem State.setPeer_loader (s : State) (x : PeerUnit) : (s.setPeer x).loader = s.loader := rfl
@[simp] theorem State.setPeer_cfg (s : State) (x : PeerUnit) : (s.setPeer x).cfg = s.cfg := rfl
@[simp] theorem State.setPeer_line (s : State) (x : PeerUnit) : (s.setPeer x).line = s.line := rfl
@[simp] theorem State.setPeer_time (s : State) (x : PeerUnit) : (s.setPeer x).time = s.time := rfl
@[simp] theorem State.setPeer_peer (s : State) (x : PeerUnit) : (s.setPeer x).peer = x := rfl
@[simp] theorem State.setPeer_cmd (s : State) (x : PeerUnit) : (s.setPeer x).cmd = s.cmd := rfl
@[simp] theorem State.setPeer_light (s : State) (x : PeerUnit) : (s.setPeer x).light = s.light := rfl
@[simp] theorem State.setPeer_pool (s : State) (x : PeerUnit) : (s.setPeer x).pool = s.pool := rfl
@[simp] theorem State.setPeer_sense (s : State) (x : PeerUnit) : (s.setPeer x).sense = s.sense := rfl
@[simp] theorem State.setPeer_motion (s : State) (x : PeerUnit) : (s.setPeer x).motion = s.motion := rfl
@[simp] theorem State.setPeer_safety (s : State) (x : PeerUnit) : (s.setPeer x).safety = s.safety := rfl
@[simp] theorem State.setPeer_owed (s : State) (x : PeerUnit) : (s.setPeer x).owed = s.owed := rfl

@[simp] theorem State.setCmd_pending (s : State) (x : CommandUnit) : (s.setCmd x).pending = s.pending := rfl
@[simp] theorem State.setCmd_inReset (s : State) (x : CommandUnit) : (s.setCmd x).inReset = s.inReset := rfl
@[simp] theorem State.setCmd_pins (s : State) (x : CommandUnit) : (s.setCmd x).pins = s.pins := rfl
@[simp] theorem State.setCmd_loader (s : State) (x : CommandUnit) : (s.setCmd x).loader = s.loader := rfl
@[simp] theorem State.setCmd_cfg (s : State) (x : CommandUnit) : (s.setCmd x).cfg = s.cfg := rfl
@[simp] theorem State.setCmd_line (s : State) (x : CommandUnit) : (s.setCmd x).line = s.line := rfl
@[simp] theorem State.setCmd_time (s : State) (x : CommandUnit) : (s.setCmd x).time = s.time := rfl
@[simp] theorem State.setCmd_peer (s : State) (x : CommandUnit) : (s.setCmd x).peer = s.peer := rfl
@[simp] theorem State.setCmd_cmd (s : State) (x : CommandUnit) : (s.setCmd x).cmd = x := rfl
@[simp] theorem State.setCmd_light (s : State) (x : CommandUnit) : (s.setCmd x).light = s.light := rfl
@[simp] theorem State.setCmd_pool (s : State) (x : CommandUnit) : (s.setCmd x).pool = s.pool := rfl
@[simp] theorem State.setCmd_sense (s : State) (x : CommandUnit) : (s.setCmd x).sense = s.sense := rfl
@[simp] theorem State.setCmd_motion (s : State) (x : CommandUnit) : (s.setCmd x).motion = s.motion := rfl
@[simp] theorem State.setCmd_safety (s : State) (x : CommandUnit) : (s.setCmd x).safety = s.safety := rfl
@[simp] theorem State.setCmd_owed (s : State) (x : CommandUnit) : (s.setCmd x).owed = s.owed := rfl

@[simp] theorem State.setLight_pending (s : State) (x : LightUnit) : (s.setLight x).pending = s.pending := rfl
@[simp] theorem State.setLight_inReset (s : State) (x : LightUnit) : (s.setLight x).inReset = s.inReset := rfl
@[simp] theorem State.setLight_pins (s : State) (x : LightUnit) : (s.setLight x).pins = s.pins := rfl
@[simp] theorem State.setLight_loader (s : State) (x : LightUnit) : (s.setLight x).loader = s.loader := rfl
@[simp] theorem State.setLight_cfg (s : State) (x : LightUnit) : (s.setLight x).cfg = s.cfg := rfl
@[simp] theorem State.setLight_line (s : State) (x : LightUnit) : (s.setLight x).line = s.line := rfl
@[simp] theorem State.setLight_time (s : State) (x : LightUnit) : (s.setLight x).time = s.time := rfl
@[simp] theorem State.setLight_peer (s : State) (x : LightUnit) : (s.setLight x).peer = s.peer := rfl
@[simp] theorem State.setLight_cmd (s : State) (x : LightUnit) : (s.setLight x).cmd = s.cmd := rfl
@[simp] theorem State.setLight_light (s : State) (x : LightUnit) : (s.setLight x).light = x := rfl
@[simp] theorem State.setLight_pool (s : State) (x : LightUnit) : (s.setLight x).pool = s.pool := rfl
@[simp] theorem State.setLight_sense (s : State) (x : LightUnit) : (s.setLight x).sense = s.sense := rfl
@[simp] theorem State.setLight_motion (s : State) (x : LightUnit) : (s.setLight x).motion = s.motion := rfl
@[simp] theorem State.setLight_safety (s : State) (x : LightUnit) : (s.setLight x).safety = s.safety := rfl
@[simp] theorem State.setLight_owed (s : State) (x : LightUnit) : (s.setLight x).owed = s.owed := rfl

@[simp] theorem State.setPool_pending (s : State) (x : Vector (Option Slot) 16) : (s.setPool x).pending = s.pending := rfl
@[simp] theorem State.setPool_inReset (s : State) (x : Vector (Option Slot) 16) : (s.setPool x).inReset = s.inReset := rfl
@[simp] theorem State.setPool_pins (s : State) (x : Vector (Option Slot) 16) : (s.setPool x).pins = s.pins := rfl
@[simp] theorem State.setPool_loader (s : State) (x : Vector (Option Slot) 16) : (s.setPool x).loader = s.loader := rfl
@[simp] theorem State.setPool_cfg (s : State) (x : Vector (Option Slot) 16) : (s.setPool x).cfg = s.cfg := rfl
@[simp] theorem State.setPool_line (s : State) (x : Vector (Option Slot) 16) : (s.setPool x).line = s.line := rfl
@[simp] theorem State.setPool_time (s : State) (x : Vector (Option Slot) 16) : (s.setPool x).time = s.time := rfl
@[simp] theorem State.setPool_peer (s : State) (x : Vector (Option Slot) 16) : (s.setPool x).peer = s.peer := rfl
@[simp] theorem State.setPool_cmd (s : State) (x : Vector (Option Slot) 16) : (s.setPool x).cmd = s.cmd := rfl
@[simp] theorem State.setPool_light (s : State) (x : Vector (Option Slot) 16) : (s.setPool x).light = s.light := rfl
@[simp] theorem State.setPool_pool (s : State) (x : Vector (Option Slot) 16) : (s.setPool x).pool = x := rfl
@[simp] theorem State.setPool_sense (s : State) (x : Vector (Option Slot) 16) : (s.setPool x).sense = s.sense := rfl
@[simp] theorem State.setPool_motion (s : State) (x : Vector (Option Slot) 16) : (s.setPool x).motion = s.motion := rfl
@[simp] theorem State.setPool_safety (s : State) (x : Vector (Option Slot) 16) : (s.setPool x).safety = s.safety := rfl
@[simp] theorem State.setPool_owed (s : State) (x : Vector (Option Slot) 16) : (s.setPool x).owed = s.owed := rfl

@[simp] theorem State.setSense_pending (s : State) (x : Vector SenseChannel 4) : (s.setSense x).pending = s.pending := rfl
@[simp] theorem State.setSense_inReset (s : State) (x : Vector SenseChannel 4) : (s.setSense x).inReset = s.inReset := rfl
@[simp] theorem State.setSense_pins (s : State) (x : Vector SenseChannel 4) : (s.setSense x).pins = s.pins := rfl
@[simp] theorem State.setSense_loader (s : State) (x : Vector SenseChannel 4) : (s.setSense x).loader = s.loader := rfl
@[simp] theorem State.setSense_cfg (s : State) (x : Vector SenseChannel 4) : (s.setSense x).cfg = s.cfg := rfl
@[simp] theorem State.setSense_line (s : State) (x : Vector SenseChannel 4) : (s.setSense x).line = s.line := rfl
@[simp] theorem State.setSense_time (s : State) (x : Vector SenseChannel 4) : (s.setSense x).time = s.time := rfl
@[simp] theorem State.setSense_peer (s : State) (x : Vector SenseChannel 4) : (s.setSense x).peer = s.peer := rfl
@[simp] theorem State.setSense_cmd (s : State) (x : Vector SenseChannel 4) : (s.setSense x).cmd = s.cmd := rfl
@[simp] theorem State.setSense_light (s : State) (x : Vector SenseChannel 4) : (s.setSense x).light = s.light := rfl
@[simp] theorem State.setSense_pool (s : State) (x : Vector SenseChannel 4) : (s.setSense x).pool = s.pool := rfl
@[simp] theorem State.setSense_sense (s : State) (x : Vector SenseChannel 4) : (s.setSense x).sense = x := rfl
@[simp] theorem State.setSense_motion (s : State) (x : Vector SenseChannel 4) : (s.setSense x).motion = s.motion := rfl
@[simp] theorem State.setSense_safety (s : State) (x : Vector SenseChannel 4) : (s.setSense x).safety = s.safety := rfl
@[simp] theorem State.setSense_owed (s : State) (x : Vector SenseChannel 4) : (s.setSense x).owed = s.owed := rfl

@[simp] theorem State.setMotion_pending (s : State) (x : MotionUnit) : (s.setMotion x).pending = s.pending := rfl
@[simp] theorem State.setMotion_inReset (s : State) (x : MotionUnit) : (s.setMotion x).inReset = s.inReset := rfl
@[simp] theorem State.setMotion_pins (s : State) (x : MotionUnit) : (s.setMotion x).pins = s.pins := rfl
@[simp] theorem State.setMotion_loader (s : State) (x : MotionUnit) : (s.setMotion x).loader = s.loader := rfl
@[simp] theorem State.setMotion_cfg (s : State) (x : MotionUnit) : (s.setMotion x).cfg = s.cfg := rfl
@[simp] theorem State.setMotion_line (s : State) (x : MotionUnit) : (s.setMotion x).line = s.line := rfl
@[simp] theorem State.setMotion_time (s : State) (x : MotionUnit) : (s.setMotion x).time = s.time := rfl
@[simp] theorem State.setMotion_peer (s : State) (x : MotionUnit) : (s.setMotion x).peer = s.peer := rfl
@[simp] theorem State.setMotion_cmd (s : State) (x : MotionUnit) : (s.setMotion x).cmd = s.cmd := rfl
@[simp] theorem State.setMotion_light (s : State) (x : MotionUnit) : (s.setMotion x).light = s.light := rfl
@[simp] theorem State.setMotion_pool (s : State) (x : MotionUnit) : (s.setMotion x).pool = s.pool := rfl
@[simp] theorem State.setMotion_sense (s : State) (x : MotionUnit) : (s.setMotion x).sense = s.sense := rfl
@[simp] theorem State.setMotion_motion (s : State) (x : MotionUnit) : (s.setMotion x).motion = x := rfl
@[simp] theorem State.setMotion_safety (s : State) (x : MotionUnit) : (s.setMotion x).safety = s.safety := rfl
@[simp] theorem State.setMotion_owed (s : State) (x : MotionUnit) : (s.setMotion x).owed = s.owed := rfl

@[simp] theorem State.setSafety_pending (s : State) (x : SafetyUnit) : (s.setSafety x).pending = s.pending := rfl
@[simp] theorem State.setSafety_inReset (s : State) (x : SafetyUnit) : (s.setSafety x).inReset = s.inReset := rfl
@[simp] theorem State.setSafety_pins (s : State) (x : SafetyUnit) : (s.setSafety x).pins = s.pins := rfl
@[simp] theorem State.setSafety_loader (s : State) (x : SafetyUnit) : (s.setSafety x).loader = s.loader := rfl
@[simp] theorem State.setSafety_cfg (s : State) (x : SafetyUnit) : (s.setSafety x).cfg = s.cfg := rfl
@[simp] theorem State.setSafety_line (s : State) (x : SafetyUnit) : (s.setSafety x).line = s.line := rfl
@[simp] theorem State.setSafety_time (s : State) (x : SafetyUnit) : (s.setSafety x).time = s.time := rfl
@[simp] theorem State.setSafety_peer (s : State) (x : SafetyUnit) : (s.setSafety x).peer = s.peer := rfl
@[simp] theorem State.setSafety_cmd (s : State) (x : SafetyUnit) : (s.setSafety x).cmd = s.cmd := rfl
@[simp] theorem State.setSafety_light (s : State) (x : SafetyUnit) : (s.setSafety x).light = s.light := rfl
@[simp] theorem State.setSafety_pool (s : State) (x : SafetyUnit) : (s.setSafety x).pool = s.pool := rfl
@[simp] theorem State.setSafety_sense (s : State) (x : SafetyUnit) : (s.setSafety x).sense = s.sense := rfl
@[simp] theorem State.setSafety_motion (s : State) (x : SafetyUnit) : (s.setSafety x).motion = s.motion := rfl
@[simp] theorem State.setSafety_safety (s : State) (x : SafetyUnit) : (s.setSafety x).safety = x := rfl
@[simp] theorem State.setSafety_owed (s : State) (x : SafetyUnit) : (s.setSafety x).owed = s.owed := rfl

@[simp] theorem State.setOwed_pending (s : State) (x : List Owed) : (s.setOwed x).pending = s.pending := rfl
@[simp] theorem State.setOwed_inReset (s : State) (x : List Owed) : (s.setOwed x).inReset = s.inReset := rfl
@[simp] theorem State.setOwed_pins (s : State) (x : List Owed) : (s.setOwed x).pins = s.pins := rfl
@[simp] theorem State.setOwed_loader (s : State) (x : List Owed) : (s.setOwed x).loader = s.loader := rfl
@[simp] theorem State.setOwed_cfg (s : State) (x : List Owed) : (s.setOwed x).cfg = s.cfg := rfl
@[simp] theorem State.setOwed_line (s : State) (x : List Owed) : (s.setOwed x).line = s.line := rfl
@[simp] theorem State.setOwed_time (s : State) (x : List Owed) : (s.setOwed x).time = s.time := rfl
@[simp] theorem State.setOwed_peer (s : State) (x : List Owed) : (s.setOwed x).peer = s.peer := rfl
@[simp] theorem State.setOwed_cmd (s : State) (x : List Owed) : (s.setOwed x).cmd = s.cmd := rfl
@[simp] theorem State.setOwed_light (s : State) (x : List Owed) : (s.setOwed x).light = s.light := rfl
@[simp] theorem State.setOwed_pool (s : State) (x : List Owed) : (s.setOwed x).pool = s.pool := rfl
@[simp] theorem State.setOwed_sense (s : State) (x : List Owed) : (s.setOwed x).sense = s.sense := rfl
@[simp] theorem State.setOwed_motion (s : State) (x : List Owed) : (s.setOwed x).motion = s.motion := rfl
@[simp] theorem State.setOwed_safety (s : State) (x : List Owed) : (s.setOwed x).safety = s.safety := rfl
@[simp] theorem State.setOwed_owed (s : State) (x : List Owed) : (s.setOwed x).owed = x := rfl

/-! ## Updates of one axis -/

@[simp] theorem State.setAxis_pending (s : State) (ax : Axis) (r : AxisRecord) : (s.setAxis ax r).pending = s.pending := by cases ax <;> rfl
@[simp] theorem State.setAxis_inReset (s : State) (ax : Axis) (r : AxisRecord) : (s.setAxis ax r).inReset = s.inReset := by cases ax <;> rfl
@[simp] theorem State.setAxis_pins (s : State) (ax : Axis) (r : AxisRecord) : (s.setAxis ax r).pins = s.pins := by cases ax <;> rfl
@[simp] theorem State.setAxis_loader (s : State) (ax : Axis) (r : AxisRecord) : (s.setAxis ax r).loader = s.loader := by cases ax <;> rfl
@[simp] theorem State.setAxis_cfg (s : State) (ax : Axis) (r : AxisRecord) : (s.setAxis ax r).cfg = s.cfg := by cases ax <;> rfl
@[simp] theorem State.setAxis_line (s : State) (ax : Axis) (r : AxisRecord) : (s.setAxis ax r).line = s.line := by cases ax <;> rfl
@[simp] theorem State.setAxis_time (s : State) (ax : Axis) (r : AxisRecord) : (s.setAxis ax r).time = s.time := by cases ax <;> rfl
@[simp] theorem State.setAxis_peer (s : State) (ax : Axis) (r : AxisRecord) : (s.setAxis ax r).peer = s.peer := by cases ax <;> rfl
@[simp] theorem State.setAxis_cmd (s : State) (ax : Axis) (r : AxisRecord) : (s.setAxis ax r).cmd = s.cmd := by cases ax <;> rfl
@[simp] theorem State.setAxis_light (s : State) (ax : Axis) (r : AxisRecord) : (s.setAxis ax r).light = s.light := by cases ax <;> rfl
@[simp] theorem State.setAxis_pool (s : State) (ax : Axis) (r : AxisRecord) : (s.setAxis ax r).pool = s.pool := by cases ax <;> rfl
@[simp] theorem State.setAxis_sense (s : State) (ax : Axis) (r : AxisRecord) : (s.setAxis ax r).sense = s.sense := by cases ax <;> rfl
@[simp] theorem State.setAxis_safety (s : State) (ax : Axis) (r : AxisRecord) : (s.setAxis ax r).safety = s.safety := by cases ax <;> rfl
@[simp] theorem State.setAxis_owed (s : State) (ax : Axis) (r : AxisRecord) : (s.setAxis ax r).owed = s.owed := by cases ax <;> rfl
@[simp] theorem State.setAxisSafety_pending (s : State) (ax : Axis) (r : AxisSafety) : (s.setAxisSafety ax r).pending = s.pending := by cases ax <;> rfl
@[simp] theorem State.setAxisSafety_inReset (s : State) (ax : Axis) (r : AxisSafety) : (s.setAxisSafety ax r).inReset = s.inReset := by cases ax <;> rfl
@[simp] theorem State.setAxisSafety_pins (s : State) (ax : Axis) (r : AxisSafety) : (s.setAxisSafety ax r).pins = s.pins := by cases ax <;> rfl
@[simp] theorem State.setAxisSafety_loader (s : State) (ax : Axis) (r : AxisSafety) : (s.setAxisSafety ax r).loader = s.loader := by cases ax <;> rfl
@[simp] theorem State.setAxisSafety_cfg (s : State) (ax : Axis) (r : AxisSafety) : (s.setAxisSafety ax r).cfg = s.cfg := by cases ax <;> rfl
@[simp] theorem State.setAxisSafety_line (s : State) (ax : Axis) (r : AxisSafety) : (s.setAxisSafety ax r).line = s.line := by cases ax <;> rfl
@[simp] theorem State.setAxisSafety_time (s : State) (ax : Axis) (r : AxisSafety) : (s.setAxisSafety ax r).time = s.time := by cases ax <;> rfl
@[simp] theorem State.setAxisSafety_peer (s : State) (ax : Axis) (r : AxisSafety) : (s.setAxisSafety ax r).peer = s.peer := by cases ax <;> rfl
@[simp] theorem State.setAxisSafety_cmd (s : State) (ax : Axis) (r : AxisSafety) : (s.setAxisSafety ax r).cmd = s.cmd := by cases ax <;> rfl
@[simp] theorem State.setAxisSafety_light (s : State) (ax : Axis) (r : AxisSafety) : (s.setAxisSafety ax r).light = s.light := by cases ax <;> rfl
@[simp] theorem State.setAxisSafety_pool (s : State) (ax : Axis) (r : AxisSafety) : (s.setAxisSafety ax r).pool = s.pool := by cases ax <;> rfl
@[simp] theorem State.setAxisSafety_sense (s : State) (ax : Axis) (r : AxisSafety) : (s.setAxisSafety ax r).sense = s.sense := by cases ax <;> rfl
@[simp] theorem State.setAxisSafety_motion (s : State) (ax : Axis) (r : AxisSafety) : (s.setAxisSafety ax r).motion = s.motion := by cases ax <;> rfl
@[simp] theorem State.setAxisSafety_owed (s : State) (ax : Axis) (r : AxisSafety) : (s.setAxisSafety ax r).owed = s.owed := by cases ax <;> rfl
@[simp] theorem State.setSwitchPin_pending (s : State) (ax : Axis) (d : Direction) (b : Bool) : (s.setSwitchPin ax d b).pending = s.pending := by cases ax <;> cases d <;> rfl
@[simp] theorem State.setSwitchPin_inReset (s : State) (ax : Axis) (d : Direction) (b : Bool) : (s.setSwitchPin ax d b).inReset = s.inReset := by cases ax <;> cases d <;> rfl
@[simp] theorem State.setSwitchPin_loader (s : State) (ax : Axis) (d : Direction) (b : Bool) : (s.setSwitchPin ax d b).loader = s.loader := by cases ax <;> cases d <;> rfl
@[simp] theorem State.setSwitchPin_cfg (s : State) (ax : Axis) (d : Direction) (b : Bool) : (s.setSwitchPin ax d b).cfg = s.cfg := by cases ax <;> cases d <;> rfl
@[simp] theorem State.setSwitchPin_line (s : State) (ax : Axis) (d : Direction) (b : Bool) : (s.setSwitchPin ax d b).line = s.line := by cases ax <;> cases d <;> rfl
@[simp] theorem State.setSwitchPin_time (s : State) (ax : Axis) (d : Direction) (b : Bool) : (s.setSwitchPin ax d b).time = s.time := by cases ax <;> cases d <;> rfl
@[simp] theorem State.setSwitchPin_peer (s : State) (ax : Axis) (d : Direction) (b : Bool) : (s.setSwitchPin ax d b).peer = s.peer := by cases ax <;> cases d <;> rfl
@[simp] theorem State.setSwitchPin_cmd (s : State) (ax : Axis) (d : Direction) (b : Bool) : (s.setSwitchPin ax d b).cmd = s.cmd := by cases ax <;> cases d <;> rfl
@[simp] theorem State.setSwitchPin_light (s : State) (ax : Axis) (d : Direction) (b : Bool) : (s.setSwitchPin ax d b).light = s.light := by cases ax <;> cases d <;> rfl
@[simp] theorem State.setSwitchPin_pool (s : State) (ax : Axis) (d : Direction) (b : Bool) : (s.setSwitchPin ax d b).pool = s.pool := by cases ax <;> cases d <;> rfl
@[simp] theorem State.setSwitchPin_sense (s : State) (ax : Axis) (d : Direction) (b : Bool) : (s.setSwitchPin ax d b).sense = s.sense := by cases ax <;> cases d <;> rfl
@[simp] theorem State.setSwitchPin_motion (s : State) (ax : Axis) (d : Direction) (b : Bool) : (s.setSwitchPin ax d b).motion = s.motion := by cases ax <;> cases d <;> rfl
@[simp] theorem State.setSwitchPin_safety (s : State) (ax : Axis) (d : Direction) (b : Bool) : (s.setSwitchPin ax d b).safety = s.safety := by cases ax <;> cases d <;> rfl
@[simp] theorem State.setSwitchPin_owed (s : State) (ax : Axis) (d : Direction) (b : Bool) : (s.setSwitchPin ax d b).owed = s.owed := by cases ax <;> cases d <;> rfl

@[simp] theorem State.setAxis_axis (s : State) (ax : Axis) (r : AxisRecord) : (s.setAxis ax r).axis ax = r := by
  cases ax <;> rfl

theorem State.setAxis_axis_ne (s : State) {ax bx : Axis} (r : AxisRecord) (h : bx ≠ ax) :
    (s.setAxis ax r).axis bx = s.axis bx := by
  cases ax <;> cases bx <;> first | rfl | exact absurd rfl h

@[simp] theorem State.setAxisSafety_axisSafety (s : State) (ax : Axis) (r : AxisSafety) :
    (s.setAxisSafety ax r).axisSafety ax = r := by
  cases ax <;> rfl

theorem State.setAxisSafety_axisSafety_ne (s : State) {ax bx : Axis} (r : AxisSafety) (h : bx ≠ ax) :
    (s.setAxisSafety ax r).axisSafety bx = s.axisSafety bx := by
  cases ax <;> cases bx <;> first | rfl | exact absurd rfl h

@[simp] theorem State.setSwitchPin_switchPin (s : State) (ax : Axis) (d : Direction) (b : Bool) :
    (s.setSwitchPin ax d b).switchPin ax d = b := by
  cases ax <;> cases d <;> rfl

/-! ## What is not owed any more, and what is owed -/

@[simp] theorem State.owe_pending (s : State) (o : Owed) : (s.owe o).pending = s.pending := rfl
@[simp] theorem State.disown_pending (s : State) (o : Owed) : (s.disown o).pending = s.pending := rfl
@[simp] theorem State.owe_inReset (s : State) (o : Owed) : (s.owe o).inReset = s.inReset := rfl
@[simp] theorem State.disown_inReset (s : State) (o : Owed) : (s.disown o).inReset = s.inReset := rfl
@[simp] theorem State.owe_pins (s : State) (o : Owed) : (s.owe o).pins = s.pins := rfl
@[simp] theorem State.disown_pins (s : State) (o : Owed) : (s.disown o).pins = s.pins := rfl
@[simp] theorem State.owe_loader (s : State) (o : Owed) : (s.owe o).loader = s.loader := rfl
@[simp] theorem State.disown_loader (s : State) (o : Owed) : (s.disown o).loader = s.loader := rfl
@[simp] theorem State.owe_cfg (s : State) (o : Owed) : (s.owe o).cfg = s.cfg := rfl
@[simp] theorem State.disown_cfg (s : State) (o : Owed) : (s.disown o).cfg = s.cfg := rfl
@[simp] theorem State.owe_line (s : State) (o : Owed) : (s.owe o).line = s.line := rfl
@[simp] theorem State.disown_line (s : State) (o : Owed) : (s.disown o).line = s.line := rfl
@[simp] theorem State.owe_time (s : State) (o : Owed) : (s.owe o).time = s.time := rfl
@[simp] theorem State.disown_time (s : State) (o : Owed) : (s.disown o).time = s.time := rfl
@[simp] theorem State.owe_peer (s : State) (o : Owed) : (s.owe o).peer = s.peer := rfl
@[simp] theorem State.disown_peer (s : State) (o : Owed) : (s.disown o).peer = s.peer := rfl
@[simp] theorem State.owe_cmd (s : State) (o : Owed) : (s.owe o).cmd = s.cmd := rfl
@[simp] theorem State.disown_cmd (s : State) (o : Owed) : (s.disown o).cmd = s.cmd := rfl
@[simp] theorem State.owe_light (s : State) (o : Owed) : (s.owe o).light = s.light := rfl
@[simp] theorem State.disown_light (s : State) (o : Owed) : (s.disown o).light = s.light := rfl
@[simp] theorem State.owe_pool (s : State) (o : Owed) : (s.owe o).pool = s.pool := rfl
@[simp] theorem State.disown_pool (s : State) (o : Owed) : (s.disown o).pool = s.pool := rfl
@[simp] theorem State.owe_sense (s : State) (o : Owed) : (s.owe o).sense = s.sense := rfl
@[simp] theorem State.disown_sense (s : State) (o : Owed) : (s.disown o).sense = s.sense := rfl
@[simp] theorem State.owe_motion (s : State) (o : Owed) : (s.owe o).motion = s.motion := rfl
@[simp] theorem State.disown_motion (s : State) (o : Owed) : (s.disown o).motion = s.motion := rfl
@[simp] theorem State.owe_safety (s : State) (o : Owed) : (s.owe o).safety = s.safety := rfl
@[simp] theorem State.disown_safety (s : State) (o : Owed) : (s.disown o).safety = s.safety := rfl
@[simp] theorem State.owe_owed (s : State) (o : Owed) : (s.owe o).owed = s.owed ++ [o] := rfl
@[simp] theorem State.disown_owed (s : State) (o : Owed) : (s.disown o).owed = s.owed.erase o := rfl

end Sys2Proof.Machine
end

