-- ==== Sys2Proof/Laws/Operations.lean ====
section
/-! SUPPORT. What the shared operations can do, said once for each: what they keep, and what a calm state makes of the end
of a command. -/

namespace Sys2Proof.Machine

/-- The blocks that the operations on axes, alarms and the send queue never write. -/
structure Keeps (s t : State) : Prop where
  pending : t.pending = s.pending
  inReset : t.inReset = s.inReset
  pins : t.pins = s.pins
  loader : t.loader = s.loader
  cfg : t.cfg = s.cfg
  time : t.time = s.time
  cmd : t.cmd = s.cmd

theorem Keeps.refl (s : State) : Keeps s s := ⟨rfl, rfl, rfl, rfl, rfl, rfl, rfl⟩

theorem Keeps.trans {s t u : State} (h : Keeps s t) (k : Keeps t u) : Keeps s u :=
  ⟨k.pending.trans h.pending, k.inReset.trans h.inReset, k.pins.trans h.pins, k.loader.trans h.loader,
   k.cfg.trans h.cfg, k.time.trans h.time, k.cmd.trans h.cmd⟩

theorem keeps_setLine (s : State) (x : LineUnit) : Keeps s (s.setLine x) := ⟨rfl, rfl, rfl, rfl, rfl, rfl, rfl⟩
theorem keeps_setPeer (s : State) (x : PeerUnit) : Keeps s (s.setPeer x) := ⟨rfl, rfl, rfl, rfl, rfl, rfl, rfl⟩
theorem keeps_setLight (s : State) (x : LightUnit) : Keeps s (s.setLight x) := ⟨rfl, rfl, rfl, rfl, rfl, rfl, rfl⟩
theorem keeps_setPool (s : State) (x : Vector (Option Slot) 16) : Keeps s (s.setPool x) :=
  ⟨rfl, rfl, rfl, rfl, rfl, rfl, rfl⟩
theorem keeps_setSense (s : State) (x : Vector SenseChannel 4) : Keeps s (s.setSense x) :=
  ⟨rfl, rfl, rfl, rfl, rfl, rfl, rfl⟩
theorem keeps_setMotion (s : State) (x : MotionUnit) : Keeps s (s.setMotion x) := ⟨rfl, rfl, rfl, rfl, rfl, rfl, rfl⟩
theorem keeps_setSafety (s : State) (x : SafetyUnit) : Keeps s (s.setSafety x) := ⟨rfl, rfl, rfl, rfl, rfl, rfl, rfl⟩
theorem keeps_setOwed (s : State) (x : List Owed) : Keeps s (s.setOwed x) := ⟨rfl, rfl, rfl, rfl, rfl, rfl, rfl⟩

theorem keeps_setAxis (s : State) (ax : Axis) (r : AxisRecord) : Keeps s (s.setAxis ax r) := by
  cases ax <;> exact ⟨rfl, rfl, rfl, rfl, rfl, rfl, rfl⟩

theorem keeps_setAxisSafety (s : State) (ax : Axis) (r : AxisSafety) : Keeps s (s.setAxisSafety ax r) := by
  cases ax <;> exact ⟨rfl, rfl, rfl, rfl, rfl, rfl, rfl⟩

theorem keeps_disown (s : State) (o : Owed) : Keeps s (s.disown o) := keeps_setOwed s _

theorem keeps_raise (s : State) (a : Alarm) : Keeps s (s.raise a) := by
  unfold State.raise; split
  · exact .refl s
  · exact keeps_setSafety s _

theorem keeps_offer (s : State) (f : SendFrame) : Keeps s (s.offer f) := by
  unfold State.offer; split
  · dsimp only; split
    · exact (keeps_setLine s _).trans (keeps_raise _ _)
    · exact keeps_setLine s _
  · exact .refl s

theorem keeps_announceRequest (s : State) : Keeps s s.announceRequest := by
  unfold State.announceRequest; split
  · dsimp only; split
    · exact (keeps_setPeer s _).trans (keeps_offer _ _)
    · split
      · exact (keeps_setPeer s _).trans (keeps_setLine _ _)
      · exact keeps_setPeer s _
  · exact .refl s

theorem keeps_announceRequests (n : Nat) (s : State) : Keeps s (State.announceRequests n s) := by
  induction n generalizing s with
  | zero => exact .refl s
  | succ n ih => exact (keeps_announceRequest s).trans (ih _)

theorem keeps_syncContent (s : State) : Keeps s s.syncContent := by
  unfold State.syncContent; split
  · exact .refl s
  · exact (keeps_setPeer s _).trans (keeps_announceRequests _ _)

theorem keeps_clearObstruction (s : State) (ax : Axis) : Keeps s (s.clearObstruction ax) := keeps_setSense s _

theorem keeps_enter (s : State) (ax : Axis) (st : AxisState) : Keeps s (s.enter ax st) := by
  unfold State.enter; dsimp only; split
  · exact .refl s
  · split
    · exact (keeps_setAxis s ax _).trans ((keeps_clearObstruction _ ax).trans (keeps_syncContent _))
    · exact (keeps_setAxis s ax _).trans (keeps_syncContent _)

theorem keeps_releaseSlot (s : State) (ax : Axis) : Keeps s (s.releaseSlot ax) := by
  unfold State.releaseSlot; split
  · exact (keeps_setPool s _).trans (keeps_setAxis _ ax _)
  · exact .refl s

theorem keeps_cut (s : State) (ax : Axis) : Keeps s (s.cut ax) :=
  (keeps_releaseSlot s ax).trans (keeps_setAxis _ ax _)

theorem keeps_rest (s : State) (ax : Axis) : Keeps s (s.rest ax) := (keeps_cut s ax).trans (keeps_enter _ ax _)

theorem keeps_restFor (s : State) (ax : Axis) (reason : StopReason) : Keeps s (s.restFor ax reason) :=
  (keeps_setAxis s ax _).trans (keeps_rest _ ax)

theorem keeps_faultFor (s : State) (ax : Axis) (reason : StopReason) : Keeps s (s.faultFor ax reason) :=
  (keeps_setAxis s ax _).trans ((keeps_cut _ ax).trans (keeps_enter _ ax _))

theorem keeps_completeLight (s : State) (k : Fin 16) : Keeps s (s.completeLight k) :=
  (keeps_setLight s _).trans (keeps_setPool _ _)

theorem keeps_giveSlot (s : State) (k : Fin 16) (slot : Slot) : Keeps s (s.giveSlot k slot) :=
  (keeps_setPool s _).trans (keeps_disown _ _)

theorem keeps_giveMotor (s : State) (ax : Axis) (n a b : Nat) (k : Fin 16) : Keeps s (s.giveMotor ax n a b k) :=
  (keeps_giveSlot s k _).trans (keeps_setAxis _ ax _)

theorem keeps_askMotor (s : State) (ax : Axis) (n a b : Nat) : Keeps s (s.askMotor ax n a b) := by
  unfold State.askMotor; split
  · exact keeps_giveMotor s ax n a b _
  · split
    · exact (keeps_completeLight s _).trans ((keeps_giveMotor _ ax n a b _).trans (keeps_raise _ _))
    · exact .refl s

theorem keeps_enterStopping (s : State) (ax : Axis) (reason : StopReason) : Keeps s (s.enterStopping ax reason) := by
  unfold State.enterStopping; dsimp only
  have h := (keeps_releaseSlot s ax).trans ((keeps_setAxis _ ax { (s.releaseSlot ax).axis ax with
    reason := reason, lease := none, stallCount := 0 }).trans (keeps_enter _ ax .stopping))
  split
  · exact h.trans ((keeps_setAxis _ ax _).trans (keeps_rest _ ax))
  · exact h.trans (keeps_askMotor _ ax _ _ _)

theorem keeps_stopMoving (s : State) (reason : StopReason) (ax : Axis) : Keeps s (s.stopMoving reason ax) := by
  unfold State.stopMoving; split
  · exact keeps_enterStopping s ax reason
  · exact .refl s

theorem keeps_setAlarm (s : State) (a : Alarm) : Keeps s (s.setAlarm a) := by
  unfold State.setAlarm; dsimp only; split
  · exact (keeps_setSafety s _).trans (keeps_offer _ _)
  · exact keeps_setSafety s _

theorem keeps_newlySet (s : State) (a : Alarm) (ax : Axis) : Keeps s (s.newlySet a ax) := by
  unfold State.newlySet; split
  · exact keeps_stopMoving s _ ax
  · exact .refl s

theorem keeps_takeReport (s : State) (a : Alarm) : Keeps s (s.takeReport a) := by
  unfold State.takeReport; split
  · exact .refl s
  · exact (keeps_setAlarm s a).trans ((keeps_newlySet _ a .A).trans (keeps_newlySet _ a .B))

theorem keeps_followHold (s : State) (ax : Axis) : Keeps s (s.followHold ax) := by
  unfold State.followHold; dsimp only; split
  · exact .refl s
  · split
    · exact (keeps_setAxisSafety s ax _).trans (keeps_enter _ ax _)
    · exact (keeps_setAxisSafety s ax _).trans (keeps_enter _ ax _)
    · exact keeps_setAxisSafety s ax _

theorem keeps_seal (s : State) : Keeps s s.seal := ⟨rfl, rfl, rfl, rfl, rfl, rfl, rfl⟩

theorem keeps_settle (n : Nat) (s : State) : Keeps s (s.settle n) := by
  induction n generalizing s with
  | zero => exact keeps_seal s
  | succ n ih =>
    unfold State.settle; dsimp only; split
    · exact (keeps_syncContent s).trans ((keeps_setSafety _ _).trans ((keeps_takeReport _ _).trans (ih _)))
    · split
      · exact (keeps_syncContent s).trans ((keeps_followHold _ .A).trans ((keeps_followHold _ .B).trans (ih _)))
      · exact keeps_syncContent s

theorem keeps_settled (s : State) : Keeps s s.settled := keeps_settle _ s

theorem keeps_publish (s : State) : Keeps s s.publish := ⟨rfl, rfl, rfl, rfl, rfl, rfl, rfl⟩

/-- The end of a command writes none of the blocks that `Keeps` names. -/
theorem keeps_finish (s : State) : Keeps s s.finish :=
  (keeps_setSafety s _).trans ((keeps_settled _).trans (keeps_publish _))

theorem keeps_owe (s : State) (o : Owed) : Keeps s (s.owe o) := keeps_setOwed s _

theorem keeps_oweIf (s : State) (c : Bool) (o : Owed) : Keeps s (s.oweIf c o) := by
  unfold State.oweIf; split
  · exact keeps_owe s o
  · exact .refl s

/-- What is done for the first owed event of a kind, once the event's own step is known to keep these blocks. -/
theorem keeps_takeOwed (s : State) (kind : Owed → Bool) (step : Owed → State → State)
    (h : ∀ o s, Keeps s (step o s)) : Keeps s (s.takeOwed kind step) := by
  unfold State.takeOwed; split
  · exact (keeps_disown s _).trans (h _ _)
  · exact .refl s

/-- A fold of steps that each keep these blocks keeps them. -/
theorem keeps_foldl {α : Type} (step : State → α → State) (h : ∀ s a, Keeps s (step s a)) (l : List α) (s : State) :
    Keeps s (l.foldl step s) := by
  induction l generalizing s with
  | nil => exact .refl s
  | cons a l ih => exact (h s a).trans (ih _)

/-! ### The stepping of the pool -/

theorem keeps_stepSlots (s : State) (due : Fin 16 → Bool) : Keeps s (s.stepSlots due) := by
  unfold State.stepSlots
  exact ((keeps_setMotion s _).trans (keeps_setLight _ _)).trans (keeps_setPool _ _)

/-- Owing the boundary's steps writes the owed events alone (R110). -/
theorem keeps_oweSteps (s : State) (given : List (Fin 16)) : Keeps s (s.oweSteps given) :=
  keeps_setOwed s _

theorem keeps_enterRunning (s : State) (ax : Axis) : Keeps s (s.enterRunning ax) :=
  (keeps_setAxis s ax _).trans (keeps_enter _ ax _)

theorem keeps_completeRamp (s : State) (k : Fin 16) : Keeps s (s.completeRamp k) := by
  unfold State.completeRamp; split
  · exact keeps_completeLight s k
  · dsimp only
    have h := keeps_setPool s (s.pool.set k none)
    split
    · exact (h.trans (keeps_setAxis _ _ _)).trans (keeps_enterRunning _ _)
    · exact (h.trans (keeps_setAxis _ _ _)).trans (keeps_rest _ _)
    all_goals exact h
  · exact .refl s

/-- The pool's stepping writes the pool, the lights, the axes and what follows from an axis's change, and nothing of these
blocks (R108 to R110). -/
theorem keeps_takeSteps (s : State) : Keeps s s.takeSteps :=
  ((keeps_stepSlots s _).trans (keeps_setOwed _ _)).trans (keeps_foldl _ keeps_completeRamp _ _)

/-! ### A modulator bit -/

theorem keeps_setChannel (s : State) (c : Fin 4) (ch : SenseChannel) : Keeps s (s.setChannel c ch) :=
  keeps_setSense s _

theorem keeps_backOff (s : State) (ax : Axis) : Keeps s (s.backOff ax) := by
  unfold State.backOff
  exact ((keeps_releaseSlot s ax).trans (keeps_setAxis _ _ _)).trans (keeps_enter _ _ _)

theorem keeps_obstruct (s : State) (ax : Axis) : Keeps s (s.obstruct ax) := by
  have h := keeps_raise s (.obstruction ax)
  unfold State.obstruct; split
  · split
    · exact h.trans (keeps_backOff _ ax)
    · exact h.trans (keeps_restFor _ ax _)
  · split
    · exact h.trans (keeps_backOff _ ax)
    · exact h.trans (keeps_restFor _ ax _)
  · exact h.trans (keeps_restFor _ ax _)
  · exact h.trans (keeps_faultFor _ ax _)
  all_goals exact .refl s

theorem keeps_countObstruction (s : State) (c : Fin 4) (ax : Axis) : Keeps s (s.countObstruction c ax) := by
  unfold State.countObstruction; dsimp only; split
  · exact keeps_setChannel s c _
  · split
    · exact keeps_setChannel s c _
    · exact (keeps_setChannel s c _).trans (keeps_obstruct _ ax)

theorem keeps_compareForce (s : State) (c : Fin 4) : Keeps s (s.compareForce c) := by
  unfold State.compareForce; split
  · split
    · exact (keeps_setAxis s _ _).trans (keeps_countObstruction _ c _)
    · exact keeps_setChannel s c _
  · exact .refl s

theorem keeps_decimate (s : State) (c : Fin 4) : Keeps s (s.decimate c) := by
  unfold State.decimate; dsimp only; split
  · exact keeps_setChannel s c _
  · exact ((keeps_setChannel s c _).trans (keeps_compareForce _ c)).trans (keeps_syncContent _)

/-- A bit that a channel takes reaches the Sense Unit, its bound axis and what follows from that, and nothing of these
blocks (R117, R120, R125). -/
theorem keeps_takeBit (s : State) (c : Fin 4) (b : Bool) : Keeps s (s.takeBit c b) := by
  unfold State.takeBit; dsimp only
  refine Keeps.trans ?_ (keeps_oweIf _ _ _)
  split
  · exact keeps_setChannel s c _
  · exact (keeps_setChannel s c _).trans (keeps_decimate _ c)

theorem keeps_signalStep (o : Owed) (s : State) : Keeps s (signalStep o s) := by
  cases o with
  | obstruction ax c b => exact keeps_takeBit s c b
  | _ => exact .refl s

theorem keeps_settleChannel (s : State) (c : Fin 4) : Keeps s (s.settleChannel c) := by
  have clip (s : State) : Keeps s
      (if s.owed.contains (.clip c) then ((s.disown (.clip c)).raise (.clip c)).settled else s) := by
    split
    · exact ((keeps_disown s _).trans (keeps_raise _ _)).trans (keeps_settled _)
    · exact .refl s
  unfold State.settleChannel
  refine Keeps.trans ?_ (clip _)
  split
  · exact (keeps_takeOwed s _ _ keeps_signalStep).trans (keeps_settled _)
  · exact .refl s

/-- A bit that reaches a channel, taken or owed. -/
theorem keeps_presentBit (s : State) (c : Fin 4) (b : Bool) : Keeps s (s.presentBit c b) := by
  unfold State.presentBit; dsimp only
  refine (keeps_settleChannel s c).trans ?_
  split
  · exact keeps_owe _ _
  · exact keeps_takeBit _ c b

@[simp] theorem finish_pending (s : State) : s.finish.pending = s.pending := (keeps_finish s).pending
@[simp] theorem finish_inReset (s : State) : s.finish.inReset = s.inReset := (keeps_finish s).inReset
@[simp] theorem finish_pins (s : State) : s.finish.pins = s.pins := (keeps_finish s).pins
@[simp] theorem finish_loader (s : State) : s.finish.loader = s.loader := (keeps_finish s).loader
@[simp] theorem finish_cfg (s : State) : s.finish.cfg = s.cfg := (keeps_finish s).cfg
@[simp] theorem finish_time (s : State) : s.finish.time = s.time := (keeps_finish s).time
@[simp] theorem finish_cmd (s : State) : s.finish.cmd = s.cmd := (keeps_finish s).cmd

/-! ## A calm state -/

theorem calm_iff (s : State) : s.calm = true ↔
    s.safety.raised = [] ∧ s.safety.within = false ∧ s.contentNow = s.peer.content ∧ s.holdStale .A = false ∧
      s.holdStale .B = false := by
  simp [State.calm, and_assoc]

/-- Where nothing is left to take, nothing is taken. -/
theorem settle_of_calm (n : Nat) {s : State} (h : s.calm = true) : s.settle (n + 1) = s := by
  obtain ⟨h1, -, h2, h3, h4⟩ := (calm_iff s).1 h
  simp [State.settle, State.syncContent, h1, h2, h3, h4]

theorem settled_of_calm {s : State} (h : s.calm = true) : s.settled = s := settle_of_calm 127 h

theorem setWithin_of_calm {s : State} (h : s.calm = true) : s.setWithin false = s := by
  have w : s.safety = { s.safety with within := false } := by rw [← ((calm_iff s).1 h).2.1]
  rw [State.setWithin, ← w]; rfl

/-- A command that leaves a calm state only publishes. -/
theorem finish_of_calm {s : State} (h : s.calm = true) : s.finish = s.publish := by
  rw [State.finish, setWithin_of_calm h, settled_of_calm h]

theorem publish_of_published {s : State} (h : s.published = true) : s.publish = s := by
  simpa [State.published] using h

theorem finish_of_quiet {s : State} (h : s.quiet = true) : s.finish = s := by
  simp only [State.quiet, Bool.and_eq_true] at h
  rw [finish_of_calm h.1, publish_of_published h.2]

/-- A frame offered to a send queue with room joins it as the newest (R20). -/
theorem offer_of_room {s : State} {n : Nat} (h : s.room (n + 1) = true) (f : SendFrame) :
    s.offer f = s.withFrame f := by
  simp only [State.room, Bool.and_eq_true, decide_eq_true_eq] at h
  have : s.line.queue.length < 8 := by omega
  simp [State.offer, joinQueue, h.1, this, State.withFrame]

/-- What a due command answers. -/
theorem event_of_due {s : State} {due : Bool} (h : s.inReset = false) (d : due = true) (effect : State) :
    event s due effect = .next effect.finish := by
  simp [event, h, d]

/-- A command that is not due changes nothing. -/
theorem event_of_not_due {s : State} {due : Bool} (d : due = false) (effect : State) :
    event s due effect = .next s := by
  simp [event, d]

/-! ## A quiet state -/

/-- What a published state shows (R57, R95). -/
theorem published_iff (s : State) : s.published = true ↔
    s.peer.shed = s.shedNow ∧ s.light.outputs = Vector.ofFn fun i => s.light.compose s.shedNow i := by
  have e : s.publish = { s with
      peer := { s.peer with shed := s.shedNow },
      light := { s.light with outputs := Vector.ofFn fun i => s.light.compose s.shedNow i } } := rfl
  simp only [State.published, decide_eq_true_eq]
  constructor
  · intro h
    exact ⟨(congrArg (fun s => s.peer.shed) h).symm, (congrArg (fun s => s.light.outputs) h).symm⟩
  · rintro ⟨h1, h2⟩
    rw [e, ← h2, ← h1]

/-- What makes a state quiet is in the blocks named here: the others may differ. -/
theorem quiet_congr {s t : State} (pins : t.pins = s.pins) (cfg : t.cfg = s.cfg) (keys : t.cmd.keys = s.cmd.keys)
    (peer : t.peer = s.peer) (light : t.light = s.light) (sense : t.sense = s.sense) (motion : t.motion = s.motion)
    (safety : t.safety = s.safety) (lock : t.time.lock = s.time.lock) (engine : t.time.engine = s.time.engine)
    (allstop : t.line.allstop = s.line.allstop) (estop : t.line.estop = s.line.estop) : t.quiet = s.quiet := by
  have axes : ∀ ax, t.axis ax = s.axis ax := by intro ax; cases ax <;> simp [State.axis, motion]
  have axesCfg : ∀ ax, t.axisCfg ax = s.axisCfg ax := by intro ax; simp [State.axisCfg, cfg]
  have switches : ∀ ax d, t.switchRead ax d = s.switchRead ax d := by
    intro ax d; cases ax <;> cases d <;> simp [State.switchRead, State.switchPin, axesCfg, pins]
  have flags : ∀ f, t.flagValue f = s.flagValue f := by
    intro f; cases f <;> simp [State.flagValue, keys, switches, axes, sense, estop]
  have demand : t.demandNow = s.demandNow := by simp [State.demandNow, State.axisDemand, axes, axesCfg]
  have content : t.contentNow = s.contentNow := by
    simp [State.contentNow, State.flagsNow, funext flags, cfg, demand, motion, lock, engine]
  have holds : ∀ ax, t.heldNow ax = s.heldNow ax := by
    intro ax
    simp [State.heldNow, State.causes, State.alarmCounts, State.alarmSet, axesCfg, safety, allstop, estop]
  have stale : ∀ ax, t.holdStale ax = s.holdStale ax := by
    intro ax; cases ax <;> simp [State.holdStale, State.holdOn, State.axisSafety, safety, holds]
  have shed : t.shedNow = s.shedNow := by simp [State.shedNow, demand, cfg, peer]
  rw [Bool.eq_iff_iff]
  simp only [State.quiet, Bool.and_eq_true, calm_iff, published_iff, content, stale, shed, peer, safety, light]

/-- The same of an awake state. -/
theorem awake_congr {s t : State} (pins : t.pins = s.pins) (cfg : t.cfg = s.cfg) (keys : t.cmd.keys = s.cmd.keys)
    (peer : t.peer = s.peer) (light : t.light = s.light) (sense : t.sense = s.sense) (motion : t.motion = s.motion)
    (safety : t.safety = s.safety) (lock : t.time.lock = s.time.lock) (engine : t.time.engine = s.time.engine)
    (allstop : t.line.allstop = s.line.allstop) (estop : t.line.estop = s.line.estop)
    (inReset : t.inReset = s.inReset) : t.awake = s.awake := by
  simp [State.awake, inReset, quiet_congr pins cfg keys peer light sense motion safety lock engine allstop estop]

/-! ## Events of one instant -/

theorem setWithin_heldNow (s : State) (b : Bool) (ax : Axis) : (s.setWithin b).heldNow ax = s.heldNow ax := by
  cases ax <;> rfl

theorem setWithin_setWithin (s : State) (b c : Bool) : (s.setWithin b).setWithin c = s.setWithin c := rfl

/-- With no event to carry out nothing is. -/
theorem carryTogether_nil (s : State) : s.carryTogether [] = s.setWithin false := rfl

/-- Where nothing is owed, ALLSTOP is not reached and no emergency stop is shown, nothing of the instant holds an axis again
(R181). -/
theorem heldAgain_of_owed_nil {s : State} (h : s.owed = []) (a : s.allstopReached = false) (e : s.estopShown = false) :
    s.heldAgain = false := by
  have one : ∀ ax, s.axisHeldAgain ax = false := by
    intro ax
    cases n : s.heldNow ax <;>
      simp [State.axisHeldAgain, State.holders, State.allOwed, h, a, e, n, carryTogether_nil, setWithin_heldNow]
  simp [State.heldAgain, one]

/-- Where nothing of the instant holds an axis again, the end of a hold cause takes nothing else within it (R181). -/
theorem oneInstant_of_not_heldAgain {s : State} (h : s.heldAgain = false) :
    s.foresee.oneInstant = s.setWithin false := by
  simp [State.foresee, State.oneInstant, h, State.setWithin]

end Sys2Proof.Machine
end

