-- ==== Sys2Proof/WellFormed.lean ====
section
/-! DEFINITION. Which commands a sender can mean: the ranges of the operands that a type does not give already. -/

namespace Sys2Proof

/-- The longest line image of one frame, with its slot, is 122 bit times (table of 01, "Frame lengths"); with the
idle time and a dominant run before it no line command needs more than 200 bits. -/
def maxLineBits : Nat := 200

/-- A command that carries line bits ends at the bit at which its event falls, so it carries at least one. -/
def lineBitsOk (bits : List LineBit) : Bool := 0 < bits.length && bits.length ≤ maxLineBits

/-- The operands are ones the surroundings can present. -/
def Instr.wellFormed : Instr → Bool
  | .freshnessLapse a => 1 ≤ a && a ≤ 62
  | .imageJudged bytes => bytes.length ≤ 1024
  | .frameBegin bits => bits.length ≤ maxLineBits
  | .contentionLost bits | .contentionWon bits | .bitError bits | .headerEndLatch bits
  | .senderEntersSlot bits | .startBitRead bits | .frameReceiveIntact bits | .receiveError bits
  | .invalidSourceDiscard bits | .deferredErrorCount bits | .allstopEntry bits | .allstopExit bits =>
    lineBitsOk bits
  | .senseSample _ bits => 0 < bits.length && bits.length ≤ 128
  | .hardReset _ | .heldInReset | .attemptFail | .periodBoundary _ _ | .rampCompletion _
  | .silenceTimerExpiry | .beaconOffer | .referenceLost | .scheduleDueRun | .announceExpiry | .runStep
  | .keyDebounceEstablish _ | .keyPress _ | .keyRelease _ | .leaseEnd _ | .stall _ | .blankingEnd _
  | .holdOffEnd | .slotEnd _ | .beaconReceive | .announceReceive | .silentEntry | .estopAssert
  | .estopRelease | .travelPulse _ _ | .endSwitchChange _ _ _ | .obstructionSignal _ | .clip _
  | .decodeTake | .goto | .jog | .jogRelease | .stop | .axisClear | .reference | .tare | .sceneRecall
  | .groupRecallRequest | .levelSet | .lightsEnable | .channelEnable | .nightSet | .nightOff | .runSet
  | .runStart | .runStop | .sceneTime | .alarmClear | .mapClear | .restart | .readAxis | .readSense
  | .readTime | .readAlarms | .readLight | .readPeer | .readScene | .levelWindow | .levelData
  | .replyDiscard | .unknownKind => true

end Sys2Proof
end

