-- ==== Sys2Proof/Laws/PerInstr.lean ====
section
/-! SUPPORT. What is said of every command, one lemma for each constructor: the line bits, modulator bits or image bytes that a
well-formed command carries are bounded. -/

namespace Sys2Proof.Laws.Bounded

/-- How many line bits, modulator bits or image bytes a command carries. -/
def carried : Instr → Nat
  | .imageJudged bytes => bytes.length
  | .frameBegin bits | .contentionLost bits | .contentionWon bits | .bitError bits | .headerEndLatch bits
  | .senderEntersSlot bits | .startBitRead bits | .frameReceiveIntact bits | .receiveError bits
  | .invalidSourceDiscard bits | .deferredErrorCount bits | .allstopEntry bits | .allstopExit bits => bits.length
  | .senseSample _ bits => bits.length
  | _ => 0

/-- A well-formed command carries no more than an image has bytes. -/
def Statement (i : Instr) : Prop := i.wellFormed = true → carried i ≤ 1024

theorem le_of_lineBitsOk {bits : List LineBit} (h : lineBitsOk bits = true) : bits.length ≤ 1024 := by
  simp only [lineBitsOk, Bool.and_eq_true, decide_eq_true_eq] at h
  exact Nat.le_trans h.2 (by decide)

theorem hardReset (straps : BitVec 6) : Statement (.hardReset straps) := fun _ => Nat.zero_le _
theorem heldInReset : Statement .heldInReset := fun _ => Nat.zero_le _
theorem attemptFail : Statement .attemptFail := fun _ => Nat.zero_le _
theorem imageJudged (bytes : List Byte) : Statement (.imageJudged bytes) := of_decide_eq_true
theorem periodBoundary (keys : BitVec 8) (found : BoundaryFound) : Statement (.periodBoundary keys found) :=
  fun _ => Nat.zero_le _
theorem rampCompletion (slot : Fin 16) : Statement (.rampCompletion slot) := fun _ => Nat.zero_le _
theorem silenceTimerExpiry : Statement .silenceTimerExpiry := fun _ => Nat.zero_le _
theorem beaconOffer : Statement .beaconOffer := fun _ => Nat.zero_le _
theorem referenceLost : Statement .referenceLost := fun _ => Nat.zero_le _
theorem scheduleDueRun : Statement .scheduleDueRun := fun _ => Nat.zero_le _
theorem announceExpiry : Statement .announceExpiry := fun _ => Nat.zero_le _
theorem freshnessLapse (address : Nat) : Statement (.freshnessLapse address) := fun _ => Nat.zero_le _
theorem runStep : Statement .runStep := fun _ => Nat.zero_le _
theorem keyDebounceEstablish (key : Fin 8) : Statement (.keyDebounceEstablish key) := fun _ => Nat.zero_le _
theorem keyPress (key : Fin 8) : Statement (.keyPress key) := fun _ => Nat.zero_le _
theorem keyRelease (key : Fin 8) : Statement (.keyRelease key) := fun _ => Nat.zero_le _
theorem leaseEnd (ax : Axis) : Statement (.leaseEnd ax) := fun _ => Nat.zero_le _
theorem stall (ax : Axis) : Statement (.stall ax) := fun _ => Nat.zero_le _
theorem blankingEnd (ax : Axis) : Statement (.blankingEnd ax) := fun _ => Nat.zero_le _
theorem holdOffEnd : Statement .holdOffEnd := fun _ => Nat.zero_le _
theorem frameBegin (bits : List LineBit) : Statement (.frameBegin bits) :=
  fun h => Nat.le_trans (of_decide_eq_true h) (by decide)
theorem contentionLost (bits : List LineBit) : Statement (.contentionLost bits) := le_of_lineBitsOk
theorem contentionWon (bits : List LineBit) : Statement (.contentionWon bits) := le_of_lineBitsOk
theorem bitError (bits : List LineBit) : Statement (.bitError bits) := le_of_lineBitsOk
theorem headerEndLatch (bits : List LineBit) : Statement (.headerEndLatch bits) := le_of_lineBitsOk
theorem senderEntersSlot (bits : List LineBit) : Statement (.senderEntersSlot bits) := le_of_lineBitsOk
theorem slotEnd (level : LineBit) : Statement (.slotEnd level) := fun _ => Nat.zero_le _
theorem startBitRead (bits : List LineBit) : Statement (.startBitRead bits) := le_of_lineBitsOk
theorem frameReceiveIntact (bits : List LineBit) : Statement (.frameReceiveIntact bits) := le_of_lineBitsOk
theorem receiveError (bits : List LineBit) : Statement (.receiveError bits) := le_of_lineBitsOk
theorem invalidSourceDiscard (bits : List LineBit) : Statement (.invalidSourceDiscard bits) := le_of_lineBitsOk
theorem deferredErrorCount (bits : List LineBit) : Statement (.deferredErrorCount bits) := le_of_lineBitsOk
theorem beaconReceive : Statement .beaconReceive := fun _ => Nat.zero_le _
theorem announceReceive : Statement .announceReceive := fun _ => Nat.zero_le _
theorem silentEntry : Statement .silentEntry := fun _ => Nat.zero_le _
theorem allstopEntry (bits : List LineBit) : Statement (.allstopEntry bits) := le_of_lineBitsOk
theorem allstopExit (bits : List LineBit) : Statement (.allstopExit bits) := le_of_lineBitsOk
theorem estopAssert : Statement .estopAssert := fun _ => Nat.zero_le _
theorem estopRelease : Statement .estopRelease := fun _ => Nat.zero_le _
theorem travelPulse (ax : Axis) (high : Bool) : Statement (.travelPulse ax high) := fun _ => Nat.zero_le _
theorem endSwitchChange (ax : Axis) (which : Direction) (active : Bool) : Statement (.endSwitchChange ax which active) :=
  fun _ => Nat.zero_le _
theorem senseSample (channel : Fin 4) (bits : List Bool) : Statement (.senseSample channel bits) := by
  intro h
  simp only [Instr.wellFormed, Bool.and_eq_true, decide_eq_true_eq] at h
  exact Nat.le_trans h.2 (by decide)
theorem obstructionSignal (ax : Axis) : Statement (.obstructionSignal ax) := fun _ => Nat.zero_le _
theorem clip (channel : Fin 4) : Statement (.clip channel) := fun _ => Nat.zero_le _
theorem decodeTake : Statement .decodeTake := fun _ => Nat.zero_le _
theorem goto : Statement .goto := fun _ => Nat.zero_le _
theorem jog : Statement .jog := fun _ => Nat.zero_le _
theorem jogRelease : Statement .jogRelease := fun _ => Nat.zero_le _
theorem stop : Statement .stop := fun _ => Nat.zero_le _
theorem axisClear : Statement .axisClear := fun _ => Nat.zero_le _
theorem reference : Statement .reference := fun _ => Nat.zero_le _
theorem tare : Statement .tare := fun _ => Nat.zero_le _
theorem sceneRecall : Statement .sceneRecall := fun _ => Nat.zero_le _
theorem groupRecallRequest : Statement .groupRecallRequest := fun _ => Nat.zero_le _
theorem levelSet : Statement .levelSet := fun _ => Nat.zero_le _
theorem lightsEnable : Statement .lightsEnable := fun _ => Nat.zero_le _
theorem channelEnable : Statement .channelEnable := fun _ => Nat.zero_le _
theorem nightSet : Statement .nightSet := fun _ => Nat.zero_le _
theorem nightOff : Statement .nightOff := fun _ => Nat.zero_le _
theorem runSet : Statement .runSet := fun _ => Nat.zero_le _
theorem runStart : Statement .runStart := fun _ => Nat.zero_le _
theorem runStop : Statement .runStop := fun _ => Nat.zero_le _
theorem sceneTime : Statement .sceneTime := fun _ => Nat.zero_le _
theorem alarmClear : Statement .alarmClear := fun _ => Nat.zero_le _
theorem mapClear : Statement .mapClear := fun _ => Nat.zero_le _
theorem restart : Statement .restart := fun _ => Nat.zero_le _
theorem readAxis : Statement .readAxis := fun _ => Nat.zero_le _
theorem readSense : Statement .readSense := fun _ => Nat.zero_le _
theorem readTime : Statement .readTime := fun _ => Nat.zero_le _
theorem readAlarms : Statement .readAlarms := fun _ => Nat.zero_le _
theorem readLight : Statement .readLight := fun _ => Nat.zero_le _
theorem readPeer : Statement .readPeer := fun _ => Nat.zero_le _
theorem readScene : Statement .readScene := fun _ => Nat.zero_le _
theorem levelWindow : Statement .levelWindow := fun _ => Nat.zero_le _
theorem levelData : Statement .levelData := fun _ => Nat.zero_le _
theorem replyDiscard : Statement .replyDiscard := fun _ => Nat.zero_le _
theorem unknownKind : Statement .unknownKind := fun _ => Nat.zero_le _

end Sys2Proof.Laws.Bounded
end

