-- ==== Sys2Proof/Tests/Slice0.lean ====
section
/-! SUPPORT. The implementer's own tests: the well-formedness checks, small tests of single commands with values from the spec's
examples, and for each statement a state and operands that meet its hypotheses. -/

namespace Sys2Proof.Tests

open Sys2Proof Sys2Proof.Machine

/-! ## Well-formedness refuses what it should -/

theorem test_wellFormed_lapse_of_address_0 : (Instr.freshnessLapse 0).wellFormed = false := by decide
theorem test_wellFormed_lapse_of_address_63 : (Instr.freshnessLapse 63).wellFormed = false := by decide
theorem test_wellFormed_lapse_of_address_62 : (Instr.freshnessLapse 62).wellFormed = true := by decide
theorem test_wellFormed_image_too_long (bytes : List Byte) (h : bytes.length = 1025) :
    (Instr.imageJudged bytes).wellFormed = false := by simp [Instr.wellFormed, h]
theorem test_wellFormed_begin_too_long (bits : List LineBit) (h : bits.length = 201) :
    (Instr.frameBegin bits).wellFormed = false := by simp [Instr.wellFormed, maxLineBits, h]
theorem test_wellFormed_no_bits :
    [Instr.contentionLost [], .contentionWon [], .bitError [], .headerEndLatch [], .senderEntersSlot [],
      .startBitRead [], .frameReceiveIntact [], .receiveError [], .invalidSourceDiscard [], .deferredErrorCount [],
      .allstopEntry [], .allstopExit [], .senseSample 0 []].all (fun c => !c.wellFormed) = true := by decide
theorem test_wellFormed_too_many_bits (bits : List LineBit) (h : bits.length = 201) :
    [Instr.contentionLost bits, .contentionWon bits, .bitError bits, .headerEndLatch bits, .senderEntersSlot bits,
      .startBitRead bits, .frameReceiveIntact bits, .receiveError bits, .invalidSourceDiscard bits,
      .deferredErrorCount bits, .allstopEntry bits, .allstopExit bits].all (fun c => !c.wellFormed) = true := by
  simp [Instr.wellFormed, lineBitsOk, maxLineBits, h]
theorem test_wellFormed_sample_too_long (bits : List Bool) (h : bits.length = 129) :
    (Instr.senseSample 0 bits).wellFormed = false := by simp [Instr.wellFormed, h]
theorem test_wellFormed_one_bit : (Instr.startBitRead [false]).wellFormed = true := by decide
theorem test_no_word_spells_a_command : decodeTableWord 8 0 = none := rfl

/-! ## States for the tests -/

/-- The hatch of station 27 (08), with shorter ramps. -/
def hatch : AxisConfig :=
  { AxisConfig.absent with
    kind := .hatch, travelMax := 200, runDuty := 700, creepDuty := 250, creepDistance := 20, rampUp := 10,
    rampDown := 6, startBlanking := 5, stallTime := 5, bound := some 1, obstructionLimit := 400, persistence := 3,
    response := .stopBackOff, backOffDistance := 150 }

/-- Station 27 with a hatch as axis A and sense channel 1. -/
def conf : Configuration :=
  { Configuration.defaults with axisA := hatch, sense := #v[.absent, ⟨true, 32, 4, 50⟩, .absent, .absent] }

/-- Axis A at rest, referenced, at position 100. -/
def still : AxisRecord := { AxisRecord.disabled with state := .stopped, referenced := true, position := 100 }

/-- The station with axis A as given. -/
def withAxis (r : AxisRecord) : State :=
  { State.cold Pins.rest with
    loader := { Loader.cold 27 with station := .configured }, cfg := conf, motion := { a := r, b := .disabled },
    peer := { PeerUnit.cold with content := { PeerUnit.cold.content with stateA := r.state } } }

/-- The station with its hatch at rest. -/
def base : State := withAxis still

/-- The hatch opening by a GOTO. -/
def opening : AxisRecord :=
  { still with state := .running, direction := some .plus, mode := some .goto, target := some (.position 120), duty := 700 }

/-- The hatch in its back-off. -/
def reversing (n : Nat) : AxisRecord := { opening with state := .reversing, duty := 250, backOff := n }

/-- A jog of peer 40, closing. -/
def jogging : AxisRecord :=
  { still with
    state := .starting, direction := some .minus, mode := some .jog, target := some .endMinus,
    lease := some { holder := .peer 40, remaining := 1 } }

def owing (s : State) (o : List Owed) : State := { s with owed := o }
def asking (s : State) (r : Request) : State := { s with cmd := { s.cmd with decoder := some { request := r, age := 100 } } }

/-- What a command answers, or the state it began in. -/
def after (c : Instr) (s : State) : State :=
  match exec c s with
  | .next t => t
  | .fault _ | .refused _ => s

theorem owing_awake (s : State) (o : List Owed) : (owing s o).awake = s.awake :=
  awake_congr rfl rfl rfl rfl rfl rfl rfl rfl rfl rfl rfl rfl rfl
theorem asking_awake (s : State) (r : Request) : (asking s r).awake = s.awake :=
  awake_congr rfl rfl rfl rfl rfl rfl rfl rfl rfl rfl rfl rfl rfl
theorem asking_flies (s : State) (r : Request) : (asking s r).flies r := ⟨100, rfl⟩

theorem base_awake : base.awake = true := by decide
theorem opening_awake : (withAxis opening).awake = true := by decide
theorem jogging_awake : (withAxis jogging).awake = true := by decide

theorem asked (r : Request) : (asking base r).awake = true := (asking_awake base r).trans base_awake
theorem owed (o : List Owed) : (owing base o).awake = true := (owing_awake base o).trans base_awake

/-- A station whose pool is free, with no fade and no axis's ramp. -/
theorem free_slotsLawful (s : State) (p : s.pool = Vector.replicate 16 none) (f : ∀ k, s.fadesOn k = 0)
    (a : ∀ ax, (s.axis ax).slot = none) : s.slotsLawful :=
  have e (k : Fin 16) : s.pool[k] = none := by rw [p]; exact Vector.getElem_replicate k.isLt
  ⟨fun k => by rw [e k]; exact ⟨f k, fun ax => by rw [a ax]; simp⟩, fun ax h => absurd (a ax) h⟩

/-! ## States that meet the hypotheses: the machine as a whole -/

theorem witness_NothingActsInReset :
    let s : State := { State.reset with inReset := true }
    s.inReset = true ∧ (∀ n, Instr.goto ≠ .hardReset n) ∧ Instr.goto ≠ .heldInReset ∧
      ∀ ax d b, Instr.goto ≠ .endSwitchChange ax d b :=
  ⟨rfl, fun _ h => Instr.noConfusion h, fun h => Instr.noConfusion h, fun _ _ _ h => Instr.noConfusion h⟩

/-- LOADING with these bytes staged, at this attempt, the check register at 0. -/
def staged (bytes : List Byte) (attempt : Nat) : State :=
  { State.reset with loader := { State.reset.loader with staging := bytes, attempt := attempt, check := 0 } }

theorem staged_length (bytes : List Byte) (attempt : Nat) :
    (staged bytes attempt).loader.staging.length = bytes.length := rfl

theorem staged_awake (bytes : List Byte) (attempt : Nat) : (staged bytes attempt).awake = true :=
  (awake_congr (s := State.reset) (t := staged bytes attempt) rfl rfl rfl rfl rfl rfl rfl rfl rfl rfl rfl rfl rfl).trans (by decide)

theorem witness_FailedAttemptsEndUnconfigured :
    (State.reset.inReset = false ∧ State.reset.station = .loading ∧ State.reset.loader.attempt < 3) ∧
    (let s := staged (List.replicate 1022 0) 2
     s.inReset = false ∧ s.station = .loading ∧ s.loader.staging.length + [(0 : Byte)].length < 1024) ∧
    (let s := staged (List.replicate 1023 0) 2
     s.inReset = false ∧ s.station = .loading ∧ s.loader.staging.length + [(0 : Byte)].length = 1024 ∧
       s.loader.attempt < 3 ∧
       goodImage (s.loader.staging ++ [0]) (crcFrom s.loader.check (bitsOfBytes [0])) = false) ∧
    (let s := staged [] 3
     s.awake = true ∧ s.station = .loading ∧ s.loader.attempt = 3 ∧ s.line.allstop = false ∧ s.line.queue = []) := by
  refine ⟨by decide, ⟨rfl, rfl, ?_⟩, ⟨rfl, rfl, ?_, by decide, rfl⟩, by decide⟩
  · rw [staged_length, List.length_replicate]; decide
  · rw [staged_length, List.length_replicate]; rfl

/-- An image of zeros but for its signature and format number, less its last byte. -/
def plainImage : List Byte := [0xD2, 0x4C, 1] ++ List.replicate 1020 0

theorem witness_GoodImageConfiguresEveryBlock :
    let s := staged plainImage 1
    s.inReset = false ∧ s.station = .loading ∧ s.loader.staging.length + [(0 : Byte)].length = 1024 ∧
      goodImage (s.loader.staging ++ [0]) (crcFrom s.loader.check (bitsOfBytes [0])) = true ∧ s.awake = true ∧
      s.line.queue = [] ∧ (freeSlot s.pool).isSome = true ∧ s.line.allstop = false := by
  refine ⟨rfl, rfl, ?_, rfl, ?_, rfl, by decide, rfl⟩
  · rw [staged_length, plainImage, List.length_append, List.length_replicate]
    rfl
  · exact staged_awake plainImage 1

theorem base_published : base.quiet = true := by
  have h := base_awake
  rwa [State.awake, show base.inReset = false from rfl, Bool.not_false, Bool.true_and] at h

theorem witness_EveryStepLeavesTheStationQuiet :
    base.follows ∧ step base = .next base.clock :=
  ⟨⟨base_published, fun h => Bool.noConfusion h⟩, rfl⟩

theorem witness_EveryStepKeepsTheDriveLaw :
    let s := withAxis opening
    s.drivesLawful ∧ s.dutyPin .A ≠ 0 ∧ step s = .next s.clock :=
  ⟨fun ax => by cases ax <;> decide, by decide, rfl⟩

theorem witness_EveryStepKeepsThePositionLaw :
    let s := withAxis { still with position := 200 }
    s.positionsLawful ∧ step s = .next s.clock :=
  ⟨fun ax => by cases ax <;> decide, rfl⟩

theorem witness_EveryStepKeepsTheLeaseLaw :
    let s := withAxis jogging
    s.leasesLawful ∧ (s.axis .A).lease ≠ none ∧ step s = .next s.clock :=
  ⟨fun ax => by cases ax <;> decide, by decide, rfl⟩

/-- Under ALLSTOP, the hatch still ramping down. -/
def stopped : State :=
  let s := withAxis { opening with state := .stopping }
  { s with line := { s.line with allstop := true, dominantCount := 40 } }

theorem witness_EveryStepKeepsTheEmergencyStopLaw :
    (stopped.stopsLawful ∧ stopped.line.allstop = true ∧ step stopped = .next stopped.clock) ∧
    (let s := withAxis opening
     s.interlocksLawful ∧ (s.axis .A).state.moves = true ∧ step s = .next s.clock) :=
  ⟨⟨fun _ ax => by cases ax <;> decide, rfl, rfl⟩,
    ⟨fun ax => by cases ax <;> exact ⟨rfl, rfl, rfl, fun d _ _ => by cases d <;> rfl⟩, rfl, rfl⟩⟩

theorem witness_EveryStepKeepsTheBounds :
    base.queuesBounded ∧ base.lineCountsBounded ∧ base.loadingLawful ∧ State.reset.loadingLawful ∧
      State.reset.station = .loading ∧ base.slotsLawful ∧ step base = .next base.clock :=
  ⟨by unfold State.queuesBounded; decide, by unfold State.lineCountsBounded; decide, (fun h => by cases h),
    (fun _ ax => by cases ax <;> rfl), rfl,
    free_slotsLawful _ rfl (by decide) (fun ax => by cases ax <;> rfl), rfl⟩

/-- An entry for an address, announced by nobody yet. -/
def waitingFor (a : Nat) : PeerEntry := { address := a, content := none, age := 0, fresh := false, pinned := true }

theorem witness_EveryStepKeepsThePeerTableLaws :
    let s : State := { base with peer := { base.peer with table := [waitingFor 19, waitingFor 28] } }
    s.tableLawful ∧ step s = .next s.clock :=
  ⟨by unfold State.tableLawful; decide, rfl⟩

theorem witness_CommandsChangeOnlyTheirParts :
    exec .mapClear base = .next base ∧
      [startsUp, presentsPins, setsTime, placesAxes, writesScenes, feedsSense, handlesIntake, turnsAllstop,
        countsHoldOff, runsSchedule].all (fun f => !f .mapClear) = true ∧ marksArrivals .goto = false ∧
      (∀ ax, (base.axisCfg ax).holdMask = 0) ∧
      (let s := { withAxis opening with sense := base.sense.set 1 { SenseChannel.cold with state := .running } }
       exec .mapClear s = .next s ∧ s.boundAxis 1 = some .A ∧ s.sense[(1 : Fin 4)].state = .running ∧
         (s.axis .A).state.motorPowered = true) :=
  ⟨rfl, by decide, rfl, fun ax => by cases ax <;> rfl, rfl, rfl, rfl, rfl⟩

/-- A frame with every field at the top of its range. -/
def fullFrame : Frame := { cls := 7, source := 62, dest := 127, kind := 31, payload := List.replicate 8 0xFF }

theorem witness_SentFrameIsReceivedIntact :
    fullFrame.cls < 8 ∧ 1 ≤ fullFrame.source ∧ fullFrame.source ≤ 62 ∧ fullFrame.dest < 128 ∧ fullFrame.kind < 32 ∧
      fullFrame.payload.length ≤ 8 := by decide

/-! ## States that meet the hypotheses: the period boundary -/

/-- The station with c at a value. -/
def slewing (c : Int) : State := { base with time := { base.time with slew := c } }

theorem witness_BoundaryOpensThePeriod :
    ([slewing 1, slewing (-1), slewing 0].all fun s => !s.inReset && s.owed.isEmpty) = true ∧
      0 < (slewing 1).time.slew ∧ (slewing (-1)).time.slew < 0 ∧ (slewing 0).time.slew = 0 := by decide

/-- A channel that fades from 0 to 3000 in slot 0. -/
def fading : Channel := { Channel.cold with fade := some { start := 0, goal := 3000, slot := 0 } }

/-- Lights with channel 0 fading. -/
def fadingLights : LightUnit := { LightUnit.cold with channels := LightUnit.cold.channels.set 0 fading }

/-- The station with a LIGHT slot 0 (T 200, n as given) and, in slot 1, axis A's ramp of 6 periods (n as given). -/
def ramping (state : AxisState) (n m : Nat) : State :=
  let s := withAxis { opening with state := state, slot := some 1 }
  { s with
    light := fadingLights,
    pool := (s.pool.set 0 (some { owner := .light, length := 200, elapsed := n, members := 1 })).set 1
      (some { owner := .motor .A 700 0, length := 6, elapsed := m, members := 1 }) }

theorem witness_BoundaryStepsTheRamps :
    (let s := ramping .stopping 80 4
     s.awake = true ∧ s.owed = [] ∧ s.time.slew = 0 ∧
       (∀ k : Fin 16, (s.pool[k]).all (fun slot => slot.elapsed + 1 < slot.length) = true) ∧
       s.light.channels[(0 : Fin 24)].fade = some { start := 0, goal := 3000, slot := 0 } ∧
       s.light.channels[(1 : Fin 24)].fade = none ∧ (s.axis .A).slot = some 1 ∧
       (s.pool[(1 : Fin 16)]).map Slot.owner = some (.motor .A 700 0) ∧ (s.axis .A).state.motorPowered = true) ∧
    (let s := ramping .stopping 199 4
     s.awake = true ∧ ∃ slot, s.pool[(0 : Fin 16)] = some slot ∧ slot.length ≤ slot.elapsed + 1) ∧
    (let s := ramping .stopping 80 0
     s.awake = true ∧ s.owed = [] ∧ s.time.slew = 0 ∧
       ∃ slot, s.pool[(1 : Fin 16)] = some slot ∧ slot.elapsed = 0) ∧
    (let s := withAxis jogging
     s.awake = true ∧ s.owed = [] ∧ s.slotsLawful ∧
       (s.axis .A).lease = some { holder := .peer 40, remaining := 1 } ∧ (s.axis .A).state.moves = true ∧
       (s.axisCfg .A).rampDown ≠ 0 ∧ (freeSlot s.pool).isSome = true) :=
  ⟨by decide, ⟨by decide, _, rfl, by decide⟩, ⟨by decide, rfl, rfl, _, rfl, rfl⟩,
    ⟨by decide, rfl, free_slotsLawful _ rfl (by decide) (fun ax => by cases ax <;> rfl), rfl, rfl, by decide, by decide⟩⟩

theorem witness_RampCompletionGivesTheGoals :
    ∀ n ∈ [80, 199],
      let s := owing (ramping .stopping n 4) [.slotStep 0]
      s.awake = true ∧ Owed.slotStep 0 ∈ s.owed ∧ Owed.slotStep 1 ∉ s.owed ∧
        (s.pool[(0 : Fin 16)]).map (fun slot => (slot.owner, slot.elapsed)) = some (.light, n) ∧
        ∀ j : Fin 16, Owed.slotStep j ∈ s.owed → (s.pool[j]).all (fun slot => slot.owner = .light) = true := by
  decide

theorem witness_RampCompletionMovesTheAxis :
    ∀ state ∈ [AxisState.starting, .stopping],
      let s := owing (ramping state 80 5) [.slotStep 0, .slotStep 1]
      s.awake = true ∧ s.room 1 = true ∧ Owed.slotStep 1 ∈ s.owed ∧ Axis.B ≠ .A ∧ (s.axis .A).slot = some 1 ∧
        (s.axis .A).state = state ∧
        (s.pool[(1 : Fin 16)]).map (fun x => (x.owner, x.length, x.elapsed)) = some (.motor .A 700 0, 6, 5) ∧
        ∀ j : Fin 16, j ≠ 1 → Owed.slotStep j ∈ s.owed → (s.pool[j]).all (fun x => x.owner = .light) = true := by
  decide

theorem witness_TheTimeBaseRunsFree :
    (let s := owing { base with time := { base.time with engine := .standby, silenceTimer := 1 } } [.silenceTimerExpiry]
     s.inReset = false ∧ Owed.silenceTimerExpiry ∈ s.owed ∧ s.time.engine = .standby ∧ s.time.silenceTimer ≤ 1) ∧
    (let s := owing { base with time := { base.time with reference := some 9, referenceAge := 24 } } [.referenceLost]
     s.inReset = false ∧ Owed.referenceLost ∈ s.owed ∧ s.time.reference ≠ none ∧ 24 ≤ s.time.referenceAge) := by decide

/-- A frame that waits. -/
def frameOf (cls : Nat) : SendFrame := { cls := cls, kind := 1, dest := 127, payload := none, onLine := false }

/-- The station with frames in its send queue. -/
def queueing (s : State) (q : List SendFrame) : State := { s with line := { s.line with queue := q } }

/-- A TIMEKEEPER. -/
def keeper : State :=
  { base with
    time := { base.time with engine := .timekeeper },
    peer := { base.peer with counter := 1, content := { base.peer.content with engine := .timekeeper } } }

theorem witness_BeaconAndAnnounceJoinTheQueue :
    (let s := owing (queueing keeper (List.replicate 7 (frameOf 4))) [.beaconOffer, .announceExpiry]
     s.awake = true ∧ Owed.beaconOffer ∈ s.owed ∧ Owed.silenceTimerExpiry ∉ s.owed ∧ s.time.engine = .timekeeper ∧
       (∀ f ∈ s.line.queue, f.cls ≠ 2) ∧ s.room 1 = true ∧ Owed.announceExpiry ∈ s.owed ∧ s.peer.counter ≤ 1 ∧
       ∀ f ∈ s.line.queue, f.cls ≠ 5) ∧
    (let s := owing (queueing keeper [frameOf 2]) [.beaconOffer]
     s.awake = true ∧ Owed.beaconOffer ∈ s.owed ∧ ∃ f ∈ s.line.queue, f.cls = 2) ∧
    (let s := owing (queueing keeper (List.replicate 6 (frameOf 4) ++ [frameOf 6, frameOf 3])) [.beaconOffer]
     s.awake = true ∧ (∀ f ∈ s.line.queue, f.cls ≠ 2) ∧ s.line.queue.length = 8 ∧ s.sends = true ∧
       s.cfg.reportMask = 0 ∧ (∀ ax ∈ [Axis.A, .B], Alarm.sendDrop.within (s.axisCfg ax).holdMask = false) ∧
       s.line.queue = List.replicate 6 (frameOf 4) ++ frameOf 6 :: [frameOf 3] ∧ (frameOf 6).onLine = false) ∧
    (let s := owing (queueing keeper (List.replicate 8 (frameOf 0))) [.beaconOffer]
     s.awake = true ∧ s.line.queue.length = 8 ∧ ∀ f ∈ s.line.queue, f.onLine = true ∨ f.cls ≤ 2) ∧
    (let s := owing (queueing keeper [frameOf 5]) [.announceExpiry]
     s.awake = true ∧ s.line.queue.find? (fun f => f.cls == 5) = some (frameOf 5) ∧ s.sends = true) ∧
    (let s := owing (queueing keeper [{ frameOf 5 with onLine := true }]) [.announceExpiry]
     let s : State := { s with line := { s.line with own := .sending } }
     s.awake = true ∧ s.line.queue.find? (fun f => f.cls == 5) = some { frameOf 5 with onLine := true } ∧
       s.line.own = .sending) := by decide

/-- The announcement of station 19 with F2 = 1 (B.2). -/
def heard19 : List Byte := [0, 0, 0x04, 100, 1, 0, 0, 0]

/-- An entry for station 19 of this age, fresh. -/
def fresh19 (age : Nat) : PeerEntry :=
  { address := 19, content := some (storedContent heard19), age := age, fresh := true, pinned := true }

theorem witness_FreshnessLapses :
    let s : State := owing { base with peer := { base.peer with table := [fresh19 400] } } [.freshnessLapse 19]
    s.inReset = false ∧ fresh19 400 ∈ s.peer.table ∧ (fresh19 400).content = some (storedContent heard19) ∧
      (fresh19 400).fresh = true ∧ 4 * (storedContent heard19).interval ≤ (fresh19 400).age ∧
      (fresh19 400).age < 65535 ∧ Owed.freshnessLapse (fresh19 400).address ∈ s.owed := by decide

/-- The hatch opening under a term on station 19 that asks for F2 = 1, both ways, and an announcement with F2 = 0. -/
def guarded : State :=
  let s := withAxis opening
  { s with
    cfg := { conf with axisA := { hatch with terms := [⟨19, 2, 1, .both, false⟩] } },
    safety := { s.safety with a := { s.safety.a with terms := [true] } },
    peer := { s.peer with table := [fresh19 5] }, owed := [.announce 19 [0, 0, 0, 100, 1, 0, 0, 0]] }

theorem witness_LostDirectionStopsTheAxis :
    guarded.owed.find? isAnnounce = some (.announce 19 [0, 0, 0, 100, 1, 0, 0, 0]) ∧ guarded.awake = true ∧
      guarded.station ≠ .loading ∧ (guarded.axis .A).state.moves = true ∧ (guarded.axis .A).direction = some .plus ∧
      (guarded.axisSafety .A).permitted .plus = true ∧ (guarded.axisCfg .A).rampDown ≠ 0 ∧
      (guarded.setPeer { guarded.peer with
        table := announceInto guarded.peer.table 19 (storedContent [0, 0, 0, 100, 1, 0, 0, 0]) }).permittedNow .A .plus
        = false := by decide

/-- The station at P = 5 with one entry due: L0..L23 of group 3 to 1000 at once. -/
def scheduled : State :=
  owing { base with time := { base.time with p := 5, schedule := [⟨.levelSet none 1000 0, .peer 40, .group 3, 5, 0⟩] } }
    [.scheduleDueRun]

theorem witness_DueEntriesRunAndLeave :
    Owed.scheduleDueRun ∈ scheduled.owed ∧ scheduled.inReset = false ∧ scheduled.awake = true ∧
      scheduled.time.schedule.filter (fun e => e.due == scheduled.time.p) =
        [⟨.levelSet none 1000 0, .peer 40, .group 3, 5, 0⟩] ∧ scheduled.lightingHeld = false := by decide

/-- A run of the whole rail, about to step. -/
def running : State :=
  { base with light := { base.light with region := some ⟨4, 6, 14, 25⟩, stepping := true, offset := 5, stepCount := 24 } }

/-- The hatch held by a hold-off at its last period. -/
def heldOff : State :=
  let s := withAxis { still with state := .held }
  { s with safety := { s.safety with
      holdOff := 1, a := { s.safety.a with held := true }, b := { s.safety.b with held := true } } }

/-- The same at a boundary that also enters SILENT, with SILENT_SEEN in the hold mask of axis A. -/
def silentToo : State :=
  let s := owing heldOff [.silentEntry, .holdOffEnd]
  { s with
    cfg := { s.cfg with axisA := { s.cfg.axisA with holdMask := Alarm.silentSeen.mask } },
    line := { s.line with silence := 49 } }

/-- The end of the hold-off at a boundary at which a sample has read ESTOP asserted. -/
def estopToo : State :=
  let s := owing heldOff [.holdOffEnd]
  { s with pins := { s.pins with estop := true } }

theorem witness_BoundaryCountsEnd :
    (let s := owing running [.runStep]
     s.awake = true ∧ s.light.region = some ⟨4, 6, 14, 25⟩ ∧ Owed.runStep ∈ s.owed ∧ s.light.stepping = true ∧
       25 ≤ s.light.stepCount + 1) ∧
    (let s := owing (withAxis { opening with blanking := 1 }) [.blankingEnd .A]
     s.awake = true ∧ Axis.B ≠ .A ∧ Owed.blankingEnd .A ∈ s.owed ∧ (s.axis .A).state.motorPowered = true ∧
       (s.axis .A).blanking = 1) ∧
    (let s := owing heldOff [.holdOffEnd]
     s.awake = true ∧ Owed.holdOffEnd ∈ s.owed ∧ s.safety.holdOff = 1 ∧ s.allstopReached = false ∧
       s.room 1 = true ∧ s.endHoldOff.heldAgain = false) ∧
    (silentToo.awake = true ∧ silentToo.owed = [.silentEntry, .holdOffEnd] ∧ silentToo.safety.holdOff = 1 ∧
      silentToo.allstopReached = false ∧ silentToo.station ≠ .loading ∧
      silentToo.line.silence + 1 = silentToo.cfg.silentTime ∧ (silentToo.axis .A).state = .held ∧
      Alarm.silentSeen.within (silentToo.axisCfg .A).holdMask = true) ∧
    (estopToo.awake = true ∧ Owed.holdOffEnd ∈ estopToo.owed ∧ estopToo.safety.holdOff = 1 ∧
      estopToo.allstopReached = false ∧ estopToo.estopShown = true ∧ (estopToo.axis .A).state = .held) ∧
    (let s := owing heldOff [.holdOffEnd]
     let s : State := { s with line := { s.line with dominantCount := 40 } }
     s.awake = true ∧ s.allstopReached = true ∧ (s.axis .A).state = .held) := by decide

/-- Key 0 with this level and count, its last sample pressed or released, and its pin at a level. -/
def keyed (level : Option KeyLevel) (last : KeyLevel) (count : Nat) (pins : BitVec 8) (o : Owed) : State :=
  owing { base with
    pins := { base.pins with keys := pins },
    cmd := { base.cmd with keys := base.cmd.keys.set 0 ⟨level, some last, count, none⟩ } } [o]

theorem witness_KeysTakeTheirLevels :
    (let s := keyed none .released 1 0xFF (.keyEstablish 0)
     s.inReset = false ∧ Owed.keyEstablish 0 ∈ s.owed ∧ s.cmd.keys[(0 : Fin 8)].level = none ∧
       s.keySample 0 = .released ∧ s.cmd.keys[(0 : Fin 8)].lastSample = some .released ∧
       1 ≤ s.cmd.keys[(0 : Fin 8)].count) ∧
    (let s := keyed (some .released) .pressed 2 0xFE (.keyPress 0)
     s.inReset = false ∧ Owed.keyPress 0 ∈ s.owed ∧ s.cmd.keys[(0 : Fin 8)].level = some .released ∧
       s.keySample 0 = .pressed ∧ 2 ≤ s.cmd.keys[(0 : Fin 8)].count) ∧
    (let s := keyed (some .pressed) .released 2 0xFF (.keyRelease 0)
     s.inReset = false ∧ Owed.keyRelease 0 ∈ s.owed ∧ s.cmd.keys[(0 : Fin 8)].level = some .pressed ∧
       s.keySample 0 = .released ∧ 2 ≤ s.cmd.keys[(0 : Fin 8)].count) := by decide

theorem witness_LeaseEndAndStallStopTheAxis :
    (let s := owing (withAxis jogging) [.leaseEnd .A]
     s.awake = true ∧ Owed.leaseEnd .A ∈ s.owed ∧ (s.axis .A).lease = some { holder := .peer 40, remaining := 1 } ∧
       (s.axis .A).state.moves = true ∧ (s.axisCfg .A).rampDown ≠ 0) ∧
    (let s := owing (withAxis { opening with stallCount := 4 }) [.stall .A]
     s.awake = true ∧ Owed.stall .A ∈ s.owed ∧ ((s.axis .A).state = .running ∨ (s.axis .A).state = .reversing) ∧
       (s.axisCfg .A).stallTime ≤ (s.axis .A).stallCount + 1 ∧ s.station ≠ .loading) := by decide

/-! ## States that meet the hypotheses: the line -/

theorem witness_SilentEntryAppliesItsRow :
    let w := withAxis opening
    let s : State := owing { w with
      cfg := { conf with trigger := { conf.trigger with silent := ⟨.stopRamp, .none, 0⟩ } },
      line := { w.line with silence := 49 } } [.silentEntry]
    s.awake = true ∧ Owed.silentEntry ∈ s.owed ∧ s.station ≠ .loading ∧ s.line.silence + 1 = s.cfg.silentTime ∧
      s.cfg.trigger.silent.axisAction = .stopRamp ∧ (s.axis .A).state.moves = true ∧ (s.axisCfg .A).rampDown ≠ 0 := by
  decide

theorem witness_EmergencyStopIsAssertedAndReleased :
    (base.inReset = false ∧ base.line.estop = false ∧ base.awake = true) ∧
    ((withAxis opening).awake = true ∧ ((withAxis opening).axis .A).state.moves = true) ∧
    ((withAxis (reversing 4)).awake = true ∧ ((withAxis (reversing 4)).axis .A).state = .reversing) ∧
    (let s := owing { base with line := { base.line with estop := true, releaseCount := 2 } } [.estopRelease]
     s.inReset = false ∧ Owed.estopRelease ∈ s.owed ∧ s.line.estop = true ∧ s.line.releaseCount = 2 ∧
       (s.disown .estopRelease).releaseEstop.heldAgain = false) := by decide

/-- The station on an idle line. -/
def idle (q : List SendFrame) : State := { base with line := { base.line with queue := q, idleCount := 10 } }

theorem line_awake (x : LineUnit) (a : x.allstop = base.line.allstop) (e : x.estop = base.line.estop) :
    ({ base with line := x } : State).awake = true :=
  (awake_congr (s := base) (t := { base with line := x }) rfl rfl rfl rfl rfl rfl rfl rfl rfl rfl a e rfl).trans base_awake

theorem witness_FramesBegin :
    (let s := idle [frameOf 5, frameOf 4, frameOf 4]
     s.readBits [] = s ∧ s.inReset = false ∧ s.awake = true ∧ s.mayBegin = true ∧ ∀ f ∈ s.line.queue, f.cls ≤ 7) ∧
    (let s := idle []
     s.readBits [] = s ∧ s.lineIdle = true ∧ s.line.own = .none ∧ s.decodes = true ∧ s.awake = true) :=
  ⟨⟨rfl, rfl, line_awake _ rfl rfl, by decide, by decide⟩, ⟨rfl, rfl, rfl, rfl, line_awake _ rfl rfl⟩⟩

/-- The station that has put the first `n` bits of a frame on the line. -/
def sentBits (f : SendFrame) (own : OwnFrame) (n : Nat) : State :=
  let s : State := { base with line := { base.line with
    queue := [{ f with onLine := true }, frameOf 6], own := own, place := .inFrame } }
  { s with line := { s.line with bits := s.ownBits.take n } }

/-- An OUTCOME to peer 40. -/
def outcome40 : SendFrame := { cls := 4, kind := 1, dest := 40, payload := some [0x21, 0x20, 1, 0], onLine := false }

set_option maxRecDepth 20000 in
theorem witness_ContentionIsLostOrWon :
    (let s1 := (sentBits (frameOf 3) .contending 2).readBits [false]
     s1.inReset = false ∧ s1.awake = true ∧ s1.losesNow = true ∧ s1.line.leaveOnLoss = false) ∧
    (let s1 := (sentBits (frameOf 5) .contending 9).readBits [true]
     s1.awake = true ∧ s1.winsNow = true ∧
       s1.line.queue.find? SendFrame.onLine = some { frameOf 5 with onLine := true }) :=
  ⟨⟨rfl, line_awake _ rfl rfl, by decide, rfl⟩, ⟨line_awake _ rfl rfl, by decide, by decide⟩⟩

set_option maxRecDepth 20000 in
theorem witness_BitErrorRemovesTheFrame :
    (let s1 := (sentBits (frameOf 3) .sending 10).readBits [false]
     s1.inReset = false ∧ s1.awake = true ∧ s1.line.refresh = false ∧ s1.errorLevel = some false) ∧
    (let s1 := (sentBits (frameOf 3) .contending 1).readBits [true]
     s1.inReset = false ∧ s1.awake = true ∧ s1.line.refresh = false ∧ s1.errorLevel = some true) ∧
    (let s := sentBits (frameOf 3) .contending 1
     let s1 := ({ s with line := { s.line with budget := 1 } } : State).readBits [true]
     s1.awake = true ∧ s1.errorLevel = some true ∧ s1.line.budget = 1) :=
  ⟨⟨rfl, line_awake _ rfl rfl, rfl, by decide⟩, ⟨rfl, line_awake _ rfl rfl, rfl, by decide⟩,
    ⟨line_awake _ rfl rfl, by decide, rfl⟩⟩

set_option maxRecDepth 20000 in
theorem witness_HeaderEndLatchesTheCount :
    (let s1 := (sentBits (frameOf 2) .sending 26).readBits [false]
     s1.inReset = false ∧ s1.awake = true ∧ s1.latchesNow = true ∧ s1.line.own = .sending) ∧
    (let s1 := (sentBits (frameOf 2) .none 26).readBits [false]
     s1.awake = true ∧ s1.latchesNow = true ∧ s1.line.own = .none) :=
  ⟨⟨rfl, line_awake _ rfl rfl, by decide, rfl⟩, ⟨line_awake _ rfl rfl, by decide, rfl⟩⟩

set_option maxRecDepth 20000 in
theorem witness_TheSlotEndsTheOwnFrame :
    (let s := sentBits outcome40 .sending 200
     s.readBits [] = s ∧ s.inReset = false ∧ s.awake = true ∧ s.sentWhole = true) ∧
    (let s := sentBits outcome40 .slot 0
     s.awake = true ∧ s.line.own = .slot ∧ s.line.refresh = false ∧ s.line.errorOwed = false) ∧
    (let s := sentBits (frameOf 5) .slot 0
     let s : State := { s with line := { s.line with refresh := true } }
     s.awake = true ∧ s.line.own = .slot ∧ s.line.refresh = true ∧ s.sends = true ∧ s.line.queue.length ≤ 8 ∧
       ∃ f ∈ s.line.queue, f.onLine = true ∧ f.cls = 5) :=
  ⟨⟨rfl, rfl, line_awake _ rfl rfl, by decide⟩, ⟨line_awake _ rfl rfl, rfl, rfl, rfl⟩,
    ⟨line_awake _ rfl rfl, rfl, rfl, rfl, by decide, by decide⟩⟩

/-- The station that has read these bits of a frame. -/
def received (bits : List LineBit) : State :=
  { base with line := { base.line with place := .inFrame, bits := bits } }

/-- A frame from peer 40 to station 27. -/
def from40 (cls kind : Nat) (payload : List Byte) : Frame :=
  { cls := cls, source := 40, dest := 27, kind := kind, payload := payload }

theorem received_awake (bits : List LineBit) : (received bits).awake = true := line_awake _ rfl rfl

theorem intact_of_judge {bits : List LineBit} {f : Frame} (h : judge bits = .intact f) :
    (received bits).intactFrame = some f := by
  have : (received bits).verdict = .intact f := h
  simp [State.intactFrame, this]

set_option maxRecDepth 20000 in
theorem witness_IntactFrameIsRouted :
    (∀ bits, (received bits).readBits [] = received bits ∧ (received bits).inReset = false ∧
      (received bits).awake = true ∧ (received bits).loader.address = some 27) ∧
    (∀ f ∈ [from40 1 3 [0], from40 0 1 [], from40 7 0 [], from40 2 1 [0, 3, 0, 3], { from40 3 6 [] with dest := 28 },
        { from40 3 6 [] with source := 27 }, from40 5 1 heard19],
      (received f.lineBits).intactFrame = some f) ∧
    base.addressed 27 = true ∧ base.addressed 28 = false ∧ base.cmd.intake.length < 8 ∧
    (let e : IntakeEntry := { cls := 3, source := 40, dest := 27, kind := 6, payload := [] }
     let s : State := { received (from40 3 6 []).lineBits with
       cmd := { base.cmd with intake := List.replicate 8 e } }
     s.awake = true ∧ s.intactFrame = some (from40 3 6 []) ∧ 8 ≤ s.cmd.intake.length) := by
  refine ⟨fun bits => ⟨rfl, rfl, received_awake bits, rfl⟩, ?_, by decide, by decide, by decide, ?_, ?_, by decide⟩
  · intro f h
    refine intact_of_judge ?_
    fin_cases h <;> decide
  · exact (awake_congr rfl rfl rfl rfl rfl rfl rfl rfl rfl rfl rfl rfl rfl).trans
      (received_awake (from40 3 6 []).lineBits)
  · exact intact_of_judge (by decide : judge (from40 3 6 []).lineBits = .intact (from40 3 6 []))

/-- The bits of a frame with the one at a place turned over. -/
def turned (f : Frame) (n : Nat) : List LineBit := f.lineBits.set n (!(f.lineBits.getD n false))

set_option maxRecDepth 20000 in
theorem witness_ReceiveErrorsAreCounted :
    ((received [false]).readBits [] = received [false] ∧ (received [false]).inReset = false ∧
      (received [false]).awake = true) ∧
    (received ((from40 3 6 (List.replicate 9 0)).lineBits.take 26)).verdict = .illegalLength ∧
    (received (false :: List.replicate 8 true)).verdict = .codingError true ∧
    (received (List.replicate 8 false)).verdict = .codingError false ∧
    (received (turned (from40 3 6 []) 12)).verdict = .badCheck ∧
    (received ({ from40 3 6 [] with source := 63 } : Frame).lineBits).verdict = .badSource ∧
    (let s : State := { base with line := { base.line with errorOwed := true } }
     s.line.errorOwed = true ∧ s.line.own ≠ .slot) := by
  refine ⟨⟨rfl, rfl, received_awake _⟩, by decide, by decide, by decide, by decide, by decide, by decide⟩

/-- The station with a beacon handed over: reference 9 is held, and φ was 500 at the latch. -/
def beaconed (a : Nat) (pb : BitVec 16) (phib : Nat) : State :=
  owing { base with time := { base.time with p := 7, reference := some 9 } } [.beacon a pb phib ⟨7, 500, 38⟩]

theorem witness_BeaconAlignsTheCount :
    ((beaconed 9 7 502).owed.find? isBeacon = some (.beacon 9 7 502 ⟨7, 500, 38⟩) ∧ (beaconed 9 7 502).inReset = false) ∧
    (beaconed 10 7 502).alignsTo 10 = false ∧ (beaconed 9 7 502).alignsTo 9 = true ∧
    beaconDelta ⟨7, 500, 38⟩ 7 (min 502 999) = some 2 ∧ beaconDelta ⟨7, 500, 38⟩ 7 (min 503 999) = some 3 ∧
    beaconDelta ⟨7, 500, 38⟩ 7 (min 450 999) = some (-50) ∧ beaconDelta ⟨7, 500, 38⟩ 7 (min 449 999) = some (-51) ∧
    beaconDelta ⟨7, 500, 38⟩ 9 (min 1200 999) = none ∧
    [419, 420, 429, 430, 579, 580].map (fun phib => beaconDelta ⟨7, 500, 38⟩ 7 (min phib 999)) =
      [some (-81), some (-80), some (-71), some (-70), some 79, some 80] ∧
    (let s : State := { beaconed 3 9 500 with peer := { base.peer with
       content := { base.peer.content with engine := .timekeeper } } }
     let s : State := { s with time := { s.time with
       engine := .timekeeper, schedule := [⟨.runStop, .peer 40, .station, 8, 0⟩, ⟨.runStop, .peer 40, .station, 10, 1⟩] } }
     s.awake = true ∧ s.station ≠ .loading ∧ s.time.engine ≠ .listener ∧ s.isLower 3 = true ∧ s.alignsTo 3 = true ∧
       s.time.schedule.map (fun e => e.distance 9) = [65535, 1]) := by decide

theorem witness_AnnouncementIsStored :
    let s := owing { base with peer := { base.peer with table := [waitingFor 28] } } [.announce 19 heard19]
    s.owed.find? isAnnounce = some (.announce 19 heard19) ∧ s.inReset = false ∧ s.tableLawful ∧
      (∀ x ∈ s.peer.table, x.address ≠ 19) ∧ s.peer.table.length < 32 ∧ ∃ x ∈ s.peer.table, x.pinned = true :=
  ⟨by decide, rfl, by unfold State.tableLawful; decide, by decide, by decide, by decide⟩

/-- 32 entries, none of them pinned, the first the oldest. -/
def fullTable : List PeerEntry := (List.range 32).map fun i =>
  { address := i + 20, content := some (storedContent heard19), age := 100 - i, fresh := true, pinned := false }

set_option maxRecDepth 20000 in
theorem witness_AnnouncementIsStored_full :
    let s := owing { base with peer := { base.peer with table := fullTable } } [.announce 19 heard19]
    let victim : PeerEntry :=
      { address := 20, content := some (storedContent heard19), age := 100, fresh := true, pinned := false }
    s.owed.find? isAnnounce = some (.announce 19 heard19) ∧ victim ∈ s.peer.table ∧ s.peer.table.length = 32 ∧
      s.tableLawful ∧ (∀ x ∈ s.peer.table, x.address ≠ 19) ∧
      ∀ x ∈ s.peer.table, x.pinned = false → x.age < victim.age ∨ x.age = victim.age ∧ victim.address ≤ x.address :=
  ⟨by decide, by decide, by decide, by unfold State.tableLawful; decide, by decide, by decide⟩

theorem witness_AllstopEntersAndEnds :
    (let s : State := { base with line := { base.line with dominantCount := 39 } }
     (s.readBits [false]).inReset = false ∧ (s.readBits [false]).awake = true ∧
       (s.readBits [false]).allstopReached = true ∧ ((s.readBits [false]).axis .A).state = .stopped ∧
       (s.readBits [false]).heldNow .A = false) ∧
    (let w := withAxis { still with state := .held }
     let s : State := { w with
       line := { w.line with allstop := true, idleCount := 9, dominantCount := 40 },
       safety := { w.safety with
         a := { w.safety.a with held := true }, b := { w.safety.b with held := true } } }
     (s.readBits [true]).awake = true ∧ (s.readBits [true]).allstopOver = true ∧
       (s.readBits [true]).exitAllstop.heldAgain = false) :=
  ⟨⟨rfl, line_awake _ rfl rfl, by decide, rfl, by decide⟩, ⟨by decide, by decide⟩⟩

/-! ## States that meet the hypotheses: axes and sensors -/

/-- A windlass in place of the hatch. -/
def windlass (r : AxisRecord) : State :=
  { withAxis r with cfg := { conf with axisA := { hatch with kind := .windlass } } }

theorem witness_PulsesCountAndArrive :
    (let s := withAxis { opening with position := 119 }
     s.awake = true ∧ (s.axis .A).state ≠ .disabled ∧ (s.axis .A).state.moves = true ∧ (s.axis .A).mode = some .goto ∧
       (s.axis .A).target = some (.position 120) ∧ (s.axisCfg .A).kind = .hatch ∧ (s.axis .A).direction = some .plus ∧
       120 ≤ ((after (.travelPulse .A true) s).axis .A).position) ∧
    (let s := windlass { opening with position := 199 }
     s.awake = true ∧ (s.axis .A).state.moves = true ∧ (s.axisCfg .A).kind = .windlass ∧
       (s.axis .A).direction = some .plus ∧
       (s.axisCfg .A).travelMax ≤ ((after (.travelPulse .A true) s).axis .A).position) ∧
    (∀ p ∈ [120, 150],
      let s := windlass { opening with position := 119, target := some (.position p) }
      s.awake = true ∧ (s.axis .A).state = .running ∧ (s.axis .A).mode = some .goto ∧
        ((after (.travelPulse .A true) s).axis .A).position < (s.axisCfg .A).travelMax ∧
        ((p ≤ ((after (.travelPulse .A true) s).axis .A).position) ↔ p = 120)) ∧
    (∀ n ∈ [1, 2], (withAxis (reversing n)).awake = true ∧ ((withAxis (reversing n)).axis .A).state = .reversing) ∧
    (base.awake = true ∧ (base.axis .A).state.motorPowered = false) := by decide

/-- The hatch with its plus switch active. -/
def atPlus (r : AxisRecord) : State := { withAxis r with pins := { Pins.rest with plusA := true } }

theorem witness_EndSwitchesAct :
    (base.awake = true ∧ base.station ≠ .loading ∧ (base.axisCfg .A).kind = .hatch ∧
      (base.axis .A).state ≠ .disabled ∧ base.switchPin .A .minus = false) ∧
    (let s := atPlus opening
     s.awake = true ∧ s.switchPin .A .minus = false ∧ s.switchPin .A (Direction.reverse .minus) = true ∧
       (s.axis .A).state ≠ .fault) ∧
    (let s := atPlus { opening with direction := some .minus }
     s.awake = true ∧ s.switchPin .A .minus = false ∧ s.switchPin .A (Direction.reverse .minus) = true ∧
       (s.axis .A).direction = some .minus ∧ (s.axis .A).state.moves = true) ∧
    (let s := atPlus { still with state := .fault }
     s.awake = true ∧ s.switchPin .A (Direction.reverse .minus) = true ∧ (s.axis .A).state = .fault) ∧
    (let s := withAxis opening
     s.awake = true ∧ s.switchPin .A .plus = false ∧ s.switchPin .A (Direction.reverse .plus) = false ∧
       (s.axis .A).direction = some .plus ∧ (s.axis .A).state.moves = true) ∧
    (let s := withAxis (reversing 4)
     s.awake = true ∧ (s.axis .A).direction = some .plus ∧ (s.axis .A).state = .reversing) ∧
    (let s := windlass { opening with direction := some .minus }
     s.awake = true ∧ s.station ≠ .loading ∧ (s.axisCfg .A).kind = .windlass ∧ s.switchPin .A .minus = false ∧
       (s.axis .A).direction = some .minus ∧ (s.axis .A).state.moves = true) ∧
    (∀ p ∈ [0, 120],
      let s := withAxis { opening with target := some (.position p) }
      s.awake = true ∧ s.switchPin .A .minus = false ∧ s.switchPin .A (Direction.reverse .minus) = false ∧
        (s.axis .A).direction = some (Direction.reverse .minus) ∧ (s.axis .A).state = .running ∧
        (s.axis .A).mode = some .goto ∧ p ≤ (s.axisCfg .A).travelMax ∧
        Alarm.sendDrop.within (s.axisCfg .A).holdMask = false) := by decide

/-- Sense channel 1 in a state, with a bit count and a settle count. -/
def sensing (state : SenseState) (bits settle : Nat) : State :=
  { base with sense := base.sense.set 1 { SenseChannel.cold with state := state, bitCount := bits, settle := settle } }

/-- Sense channel 1 one bit before a sample of 1001, with an obstruction count. -/
def pressed (r : AxisRecord) (count : Nat) : State :=
  let ch := { SenseChannel.cold with state := .running, bitCount := 31, settle := 3, i3 := 1000, obstruction := count }
  { withAxis r with sense := base.sense.set 1 ch }

/-- The bit at whose sample channel 1 signals axis A. -/
def signal : Owed := .obstruction .A 1 true

theorem witness_BitsMakeSamples :
    (let s := sensing .running 30 3
     s.awake = true ∧ s.owed = [] ∧ s.sense[(1 : Fin 4)].state ≠ .off ∧ s.signalled 1 true = none ∧
       s.sense[(1 : Fin 4)].bitCount + 1 < s.cfg.sense[(1 : Fin 4)].ratio) ∧
    (let s := sensing .running 31 3
     s.awake = true ∧ s.cfg.sense[(1 : Fin 4)].ratio ≤ s.sense[(1 : Fin 4)].bitCount + 1 ∧
       s.sense[(1 : Fin 4)].state = .running ∧ s.signalled 1 true = none) ∧
    (∀ n ∈ [2, 3], (sensing .settling 31 n).awake = true ∧ (sensing .settling 31 n).signalled 1 true = none ∧
      (sensing .settling 31 n).sense[(1 : Fin 4)].state = .settling ∧
      (sensing .settling 31 n).sense[(1 : Fin 4)].settle = n) ∧
    (let s : State := { withAxis opening with sense := (sensing .settling 31 3).sense }
     s.awake = true ∧ s.owed = [] ∧ s.signalled 1 true = none ∧ s.sense[(1 : Fin 4)].settle = 3 ∧
       s.boundAxis 1 = some .A ∧ (s.axis .A).state.motorPowered = true) ∧
    (let s := pressed opening 1
     s.awake = true ∧ s.owed = [] ∧ s.signalled 1 true = none ∧ s.boundAxis 1 = some .A ∧
       (s.axis .A).state.motorPowered = true ∧
       ∀ ax ∈ [Axis.A, .B], Alarm.sendDrop.within (s.axisCfg ax).holdMask = false) ∧
    (let s := pressed opening 2
     s.awake = true ∧ s.owed = [] ∧ s.signalled 1 true = some .A) := by decide

theorem witness_ObstructionAndClipAreReported :
    (let s := owing (pressed opening 2) [signal]
     s.awake = true ∧ s.station ≠ .loading ∧ s.owed.find? (isSignal .A) = some (.obstruction .A 1 true) ∧
       s.signalled 1 true = some .A ∧ (s.axis .A).state.moves = true ∧ (s.axisCfg .A).kind = .hatch ∧
       (s.axisCfg .A).response = .stopBackOff ∧ 0 < (s.axisCfg .A).backOffDistance) ∧
    (let s := owing (pressed (reversing 9) 2) [signal]
     s.awake = true ∧ s.signalled 1 true = some .A ∧ (s.axis .A).state = .reversing) ∧
    (let s := owing (pressed { opening with state := .stopping } 2) [signal]
     s.awake = true ∧ s.signalled 1 true = some .A ∧ (s.axis .A).state = .stopping ∧ s.room 2 = true ∧
       s.cfg.reportMask = 0 ∧ (freeSlot s.pool).isSome = true) ∧
    (let s := owing (pressed still 2) [signal]
     s.awake = true ∧ s.owed.find? (isSignal .A) = some (.obstruction .A 1 true) ∧ s.boundAxis 1 = some .A ∧
       (s.axis .A).state.motorPowered = false) ∧
    Owed.clip 1 ∈ (owing base [.clip 1]).owed ∧ base.alarmSet (.clip 1) = false ∧ base.room 1 = true ∧
    (∀ ax ∈ [Axis.A, .B], (Alarm.clip 1).within (base.axisCfg ax).holdMask = false) ∧
    (let s : State := { base with safety := { base.safety with alarms := (Alarm.clip 1).mask } }
     s.awake = true ∧ s.alarmSet (.clip 1) = true) := by decide

/-! ## States that meet the hypotheses: requests -/

/-- A frame waiting for the decoder, and a key's request before it. -/
def entry : IntakeEntry := { cls := 3, source := 40, dest := 69, kind := 1, payload := [2] }

theorem witness_DecoderTakesTheNextRequest :
    (let s : State := { base with cmd := { base.cmd with
       keys := base.cmd.keys.set 3 { KeyRecord.cold with pending := some (.stop 0) }, intake := [entry] } }
     s.awake = true ∧ s.cmd.decoder = none ∧ s.cmd.keys[(3 : Fin 8)].pending = some (.stop 0) ∧
       ∀ j : Fin 8, j < 3 → s.cmd.keys[j].pending = none) ∧
    (let s : State := { base with cmd := { base.cmd with intake := [entry] } }
     s.awake = true ∧ s.cmd.decoder = none ∧ (∀ j : Fin 8, s.cmd.keys[j].pending = none) ∧ s.cmd.intake = [entry]) := by
  decide

theorem witness_GotoStartsTheAxis :
    let s := asking base (fromPeer 40 1 1 [0, 1, 0, 0])
    s.flies (fromPeer 40 1 1 [0, 1, 0, 0]) ∧ s.awake = true ∧ s.room 2 = true ∧ Axis.B ≠ .A ∧ s.motionHeld = false ∧
      (s.axis .A).state = .stopped ∧ (s.axisCfg .A).kind = .hatch ∧ (s.axisCfg .A).rampUp ≠ 0 ∧
      freeSlot s.pool = some 0 ∧ s.switchPin .A .plus = false ∧ (s.axisSafety .A).permitted .plus = true :=
  ⟨asking_flies _ _, asked _, by decide, by decide, rfl, rfl, rfl, by decide, by decide, rfl, rfl⟩

/-- B.5: all slots busy with LIGHT fades; slots 5 and 11 have 2 periods left, and L8 is the member of slot 5. -/
def crowded : State :=
  let pool := Vector.replicate 16 (some { owner := .light, length := 90, elapsed := 0, members := 1 })
  { base with
    pool := (pool.set 5 (some { owner := .light, length := 40, elapsed := 38, members := 1 })).set 11
      (some { owner := .light, length := 100, elapsed := 98, members := 1 }),
    light := { base.light with
      channels := base.light.channels.set 8 { Channel.cold with level := 1900, fade := some ⟨0, 2000, 5⟩ } } }

/-- The outputs of the crowded station. -/
def crowdedNow : State := crowded.publish

theorem witness_GotoStartsTheAxis_seizes :
    let s := asking crowdedNow (fromPeer 40 1 1 [0, 1, 0, 0])
    s.flies (fromPeer 40 1 1 [0, 1, 0, 0]) ∧ s.awake = true ∧ s.room 2 = true ∧ freeSlot s.pool = none ∧
      s.station ≠ .loading ∧ s.cfg.reportMask = 0 ∧
      (∀ ax ∈ [Axis.A, .B], Alarm.rampShort.within (s.axisCfg ax).holdMask = false) ∧
      (s.pool[(5 : Fin 16)]).map (fun x => (x.owner, x.length - x.elapsed)) = some (.light, 2) ∧
      ∀ j : Fin 16, (s.pool[j]).all (fun x => decide (2 < x.length - x.elapsed) ||
        (decide (2 = x.length - x.elapsed) && decide ((5 : Fin 16) ≤ j))) = true :=
  ⟨asking_flies _ _, (asking_awake _ _).trans (by decide : crowdedNow.awake = true), by decide⟩

/-- A GOTO of the hatch to a position, with a token. -/
def gotoTo (position token : Byte) : Request := fromPeer 40 1 1 [0, 0x80, 0, position, token]

theorem witness_GotoIsRefusedInOrder :
    (let s := asking base (gotoTo 100 0)
     s.flies (gotoTo 100 0) ∧ s.awake = true ∧ s.room 1 = true ∧ (s.axisCfg .A).kind ≠ .none ∧ s.motionHeld = false ∧
       (0 : Byte) = (s.axis .A).token ∧ (1 : Byte) ≠ (s.axis .A).token ∧ (s.axis .A).state = .stopped ∧
       (s.axis .A).referenced = true ∧ min 100 (s.axisCfg .A).travelMax = (s.axis .A).position) ∧
    (asking heldOff (gotoTo 100 0)).motionHeld = true ∧ (asking heldOff (gotoTo 100 0)).awake = true ∧
    (asking (withAxis opening) (gotoTo 100 0)).awake = true ∧
    ((withAxis opening).axis .A).state.motorPowered = true ∧
    (∀ r ∈ [{ still with state := .fault }, { still with referenced := false }],
      (asking (withAxis r) (gotoTo 100 0)).awake = true) ∧
    (let w := withAxis { still with state := .held }
     let s : State := { w with
       safety := { w.safety with alarms := 1, a := { w.safety.a with held := true } },
       cfg := { conf with axisA := { hatch with holdMask := 1 } } }
     s.awake = true ∧ s.motionHeld = false ∧ (s.axis .A).state = .held) ∧
    (let s := withAxis still
     let t : State := { s with safety := { s.safety with a := { s.safety.a with plus := false } } }
     t.awake = true ∧ (t.axis .A).position < min 200 (t.axisCfg .A).travelMax ∧ t.switchRead .A .plus = false ∧
       (t.axisSafety .A).plus = false) := by
  refine ⟨⟨asking_flies _ _, asked _, by decide, by decide, rfl, rfl, by decide, rfl, rfl, by decide⟩, by decide, by decide,
    (asking_awake _ _).trans opening_awake, rfl, ?_, by decide, by decide⟩
  intro r h
  rw [asking_awake]
  fin_cases h <;> decide

theorem witness_JogHoldsALease :
    (let s := asking (withAxis jogging) (fromPeer 40 1 2 [0, 1])
     s.flies (fromPeer 40 1 2 [0, 1]) ∧ s.awake = true ∧ s.motionHeld = false ∧ (s.axisCfg .A).kind ≠ .none ∧
       s.room 1 = true ∧ (s.axis .A).state.moves = true ∧ (s.axis .A).mode = some .jog ∧
       (s.axis .A).direction = some .minus ∧ (s.axis .A).lease = some { holder := .peer 40, remaining := 1 }) ∧
    (let s := asking (withAxis opening) (fromPeer 40 1 2 [0, 1])
     s.awake = true ∧ (s.axis .A).state.motorPowered = true ∧ (s.axis .A).mode ≠ some .jog) ∧
    ((withAxis jogging).axis .A).direction ≠ some .plus ∧ ((withAxis jogging).axis .A).state.motorPowered = true ∧
    ((withAxis { jogging with state := .stopping, lease := none }).awake = true ∧
      ((withAxis { jogging with state := .stopping, lease := none }).axis .A).state.moves = false) ∧
    (let s := asking base (fromPeer 40 1 2 [0, 1])
     s.awake = true ∧ s.room 2 = true ∧ (s.axis .A).state = .stopped ∧ s.switchPin .A .minus = false ∧
       (s.axisSafety .A).permitted .minus = true ∧ (s.axisCfg .A).rampUp ≠ 0 ∧ (freeSlot s.pool).isSome = true) ∧
    (base.axis .A).leasedTo .key .minus = false ∧
    (let s := asking (withAxis { jogging with lease := some { holder := .key, remaining := 1 } })
       (keyRequest (.jogRelease 0 1))
     s.flies (keyRequest (.jogRelease 0 1)) ∧ s.awake = true ∧ (s.axis .A).leasedTo .key .minus = true ∧
       (s.axis .A).state.moves = true ∧ (s.axisCfg .A).rampDown ≠ 0) := by
  refine ⟨⟨asking_flies _ _, (asking_awake _ _).trans jogging_awake, rfl, by decide, by decide, rfl, rfl, rfl, rfl⟩,
    ⟨(asking_awake _ _).trans opening_awake, rfl, by decide⟩, by decide, rfl, by decide,
    ⟨asked _, by decide, rfl, rfl, rfl, by decide, by decide⟩, rfl, ⟨asking_flies _ _, by decide, rfl, rfl, by decide⟩⟩

theorem witness_StopStopsTheAxis :
    (let s := asking base (fromPeer 40 1 3 [0])
     s.flies (fromPeer 40 1 3 [0]) ∧ s.awake = true ∧ (s.axisCfg .A).kind ≠ .none ∧ s.room 2 = true ∧
       (s.axis .A).state.motorPowered = false) ∧
    (let s := asking (withAxis opening) (fromPeer 40 1 3 [0])
     s.awake = true ∧ (s.axis .A).state.moves = true ∧ (s.axisCfg .A).rampDown ≠ 0 ∧
       (freeSlot s.pool).isSome = true ∧ s.room 2 = true) ∧
    (let s := asking (withAxis (reversing 9)) (fromPeer 40 1 3 [0])
     s.awake = true ∧ s.room 2 = true ∧ (s.axis .A).state = .reversing) :=
  ⟨⟨asking_flies _ _, asked _, by decide, by decide, rfl⟩,
    ⟨(asking_awake _ _).trans opening_awake, rfl, by decide, by decide, by decide⟩, ⟨by decide, by decide, rfl⟩⟩

theorem witness_AxesAndChannelsAreSetAtRest :
    (∀ r, (asking base r).flies r ∧ (asking base r).awake = true ∧ (asking base r).room 2 = true ∧
      (asking base r).motionHeld = false ∧ ((asking base r).axisCfg .A).kind ≠ .none) ∧
    (∀ r ∈ [{ still with state := .fault }, { still with state := .held }, opening],
      (withAxis r).motionHeld = false) ∧
    (withAxis { still with state := .fault }).awake = true ∧
    (withAxis { still with state := .fault }).inConflict .A = false ∧
    (let s : State := { withAxis { still with state := .fault } with
       pins := { Pins.rest with plusA := true, minusA := true } }
     s.awake = true ∧ s.inConflict .A = true) ∧
    (∀ state ∈ [SenseState.settling, .running],
      (sensing state 0 0).awake = true ∧ (sensing state 0 0).cfg.sense[(1 : Fin 4)].enabled = true ∧
        (sensing state 0 0).frozen 1 = false) ∧
    (let s : State := { withAxis opening with sense := (sensing .running 0 0).sense }
     s.awake = true ∧ s.frozen 1 = true) :=
  ⟨fun r => ⟨asking_flies _ _, asked r, (by decide : base.room 2 = true), rfl,
      (by decide : (base.axisCfg .A).kind ≠ .none)⟩, by decide,
    by decide, by decide, by decide, by decide, by decide⟩

theorem witness_LightSettingsAreTaken :
    (∀ r, (asking base r).flies r ∧ (asking base r).awake = true ∧ (asking base r).room 1 = true ∧
      (asking base r).lightingHeld = false ∧ (asking base r).light.stepping = false ∧
      (asking base r).light.region = none ∧ Owed.runStep ∉ (asking base r).owed ∧
      (asking base r).cfg.alertScene ≠ some 7) ∧
    (23 : Byte).toNat < 24 ∧ (4 : Byte).toNat + (6 : Byte).toNat + (14 : Byte).toNat = 24 ∧ 2 ≤ (6 : Byte).toNat ∧
    (running.awake = true ∧ running.light.stepping = true ∧ running.light.region = some ⟨4, 6, 14, 25⟩) ∧
    (let s : State := { base with cfg := { conf with alertScene := some 7 } }
     s.awake = true ∧ s.cfg.alertScene = some 7) :=
  ⟨fun r => ⟨asking_flies _ _, asked r, (by decide : base.room 1 = true), rfl, rfl, rfl,
      (by decide : Owed.runStep ∉ base.owed), (by decide : base.cfg.alertScene ≠ some 7)⟩,
    by decide, by decide, by decide, by decide, by decide⟩

theorem witness_LevelsAndScenesAreGiven :
    (∀ r, (asking base r).flies r ∧ (asking base r).awake = true ∧ (asking base r).room 1 = true ∧
      (asking base r).lightingHeld = false ∧ (asking base r).light.channels[(23 : Fin 24)].fade = none ∧
      freeSlot (asking base r).pool = some 0 ∧ (asking base r).light.scenes[(7 : Fin 8)].fadeTime = 0) ∧
    1 ≤ (255 : Byte).toNat ∧
    (∀ r, (asking crowdedNow r).awake = true ∧ freeSlot (asking crowdedNow r).pool = none) ∧
    (crowdedNow.light.channels[(23 : Fin 24)].fade = none ∧ crowdedNow.cfg.reportMask = 0 ∧
      ∀ ax ∈ [Axis.A, .B], Alarm.rampShort.within (crowdedNow.axisCfg ax).holdMask = false ∧
        Alarm.lateRun.within (crowdedNow.axisCfg ax).holdMask = false) ∧
    (base.time.schedule.length < 16 ∧ ((1 : Byte) - base.pLow).toNat = 1 ∧ ((127 : Byte) - base.pLow).toNat = 127 ∧
      ((128 : Byte) - base.pLow).toNat = 128 ∧ ((247 : Byte) - base.pLow).toNat = 247 ∧
      ((248 : Byte) - base.pLow).toNat = 248) ∧
    (let s : State := { base with time := { base.time with
       schedule := List.replicate 16 ⟨.runStop, .peer 40, .station, 8, 0⟩ } }
     s.awake = true ∧ 16 ≤ s.time.schedule.length) :=
  ⟨fun r => ⟨asking_flies _ _, asked r, (by decide : base.room 1 = true), rfl, rfl, rfl, rfl⟩, by decide,
    fun r => ⟨(asking_awake _ _).trans (by decide : crowdedNow.awake = true), rfl⟩, by decide, by decide, by decide⟩

/-- A window of peer 40 on scene 2, from L3 to L5, at L5. -/
def window : Window := { owner := 40, scene := 2, first := 3, last := 5, pointer := 5 }

theorem witness_TheWindowWritesScenes :
    (∀ r, (asking base r).flies r ∧ (asking base r).awake = true ∧ (asking base r).room 1 = true ∧
      (asking base r).cfg.alertScene ≠ some 2 ∧ (asking base r).cmd.window = none) ∧
    (3 : Byte).toNat ≤ (23 : Byte).toNat ∧
    (let s : State := { base with cmd := { base.cmd with window := some window } }
     s.awake = true ∧ s.cmd.window = some window ∧ window.owner = 40 ∧ window.owner ≠ 9 ∧
       window.pointer = Fin.val (n := 24) 5) ∧
    (let s : State := { base with cfg := { conf with alertScene := some 2 } }
     s.awake = true ∧ s.cfg.alertScene = some 2) :=
  ⟨fun r => ⟨asking_flies _ _, asked r, (by decide : base.room 1 = true),
      (by decide : base.cfg.alertScene ≠ some 2), rfl⟩, by decide,
    ⟨(awake_congr (s := base) rfl rfl rfl rfl rfl rfl rfl rfl rfl rfl rfl rfl rfl).trans base_awake, rfl, rfl, by decide, rfl⟩,
    by decide, rfl⟩

/-- The station with alarms set. -/
def alarmed (alarms : BitVec 23) : State := { base with safety := { base.safety with alarms := alarms, count := 71 } }

theorem witness_AlarmsAndMapAreCleared :
    (∀ r, (asking base r).flies r ∧ (asking base r).awake = true ∧ (asking base r).room 1 = true) ∧
    ((127 : Byte).toNat < 128 ∧ (70 : Byte) ≠ (alarmed 0).safety.count ∧ (alarmed 0).awake = true ∧
      (alarmed 1).safety.alarms &&& 2#23 = 0) ∧
    (let s := alarmed (Alarm.interlock .A).mask
     s.awake = true ∧ s.alarmSet (.interlock .A) = true ∧ (s.clearAndSetAgain s.safety.alarms).heldAgain = false ∧
       (Alarm.interlock .A).within (s.axisCfg .A).holdMask = false ∧
       (Alarm.interlock .A).within (s.axisCfg .B).holdMask = false) ∧
    (let w := alarmed 1
     let s : State := { w with
       line := { w.line with allstop := true, dominantCount := 40 },
       safety := { w.safety with a := { w.safety.a with held := true }, b := { w.safety.b with held := true } } }
     s.awake = true ∧ s.alarmSet .allstopSeen = true ∧ s.line.allstop = true ∧ s.cfg.reportMask = 0 ∧
       s.room 2 = true ∧ s.lasts .allstopSeen = true ∧
       (let u : State := { s with cfg := { s.cfg with reportMask := 1 } }
        u.awake = true ∧ Alarm.allstopSeen.within u.cfg.reportMask = true)) :=
  ⟨fun r => ⟨asking_flies _ _, asked r, (by decide : base.room 1 = true)⟩, by decide, by decide, by decide⟩

theorem witness_RestartKeepsAndEmpties :
    (let s := asking (ramping .starting 80 4) (fromPeer 40 3 13 [])
     s.inReset = false ∧ s.flies (fromPeer 40 3 13 []) ∧
       ((s.endDecode (fromPeer 40 3 13 [])).softRestart).heldAgain = false) ∧
    (let s := asking (queueing base [{ frameOf 3 with onLine := true }, frameOf 5]) (fromPeer 40 3 13 [])
     s.awake = true ∧ s.sends = true ∧ s.cfg.reportMask = 0 ∧ (s.line.queue.filter SendFrame.onLine).length ≤ 1 ∧
       ∀ f ∈ s.line.queue, f.onLine = true → f.cls ≠ 5) :=
  ⟨⟨rfl, asking_flies _ _, by decide⟩, by decide⟩

theorem witness_ReadsAnswerWithTheirParts :
    (∀ r, (asking base r).flies r ∧ (asking base r).awake = true ∧ (asking base r).room 1 = true) ∧
    ((base.axisCfg .A).kind ≠ .none ∧ base.cfg.sense[(1 : Fin 4)].enabled = true ∧ 62 < (63 : Byte).toNat ∧
      (62 : Byte).toNat ≤ 62 ∧ ∀ e ∈ base.peer.table, e.address ≠ (62 : Byte).toNat) ∧
    (let s : State := { base with peer := { base.peer with table := [fresh19 400] } }
     s.awake = true ∧ s.peer.table.find? (fun e => e.address == (19 : Byte).toNat) = some (fresh19 400) ∧
       (fresh19 400).content = some (storedContent heard19)) :=
  ⟨fun r => ⟨asking_flies _ _, asked r, (by decide : base.room 1 = true)⟩, by decide, by decide⟩

theorem witness_RepliesAndUnknownKindsDoNothing :
    (∀ r, (asking base r).flies r ∧ (asking base r).awake = true ∧ (asking base r).room 1 = true) ∧ 6 < 7 ∧ 14 < 15 ∧
      2 < 3 :=
  ⟨fun r => ⟨asking_flies _ _, asked r, (by decide : base.room 1 = true)⟩, by decide, by decide, by decide⟩

/-- The composition example of 05: night on, a shed level of 1 made by station 19, s = 2. -/
def composed : State :=
  let c (level : Nat) (enabled : Bool) : Channel := { Channel.cold with level := level, enabled := enabled }
  let ch := (((LightUnit.cold.channels.set 2 (c 3500 true)).set 4 (c 4000 true)).set 5 (c 3000 true)).set 6 (c 2000 true)
  let s : State := { base with
    light := { base.light with
      channels := ((ch.set 7 (c 1000 true)).set 8 (c 500 true)).set 9 (c 0 false),
      night := { on := true, first := 20, last := 5, cap := 800 }, region := some ⟨4, 6, 14, 25⟩, stepping := true,
      offset := 2 },
    peer := { base.peer with table := [
      { fresh19 0 with content := some { storedContent heard19 with demand := 1 } }] } }
  s.publish

theorem witness_OutputsFollowTheLevels : composed.calm = true ∧ composed.published = true := by decide

theorem witness_BeaconOffsetFollowsTheTable :
    (998 ≤ 999 ∧ 3 ≤ 999) ∧ (0 : BitVec 16) = 65535 + 1 ∧ (65534 : BitVec 16) = 65535 - 1 ∧
      beaconDelta { p := 65535, phi := 998, age := 0 } 0 3 = some 5 := by decide

/-! ## Single commands, with values from the spec's examples -/

/-- The payload of the newest frame in the send queue. -/
def newest (s : State) : Option (List Byte) := s.line.queue.getLast?.bind SendFrame.payload

/-- The station after the decode completion of a peer's request. -/
def answer (s : State) (c : Instr) (a cls kind : Nat) (payload : List Byte) : State :=
  after c (asking s (fromPeer a cls kind payload))

/-- Strap number 0: LISTEN-ONLY, with no address (R185). -/
theorem test_hardReset_listenOnly :
    (after (.hardReset 0) base).station = .listenOnly ∧ (after (.hardReset 0) base).loader.address = none := by decide
/-- Strap number 27: LOADING at address 27 (R185). -/
theorem test_hardReset_loading :
    (after (.hardReset 27) base).station = .loading ∧ (after (.hardReset 27) base).loader.address = some 27 := by decide
theorem test_heldInReset_outputs :
    (after .heldInReset (withAxis opening)).dutyPin .A = 0 ∧ (after .heldInReset base).inReset = true := by decide
theorem test_attemptFail_second : (after .attemptFail State.reset).loader.attempt = 2 := by decide
/-- After three failed attempts the station is UNCONFIGURED, with CONFIG_BAD set and the change count at 0 (R187, R182). -/
theorem test_attemptFail_third :
    let t := after .attemptFail (staged [] 3)
    t.station = .unconfigured ∧ t.safety.alarms = 1024#23 ∧ t.safety.count = 0 := by decide
theorem test_imageJudged_part : (after (.imageJudged [0xD2, 0x4C]) State.reset).loader.staging = [0xD2, 0x4C] := by decide

/-- The alignment figures' first row: with c = 30 the next period lasts 999 units; P counts modulo 65536 (R25, R26). -/
theorem test_periodBoundary_slews :
    let s : State := { base with time := { base.time with p := 65535, slew := 30, lock := .slewing } }
    let t := after (.periodBoundary 0xFF {}) s
    t.time.p = 0 ∧ t.time.periodLength = 999 ∧ t.time.slew = 29 := by decide
/-- B.2: the duties of the ramp down from 700 over 6 periods. -/
theorem test_interpolate_hatch :
    [1, 2, 3, 4, 5, 6].map (fun n => interpolate 700 0 n 6) = [584, 467, 350, 234, 117, 0] := by decide
/-- The light fade figures of 06. -/
theorem test_interpolate_fades :
    [1, 2, 3].map (fun n => interpolate 1000 3000 n 3) = [1666, 2333, 3000] ∧
      [1, 2, 3].map (fun n => interpolate 3000 1000 n 3) = [2334, 1667, 1000] ∧
      [1, 2, 50].map (fun n => interpolate 0 4095 n 50) = [81, 163, 4095] := by decide
/-- B.2: the hatch's ramp down completes; the fade of 200 periods beside it goes to its step 81. -/
theorem test_rampCompletion_hatch :
    let t := after (.rampCompletion 1) (owing (ramping .stopping 80 5) [.slotStep 0, .slotStep 1])
    (t.axis .A).state = .stopped ∧ (t.axis .A).token = 1 ∧ t.dutyPin .A = 0 ∧ t.pool[(1 : Fin 16)] = none ∧
      t.light.channels[(0 : Fin 24)].level = 1215 := by decide
/-- Where a slot completes at a boundary, the stepping of all slots is RAMP_COMPLETION's (R110). -/
theorem test_periodBoundary_owes_the_stepping :
    let t := after (.periodBoundary 0xFF {}) (ramping .stopping 80 5)
    t.owed = [.slotStep 0, .slotStep 1] ∧ t.dutyPin .A = 700 ∧ t.light.channels[(0 : Fin 24)].level = 0 := by
  decide
/-- Where commands of the instant are to come before the stepping, RAMP_COMPLETION takes it too, and a slot given at the instant
does not step (R110). -/
theorem test_periodBoundary_leaves_the_stepping :
    let t := after (.periodBoundary 0xFF { given := [1], stepsLater := true }) (ramping .stopping 80 0)
    t.owed = [.slotStep 0] ∧ t.light.channels[(0 : Fin 24)].level = 0 ∧ t.dutyPin .A = 700 := by decide
/-- Before the stepping of a boundary, of slot 2 with 2 periods left and slot 7 with 1 a motor seizes slot 7 (R110, R113). -/
theorem test_seizedSlot_before_the_stepping :
    let light (n : Nat) : Option Slot := some { owner := .light, length := 90, elapsed := n, members := 1 }
    seizedSlot (((Vector.replicate 16 none).set 2 (light 88)).set 7 (light 89)) = some 7 := by decide
/-- The election example: station 5 enters TIMEKEEPER with reference none and lock state FREE. -/
theorem test_silenceTimerExpiry :
    let s := owing { base with time := { base.time with
      engine := .standby, silenceTimer := 1, lock := .locked, reference := some 40 } } [.silenceTimerExpiry]
    let t := after .silenceTimerExpiry s
    t.time.engine = .timekeeper ∧ t.time.reference = none ∧ t.time.lock = .free := by decide
theorem test_beaconOffer : (after .beaconOffer (owing keeper [.beaconOffer])).line.queue = [beaconFrame] := by decide
theorem test_referenceLost :
    let s := owing { base with time := { base.time with
      reference := some 9, referenceAge := 24, slew := 12, lock := .slewing } } [.referenceLost]
    let t := after .referenceLost s
    t.time.reference = none ∧ t.time.slew = 0 ∧ t.time.lock = .free := by decide
theorem test_scheduleDueRun_leaves : (after .scheduleDueRun scheduled).time.schedule = [] := by decide
theorem test_announceExpiry :
    let t := after .announceExpiry (owing { base with peer := { base.peer with counter := 1 } } [.announceExpiry])
    t.peer.counter = 100 ∧ t.line.queue = [announceFrame] := by decide
/-- B.2: at the boundary that takes the age from 400 to 401 the entry of station 19 lapses. -/
theorem test_freshnessLapse :
    let s := owing { base with peer := { base.peer with table := [fresh19 400] } } [.freshnessLapse 19]
    (after (.freshnessLapse 19) s).peer.table.map (fun e => (e.age, e.fresh)) = [(401, false)] := by decide
/-- The composition example's outputs. -/
theorem test_composition :
    [4, 5, 6, 7, 8, 9, 2].map (fun i : Fin 24 => composed.light.outputs[i]) = [2000, 1000, 500, 0, 800, 0, 3072] := by
  decide
/-- The composition example's next step: L4 shows L7, L8 shows L5 capped to 800. -/
theorem test_runStep_composition :
    let s := owing { composed with light := { composed.light with stepCount := 24 } } [.runStep]
    let t := after .runStep s
    t.light.offset = 3 ∧ t.light.outputs[(4 : Fin 24)] = 1000 ∧ t.light.outputs[(8 : Fin 24)] = 800 := by decide
theorem test_keyDebounceEstablish :
    (after (.keyDebounceEstablish 0) (keyed none .released 1 0xFF (.keyEstablish 0))).cmd.keys[(0 : Fin 8)] =
      ⟨some .released, some .released, 0, none⟩ := by decide
theorem test_keyPress_scene :
    let s := keyed (some .released) .pressed 2 0xFE (.keyPress 0)
    let s := { s with cfg := { s.cfg with keys := s.cfg.keys.set 0 (.sceneLocal 5) } }
    (after (.keyPress 0) s).cmd.keys[(0 : Fin 8)] = ⟨some .pressed, some .pressed, 0, some (.recall 5)⟩ := by decide
theorem test_keyRelease_jog :
    let s := keyed (some .pressed) .released 2 0xFF (.keyRelease 0)
    let s := { s with cfg := { s.cfg with keys := s.cfg.keys.set 0 (.jog 0 1) } }
    (after (.keyRelease 0) s).cmd.keys[(0 : Fin 8)].pending = some (.jogRelease 0 1) := by decide
theorem test_leaseEnd :
    let t := after (.leaseEnd .A) (owing (withAxis jogging) [.leaseEnd .A])
    (t.axis .A).state = .stopping ∧ (t.axis .A).reason = .leaseEnd ∧ (t.axis .A).lease = none := by decide
theorem test_stall :
    let t := after (.stall .A) (owing (withAxis { opening with stallCount := 4 }) [.stall .A])
    (t.axis .A).state = .fault ∧ (t.axis .A).reason = .stall ∧ t.alarmSet (.stall .A) = true := by decide
theorem test_blankingEnd :
    ((after (.blankingEnd .A) (owing (withAxis { opening with blanking := 1 }) [.blankingEnd .A])).axis .A).blanking = 0 := by
  decide
/-- B.4, boundary 7384: the hold disappears and the axis is STOPPED, its token stepped. -/
theorem test_holdOffEnd :
    let t := after .holdOffEnd (owing heldOff [.holdOffEnd])
    (t.axis .A).state = .stopped ∧ (t.axis .A).token = 1 := by decide

/-- R181: the hold-off's last decrement at the instant of an ALLSTOP entry; the axis stays HELD, its token unstepped. -/
theorem test_holdOffEnd_under_allstop :
    let s := owing heldOff [.holdOffEnd]
    let t := after .holdOffEnd { s with line := { s.line with dominantCount := 40 } }
    (t.axis .A).state = .held ∧ (t.axis .A).token = 0 ∧ t.line.allstop = true := by decide

/-- R181: the hold-off's end and an alarm of the hold mask at one boundary: whichever comes first, no change of hold is
reported, and the axis stays HELD with its token. -/
theorem test_holdOffEnd_with_silentEntry :
    let t := after .holdOffEnd silentToo
    let u := after .holdOffEnd (after .silentEntry silentToo)
    (t.axis .A).state = .held ∧ (t.axis .A).token = 0 ∧ t.alarmSet .silentSeen = true ∧ t.owed = [] ∧
      (u.axis .A).state = .held ∧ (u.axis .A).token = 0 := by decide

/-- R181, R18: the hold-off's end, and the emergency stop that a sample of the boundary shows. -/
theorem test_holdOffEnd_with_estop :
    let t := after .holdOffEnd estopToo
    let u := after .estopAssert t
    (t.axis .A).state = .held ∧ (u.axis .A).state = .held ∧ (u.axis .A).token = 0 ∧ u.line.estop = true := by decide

set_option maxRecDepth 20000 in
/-- R181, R129: the hold-off's end, and the CLIP that the owed bit brings, in the hold mask of axis A. -/
theorem test_holdOffEnd_with_owed_clip :
    let w := owing heldOff [.obstruction .A 1 true, .holdOffEnd]
    let ch := { SenseChannel.cold with state := .running, bitCount := 3, settle := 3, runLength := 255, lastBit := true }
    let t := after .holdOffEnd { w with
      cfg := { w.cfg with axisA := { w.cfg.axisA with holdMask := (Alarm.clip 1).mask } }, sense := w.sense.set 1 ch }
    (t.axis .A).state = .held ∧ (t.axis .A).token = 0 ∧ t.alarmSet (.clip 1) = true := by decide

/-! ### The line -/

/-- A station at an address, its frame on the line, that has sent the start bit. -/
def contender (address cls : Nat) : State :=
  { base with
    loader := { base.loader with address := some address },
    line := { base.line with
      queue := [{ cls := cls, kind := 1, dest := 69, payload := some [2], onLine := true }], own := .contending,
      place := .inFrame, bits := [false] } }

theorem test_frameBegin :
    let t := after (.frameBegin []) (idle [frameOf 5, frameOf 3])
    t.line.own = .contending ∧ t.line.queue = [frameOf 5, { frameOf 3 with onLine := true }] ∧ t.lineDrive = true := by
  decide
set_option maxRecDepth 20000 in
/-- Three stations at one idle: station 12 loses at the first class bit and station 20 at the second source bit; both keep
their frames. -/
theorem test_contentionLost :
    (after (.contentionLost [false]) (contender 12 4)).line.own = .none ∧
    (after (.contentionLost [false, true, true, false, false]) (contender 20 3)).line.own = .none ∧
    (after (.contentionLost [false]) (contender 12 4)).line.queue.map SendFrame.onLine = [false] := by decide
set_option maxRecDepth 20000 in
/-- The same idle: station 9 wins at the last bit of its source, 001001. -/
theorem test_contentionWon :
    (after (.contentionWon [false, true, true, false, false, true, false, false, true]) (contender 9 3)).line.own =
      .sending := by decide
set_option maxRecDepth 20000 in
/-- A recessive bit read where a dominant one was sent is an error at once; read dominant, it waits (R8). -/
theorem test_bitError :
    (after (.bitError [true]) (contender 9 3)).line.budget = 15 ∧
    (after (.bitError [false]) (sentBits outcome40 .sending 11)).line.errorOwed = true := by decide
set_option maxRecDepth 20000 in
theorem test_headerEndLatch :
    let s := sentBits (frameOf 2) .none 26
    let s := { s with time := { s.time with p := 1007, elapsed := 600 } }
    (after (.headerEndLatch [false]) s).time.latch = some { p := 1007, phi := 600, age := 0 } := by decide
set_option maxRecDepth 20000 in
theorem test_senderEntersSlot :
    (after (.senderEntersSlot []) (sentBits outcome40 .sending 200)).line.own = .slot := by decide
theorem test_slotEnd :
    let s := sentBits outcome40 .slot 0
    let t := after (.slotEnd false) { s with line := { s.line with place := .slot, budget := 3 } }
    t.line.queue = [frameOf 6] ∧ t.line.budget = 4 ∧ t.line.own = .none := by decide
theorem test_startBitRead :
    (after (.startBitRead [false]) (idle [])).line.bits = [false] ∧ (after (.startBitRead [false]) base).line.bits = [] := by
  decide
set_option maxRecDepth 20000 in
theorem test_frameReceiveIntact :
    let t := after (.frameReceiveIntact []) (received (from40 1 3 [0]).lineBits)
    t.cmd.intake = [{ cls := 1, source := 40, dest := 27, kind := 3, payload := [0] }] ∧ t.line.ackDrive = true := by decide
set_option maxRecDepth 20000 in
/-- Eight equal bits are a coding error; on a recessive bit it is counted at once (R2, R10). -/
theorem test_receiveError :
    (after (.receiveError (List.replicate 8 true)) (received [false])).line.budget = 15 ∧
    (after (.receiveError (List.replicate 7 false)) (received [false])).line.errorOwed = true := by decide
set_option maxRecDepth 20000 in
theorem test_invalidSourceDiscard :
    let t := after (.invalidSourceDiscard []) (received ({ from40 3 6 [] with source := 63 } : Frame).lineBits)
    t.line.place = .slot ∧ t.line.ackDrive = false ∧ t.line.budget = 16 := by decide
theorem test_deferredErrorCount :
    let s : State := { base with line := { base.line with errorOwed := true } }
    (after (.deferredErrorCount [false, true]) s).line.budget = 15 := by decide
/-- B.1: latched at (1007, 600), a beacon (1010, 21) treated 38 phase units later gives (1010, 59); REALIGNED. -/
theorem test_beaconReceive_realigns :
    let s := owing { base with time := { base.time with reference := some 9, p := 1007 } } [.beacon 3 1010 21 ⟨1007, 600, 38⟩]
    let t := after .beaconReceive s
    t.time.p = 1010 ∧ t.phi = 59 ∧ t.time.reference = some 3 ∧ t.alarmSet .realigned = true := by decide
/-- The alignment figures: (5000, 990) and (5001, 5) give c = 15. -/
theorem test_beaconReceive_slews :
    let s := owing { base with time := { base.time with p := 5000 } } [.beacon 3 5001 5 ⟨5000, 990, 38⟩]
    (after .beaconReceive s).time.slew = 15 ∧ (after .beaconReceive s).time.lock = .slewing := by decide
/-- The shed level example: the swim platform demands 1. -/
theorem test_announceReceive :
    let s : State := owing { base with cfg := { conf with powerGroup := 2 } } [.announce 19 [1, 0x12, 0, 100, 3, 0, 0, 0]]
    let t := after .announceReceive s
    t.peer.shed = 1 ∧ t.peer.table.map PeerEntry.address = [19] := by decide

/-- An unpinned entry of an age. -/
def aged (address age : Nat) : PeerEntry := { fresh19 age with address := address, pinned := false }

/-- The eviction example: of 12 and 55, both at age 900, the lower address leaves; 41 is older but pinned. -/
theorem test_eviction :
    let full := [aged 12 900, aged 55 900, aged 17 612, { fresh19 3000 with address := 41 }] ++ List.replicate 28 (aged 20 5)
    ((makeRoom full).map PeerEntry.address).take 3 = [55, 17, 41] ∧ (makeRoom full).length = 31 := by decide
theorem test_silentEntry :
    let s := owing { base with line := { base.line with silence := 49 } } [.silentEntry]
    (after .silentEntry s).line.silent = true ∧ (after .silentEntry s).alarmSet .silentSeen = true := by decide

/-- Station 33 of B.4: the ALLSTOP row recalls the alert scene 7, with L0 at 4095. -/
def saloon : State :=
  let lights := LightUnit.cold
  { base with
    cfg := { conf with
      alertScene := some 7, trigger := { conf.trigger with allstop := ⟨.stopRamp, .recall, 100⟩ } },
    light := { lights with
      channels := lights.channels.set 0 { Channel.cold with level := 800 },
      scenes := lights.scenes.set 7 { Scene.cold with levels := Scene.cold.levels.set 0 (some 4095) } },
    line := { base.line with dominantCount := 39 } }

/-- B.4 at station 33: ALLSTOP_SEEN, the override, and L0 at 4095 at once. -/
theorem test_allstopEntry :
    let t := after (.allstopEntry [false]) saloon
    t.light.override = true ∧ t.light.outputs[(0 : Fin 24)] = 4095 ∧ t.alarmSet .allstopSeen = true ∧
      (t.axis .A).state = .held := by decide
/-- B.4 at station 33: at the exit the override ends and hold-off 100 is loaded. -/
theorem test_allstopExit :
    let s : State := { saloon with line := { saloon.line with allstop := true, dominantCount := 40, idleCount := 9 } }
    let t := after (.allstopExit [true]) s
    t.light.override = false ∧ t.safety.holdOff = 100 ∧ t.line.allstop = false := by decide
/-- B.4 at station 12: the axis is cut to HELD, reason ALLSTOP, token stepped, and the line is driven. -/
theorem test_estopAssert :
    let t := after .estopAssert (withAxis { opening with token := 30 })
    (t.axis .A).state = .held ∧ (t.axis .A).reason = .allstop ∧ (t.axis .A).token = 31 ∧ t.lineDrive = true := by decide
theorem test_estopRelease :
    let s := owing { base with line := { base.line with estop := true, releaseCount := 2 } } [.estopRelease]
    (after .estopRelease s).line.estop = false ∧ (after .estopRelease s).lineDrive = false := by decide

/-! ### Axes and sensors -/

theorem test_travelPulse :
    let t := after (.travelPulse .A true) (withAxis { opening with position := 119 })
    (t.axis .A).state = .stopped ∧ (t.axis .A).position = 120 ∧ (t.axis .A).reason = .target := by decide
theorem test_endSwitchChange :
    let t := after (.endSwitchChange .A .minus true) (withAxis jogging)
    (t.axis .A).position = 0 ∧ (t.axis .A).state = .stopped ∧ (t.axis .A).reason = .endReached := by decide
/-- B.3: the first signal begins the back-off; the second leaves FAULT. -/
theorem test_obstructionSignal_backOff :
    let s := owing (pressed { opening with direction := some .minus, token := 8 } 2) [signal]
    let r := (after (.obstructionSignal .A) s).axis .A
    r.state = .reversing ∧ r.direction = some .plus ∧ r.duty = 250 ∧ r.backOff = 150 ∧ r.token = 9 := by decide
theorem test_obstructionSignal_fault :
    let s := owing (pressed { reversing 60 with token := 9 } 2) [signal]
    let r := (after (.obstructionSignal .A) s).axis .A
    r.state = .fault ∧ r.duty = 0 ∧ r.token = 10 := by decide
set_option maxRecDepth 20000 in
/-- A bit owed at a boundary is taken first, and where it is the 256th equal one its CLIP is set too (R125, R129). -/
theorem test_periodBoundary_takes_the_owed_clip :
    let w := pressed opening 2
    let ch := { w.sense[(1 : Fin 4)] with runLength := 255, lastBit := true }
    let t := after (.periodBoundary 0xFF {}) (owing { w with sense := w.sense.set 1 ch } [signal])
    t.alarmSet (.obstruction .A) = true ∧ t.alarmSet (.clip 1) = true := by decide
/-- R131: a sample that would signal, taken after the axis has come to rest, signals nothing. -/
theorem test_obstructionSignal_at_rest :
    let t := after (.obstructionSignal .A) (owing (pressed still 2) [signal])
    (t.axis .A).state = .stopped ∧ t.alarmSet (.obstruction .A) = false ∧ (t.axis .A).peak = 0 ∧
      t.sense[(1 : Fin 4)].obstruction = 0 := by decide
/-- The scaling examples of 7.4. -/
theorem test_scale :
    scale 64 (-12) = -1 ∧ scale 64 (-4) = 0 ∧ scale 16 4096 = 32767 ∧ scale 16 (-4096) = -32768 ∧ scale 128 96 = 2 := by
  decide
set_option maxRecDepth 20000 in
/-- A full positive bit stream: at R = 16 the fourth output, R³, is the first sample, saturated, with net force 0 (R119). -/
theorem test_senseSample :
    let s := sensing .settling 0 0
    let s := { s with cfg := { s.cfg with sense := s.cfg.sense.set 1 ⟨true, 16, 4, 50⟩ } }
    let ch := (after (.senseSample 1 (List.replicate 64 true)) s).sense[(1 : Fin 4)]
    ch.state = .running ∧ ch.sample = 32767 ∧ ch.force = 0 ∧ ch.settle = 3 := by decide
theorem test_clip : (after (.clip 1) (owing base [.clip 1])).alarmSet (.clip 1) = true := by decide

/-! ### Requests -/

theorem test_decodeTake :
    let s : State := { base with cmd := { base.cmd with intake := [entry] } }
    (after .decodeTake s).cmd.intake = [] ∧ (after .decodeTake s).cmd.decoder.map InFlight.age = some 0 := by decide
/-- GOTO END_MINUS: STARTING, and OUTCOME OK with the new token of A. -/
theorem test_goto :
    let t := answer base .goto 40 1 1 [0, 2, 0, 0]
    (t.axis .A).state = .starting ∧ (t.axis .A).direction = some .minus ∧
      t.line.queue.any (fun f => f.payload == some [0x21, 0x20, 1, 0] && f.dest == 40) = true := by decide
/-- The token example of 04: STALE with the current token. -/
theorem test_goto_stale :
    newest (answer (withAxis { still with token := 20 }) .goto 40 1 1 [0, 0x81, 0, 0, 18]) = some [0x21, 0x23, 20, 0] := by
  decide
theorem test_jog :
    ((answer base .jog 40 1 2 [0, 0]).axis .A).lease = some { holder := .peer 40, remaining := 10 } := by decide
theorem test_jogRelease :
    let s := withAxis { jogging with lease := some { holder := .key, remaining := 1 } }
    ((after .jogRelease (asking s (keyRequest (.jogRelease 0 1)))).axis .A).state = .stopping := by decide
theorem test_stop :
    let t := answer (withAxis { opening with token := 18 }) .stop 52 1 3 [0]
    (t.axis .A).state = .stopping ∧ (t.axis .A).token = 19 ∧ (t.axis .A).reason = .stopCmd := by decide
/-- B.3: AXIS CLEAR leaves FAULT for HELD while OBSTRUCTION A holds the axis. -/
theorem test_axisClear :
    let w := withAxis { still with state := .fault, token := 10 }
    let s : State := { w with
      cfg := { conf with axisA := { hatch with holdMask := (Alarm.obstruction .A).mask } },
      safety := { w.safety with alarms := (Alarm.obstruction .A).mask, a := { w.safety.a with held := true } } }
    let t := answer s .axisClear 40 1 4 [0]
    (t.axis .A).state = .held ∧ (t.axis .A).token = 11 := by decide
theorem test_reference :
    ((answer (withAxis { still with referenced := false }) .reference 40 1 5 [0, 0, 250]).axis .A).position = 200 := by decide
theorem test_tare :
    let s := sensing .running 0 0
    let s := { s with sense := s.sense.set 1 { s.sense[(1 : Fin 4)] with sample := -5, force := -5 } }
    let ch := (answer s .tare 40 1 6 [1]).sense[(1 : Fin 4)]
    ch.baseline = -1280 ∧ ch.force = 0 := by decide
theorem test_sceneRecall :
    (answer saloon .sceneRecall 40 3 1 [7]).light.outputs[(0 : Fin 24)] = 4095 := by decide
theorem test_groupRecallRequest :
    let t := after .groupRecallRequest (asking base (keyRequest (.groupRecall 2 5)))
    t.line.queue = [{ cls := 3, kind := 1, dest := 69, payload := some [2], onLine := false }] := by decide
set_option maxRecDepth 20000 in
/-- B.5: L20 from 4000 to 1000 over 50 periods takes a slot; its level stands until the next boundary. -/
theorem test_levelSet_fades :
    let t := answer { base with light := { base.light with channels := base.light.channels.set 20 { Channel.cold with level := 4000 } } }
      .levelSet 52 3 2 [20, 3, 0xE8, 0, 50]
    t.light.channels[(20 : Fin 24)].fade = some ⟨4000, 1000, 0⟩ ∧ t.light.channels[(20 : Fin 24)].level = 4000 ∧
      t.pool[(0 : Fin 16)] = some { owner := .light, length := 50, elapsed := 0, members := 1 } := by decide

/-- B.5: with no slot free, the level is taken at once and RAMP_SHORT is set. -/
theorem test_levelSet_noSlot :
    let t := answer crowded .levelSet 52 3 2 [20, 0x0F, 0xA0, 0, 100]
    t.light.channels[(20 : Fin 24)].level = 4000 ∧ t.alarmSet .rampShort = true ∧ t.safety.count = 1 := by decide
/-- B.5: the motor seizes slot 5, and L8 stands at its goal. -/
theorem test_goto_seizes :
    let t := answer crowded .goto 40 1 1 [0, 1, 0, 0]
    t.pool[(5 : Fin 16)] = some (motorSlot .A 10 0 700) ∧
      t.light.channels[(8 : Fin 24)] = { Channel.cold with level := 2000 } := by decide
theorem test_lightsEnable :
    let t := answer composed .lightsEnable 40 3 3 [0]
    t.light.master = false ∧ t.light.outputs[(2 : Fin 24)] = 0 := by decide
theorem test_channelEnable :
    (answer composed .channelEnable 40 3 4 [0, 0, 4, 0]).light.outputs[(2 : Fin 24)] = 0 := by decide
set_option maxRecDepth 20000 in
theorem test_nightSet :
    (answer base .nightSet 40 3 5 [20, 5, 0xFF, 0xFF]).light.night = ⟨true, 20, 5, 4095⟩ := by decide
theorem test_nightOff :
    (answer composed .nightOff 40 3 6 []).light.outputs[(8 : Fin 24)] = 3072 := by decide
theorem test_runSet :
    (answer base .runSet 40 3 7 [4, 6, 14, 25]).light.region = some ⟨4, 6, 14, 25⟩ ∧
      newest (answer base .runSet 40 3 7 [4, 6, 13, 25]) = some [0x67, 7, 0, 0] := by decide
theorem test_runStart :
    newest (answer base .runStart 40 3 8 []) = some [0x68, 13, 0, 0] ∧
      (answer composed .runStart 40 3 8 []).light.offset = 0 := by decide
theorem test_runStop : (answer composed .runStop 40 3 9 []).light.outputs[(4 : Fin 24)] = 3072 := by decide
theorem test_sceneTime :
    (answer base .sceneTime 40 3 10 [2, 0xFF, 0xFF]).light.scenes[(2 : Fin 8)].fadeTime = 6000 ∧
      newest (answer saloon .sceneTime 40 3 10 [7, 0, 1]) = some [0x6A, 11, 0, 0] := by decide
/-- B.3: naming OBSTRUCTION A with the expected count 71 clears it; the count is then 72. -/
theorem test_alarmClear :
    let s : State := { base with safety := { base.safety with alarms := (Alarm.obstruction .A).mask, count := 71 } }
    let t := answer s .alarmClear 40 3 11 [0, 8, 0, 71]
    t.safety.alarms = 0 ∧ t.safety.count = 72 ∧ newest t = some [0x6B, 0, 72, 0] := by decide
theorem test_mapClear :
    let s : State := { base with time := { base.time with arrivals := 0x00FF } }
    (answer s .mapClear 40 3 12 []).time.arrivals = 0 := by decide
theorem test_restart :
    let t := answer (withAxis opening) .restart 40 3 13 []
    (t.axis .A).state = .stopped ∧ (t.axis .A).reason = .restart := by decide
theorem test_readAxis :
    newest (answer base .readAxis 40 3 14 [0, 0]) = some [0, 0, 0, 0x09, 0, 100, 0, 0] := by decide
theorem test_readSense :
    newest (answer (sensing .running 0 3) .readSense 40 3 14 [0x11, 1]) = some [0x11, 1, 0, 0, 32, 4, 0, 0] := by decide
theorem test_readTime :
    let s : State := { base with time := { base.time with p := 1000, arrivals := 0x0100, lastDelta := .gross } }
    newest (answer s .readTime 40 3 14 [0x20, 0]) = some [0x20, 0, 3, 0xE8, 1, 0, 0x80, 1] := by decide
theorem test_readAlarms :
    newest (answer (alarmed 0x400) .readAlarms 40 3 14 [0x30, 0]) = some [0x30, 0, 71, 0, 4, 0, 1, 0] := by decide
theorem test_readLight :
    newest (answer composed .readLight 40 3 14 [0x40, 8]) = some [0x40, 8, 0x6B, 0x01, 0xF4, 0x03, 0x20, 0xFF] := by decide
theorem test_readPeer :
    let s : State := { base with peer := { base.peer with table := [waitingFor 19] } }
    newest (answer s .readPeer 40 3 14 [0x50, 19]) = some [0x50, 19, 4, 0, 0, 0xFF, 0xFF, 0xFF] := by decide
theorem test_readScene :
    newest (answer saloon .readScene 40 3 14 [0x60, 0xE0]) = some [0x60, 0xE0, 0, 0, 0x0F, 0xFF, 1] ∧
      newest (answer saloon .readScene 40 3 14 [0x60, 0xF8]) = some [0x6E, 7, 0, 0] := by decide
theorem test_levelWindow :
    (answer base .levelWindow 40 6 1 [3, 20, 25]).cmd.window = some ⟨40, 3, 20, 25, 20⟩ := by decide
/-- The window example of 4.6: 1000, 2000, 5000, 65535 from L20 on. -/
theorem test_levelData :
    let s : State := { base with cmd := { base.cmd with window := some ⟨40, 3, 20, 25, 20⟩ } }
    let t := answer s .levelData 40 6 2 [0x03, 0xE8, 0x07, 0xD0, 0x13, 0x88, 0xFF, 0xFF]
    [20, 21, 22, 23].map (fun i : Fin 24 => t.light.scenes[(3 : Fin 8)].levels[i]) =
      [some 1000, some 2000, some 4095, none] ∧ t.cmd.window.map Window.pointer = some 24 := by decide
theorem test_replyDiscard : (answer base .replyDiscard 40 4 1 [0, 0, 0, 0]).line.queue = [] := by decide
theorem test_unknownKind : newest (answer base .unknownKind 40 3 0 []) = some [0x60, 14, 0, 0] := by decide

end Sys2Proof.Tests
end

section
/-! PROOFS. What the shared operations leave of the state, said once for each. -/

namespace Sys2Proof.Machine

/-! ## Reading an axis after a write to another block -/

theorem axis_of_motion {s t : State} (h : t.motion = s.motion) (ax : Axis) : t.axis ax = s.axis ax := by
  cases ax <;> simp [State.axis, h]

theorem axisSafety_of_safety {s t : State} (h : t.safety = s.safety) (ax : Axis) :
    t.axisSafety ax = s.axisSafety ax := by
  cases ax <;> simp [State.axisSafety, h]

@[simp] theorem setLoader_axis (s : State) (x : Loader) (ax : Axis) : (s.setLoader x).axis ax = s.axis ax :=
  axis_of_motion rfl ax
@[simp] theorem setCfg_axis (s : State) (x : Configuration) (ax : Axis) : (s.setCfg x).axis ax = s.axis ax :=
  axis_of_motion rfl ax
@[simp] theorem setPins_axis (s : State) (x : Pins) (ax : Axis) : (s.setPins x).axis ax = s.axis ax :=
  axis_of_motion rfl ax
@[simp] theorem setLine_axis (s : State) (x : LineUnit) (ax : Axis) : (s.setLine x).axis ax = s.axis ax :=
  axis_of_motion rfl ax
@[simp] theorem setTime_axis (s : State) (x : TimeBase) (ax : Axis) : (s.setTime x).axis ax = s.axis ax :=
  axis_of_motion rfl ax
@[simp] theorem setPeer_axis (s : State) (x : PeerUnit) (ax : Axis) : (s.setPeer x).axis ax = s.axis ax :=
  axis_of_motion rfl ax
@[simp] theorem setCmd_axis (s : State) (x : CommandUnit) (ax : Axis) : (s.setCmd x).axis ax = s.axis ax :=
  axis_of_motion rfl ax
@[simp] theorem setLight_axis (s : State) (x : LightUnit) (ax : Axis) : (s.setLight x).axis ax = s.axis ax :=
  axis_of_motion rfl ax
@[simp] theorem setPool_axis (s : State) (x : Vector (Option Slot) 16) (ax : Axis) :
    (s.setPool x).axis ax = s.axis ax := axis_of_motion rfl ax
@[simp] theorem setSense_axis (s : State) (x : Vector SenseChannel 4) (ax : Axis) :
    (s.setSense x).axis ax = s.axis ax := axis_of_motion rfl ax
@[simp] theorem setSafety_axis (s : State) (x : SafetyUnit) (ax : Axis) : (s.setSafety x).axis ax = s.axis ax :=
  axis_of_motion rfl ax
@[simp] theorem setAxisSafety_axis (s : State) (bx : Axis) (x : AxisSafety) (ax : Axis) :
    (s.setAxisSafety bx x).axis ax = s.axis ax := axis_of_motion (by simp) ax
@[simp] theorem setOwed_axis (s : State) (x : List Owed) (ax : Axis) : (s.setOwed x).axis ax = s.axis ax :=
  axis_of_motion rfl ax
@[simp] theorem owe_axis (s : State) (o : Owed) (ax : Axis) : (s.owe o).axis ax = s.axis ax := axis_of_motion rfl ax
@[simp] theorem disown_axis (s : State) (o : Owed) (ax : Axis) : (s.disown o).axis ax = s.axis ax :=
  axis_of_motion rfl ax
@[simp] theorem setWithin_axis (s : State) (b : Bool) (ax : Axis) : (s.setWithin b).axis ax = s.axis ax :=
  axis_of_motion rfl ax

@[simp] theorem setAxis_axisSafety (s : State) (bx : Axis) (r : AxisRecord) (ax : Axis) :
    (s.setAxis bx r).axisSafety ax = s.axisSafety ax := axisSafety_of_safety (by simp) ax

/-- An axis after a write to one of the two. -/
theorem setAxis_axis_eq (s : State) (bx ax : Axis) (r : AxisRecord) :
    (s.setAxis bx r).axis ax = if ax = bx then r else s.axis ax := by
  split
  · next h => subst h; simp
  · next h => exact s.setAxis_axis_ne r h

/-- What the Safety Unit keeps of an axis after a write to one of the two. -/
theorem setAxisSafety_axisSafety_eq (s : State) (bx ax : Axis) (r : AxisSafety) :
    (s.setAxisSafety bx r).axisSafety ax = if ax = bx then r else s.axisSafety ax := by
  split
  · next h => subst h; simp
  · next h => exact s.setAxisSafety_axisSafety_ne r h

/-! ## The law for ramp slots -/

theorem fadesOn_congr {s t : State} {k : Fin 16}
    (h : ∀ i : Fin 24, (t.light.channels[i]).inSlot k = (s.light.channels[i]).inSlot k) : t.fadesOn k = s.fadesOn k := by
  simp only [State.fadesOn, h]

/-- What the law says of a free slot. -/
theorem slotsLawful_free_slot {s : State} (h : s.slotsLawful) {k : Fin 16} (hp : s.pool[k] = none) :
    s.fadesOn k = 0 ∧ ∀ ax, (s.axis ax).slot ≠ some k := by
  have hk := h.1 k; rw [hp] at hk; exact hk

/-- What the law says of a LIGHT slot. -/
theorem slotsLawful_light_slot {s : State} (h : s.slotsLawful) {k : Fin 16} {slot : Slot} (hp : s.pool[k] = some slot)
    (ho : slot.owner = .light) : slot.elapsed < slot.length ∧ 1 ≤ slot.members ∧ slot.members = s.fadesOn k ∧
      ∀ ax, (s.axis ax).slot ≠ some k := by
  have hk := h.1 k; simp only [hp, ho] at hk; exact hk

/-- What the law says of a MOTOR slot. -/
theorem slotsLawful_motor_slot {s : State} (h : s.slotsLawful) {k : Fin 16} {slot : Slot} (hp : s.pool[k] = some slot)
    {ax : Axis} {a b : Nat} (ho : slot.owner = .motor ax a b) : slot.elapsed < slot.length ∧ slot.members = 1 ∧
      s.fadesOn k = 0 ∧ ∀ x, ((s.axis x).slot = some k ↔ x = ax) := by
  have hk := h.1 k; simp only [hp, ho] at hk; exact hk

/-- The law, slot by slot. -/
theorem slotsLawful_of {s : State} (free : ∀ k : Fin 16, s.pool[k] = none → s.fadesOn k = 0 ∧ ∀ ax, (s.axis ax).slot ≠ some k)
    (light : ∀ (k : Fin 16) slot, s.pool[k] = some slot → slot.owner = .light → slot.elapsed < slot.length ∧
      1 ≤ slot.members ∧ slot.members = s.fadesOn k ∧ ∀ ax, (s.axis ax).slot ≠ some k)
    (motor : ∀ (k : Fin 16) slot ax a b, s.pool[k] = some slot → slot.owner = .motor ax a b →
      slot.elapsed < slot.length ∧ slot.members = 1 ∧ s.fadesOn k = 0 ∧ ∀ x, ((s.axis x).slot = some k ↔ x = ax))
    (states : ∀ ax, (s.axis ax).slot ≠ none → (s.axis ax).state = .starting ∨ (s.axis ax).state = .stopping) :
    s.slotsLawful := by
  refine ⟨fun k => ?_, states⟩
  cases hp : s.pool[k] with
  | none => exact free k hp
  | some slot =>
    cases ho : slot.owner with
    | light => simpa only [ho] using light k slot hp ho
    | motor ax a b => simpa only [ho] using motor k slot ax a b hp ho

/-- The law reads the pool, the slots that fades and axes name, and the states of the axes. -/
theorem slotsLawful_congr {s t : State} (pool : t.pool = s.pool) (fades : ∀ k, t.fadesOn k = s.fadesOn k)
    (slot : ∀ ax, (t.axis ax).slot = (s.axis ax).slot)
    (state : ∀ ax, (s.axis ax).slot ≠ none → (s.axis ax).state = .starting ∨ (s.axis ax).state = .stopping →
      (t.axis ax).state = .starting ∨ (t.axis ax).state = .stopping)
    (h : s.slotsLawful) : t.slotsLawful := by
  obtain ⟨slots, states⟩ := h
  refine ⟨?_, fun ax n => ?_⟩
  · simpa only [pool, fades, slot] using slots
  · rw [slot] at n; exact state ax n (states ax n)

/-- An axis that names no slot keeps the law in any state (R111). -/
theorem slotsLawful_setAxis {s : State} {ax : Axis} {r : AxisRecord} (slot : r.slot = (s.axis ax).slot)
    (state : r.slot = none ∨ r.state = .starting ∨ r.state = .stopping) (h : s.slotsLawful) :
    (s.setAxis ax r).slotsLawful := by
  refine slotsLawful_congr (by simp) (fun k => fadesOn_congr (by simp)) (fun x => ?_) (fun x n q => ?_) h
  · rw [setAxis_axis_eq]; split
    · next e => rw [e, slot]
    · rfl
  · rw [setAxis_axis_eq]; split
    · next e => subst e; exact state.resolve_left (by rw [slot]; exact n)
    · exact q

/-- A slot that an axis names is its own MOTOR slot. -/
theorem motorSlot_of_named {s : State} (h : s.slotsLawful) {ax : Axis} {k : Fin 16} (n : (s.axis ax).slot = some k) :
    ∃ slot start goal, s.pool[k] = some slot ∧ slot.owner = .motor ax start goal ∧ s.fadesOn k = 0 ∧
      ∀ x, (s.axis x).slot = some k → x = ax := by
  cases hp : s.pool[k] with
  | none => exact absurd n ((slotsLawful_free_slot h hp).2 ax)
  | some slot =>
    cases ho : slot.owner with
    | light =>
      obtain ⟨-, -, -, unnamed⟩ := slotsLawful_light_slot h hp ho
      exact absurd n (unnamed ax)
    | motor x start goal =>
      obtain ⟨-, -, fades, named⟩ := slotsLawful_motor_slot h hp ho
      obtain rfl : ax = x := (named ax).1 n
      exact ⟨slot, start, goal, rfl, ho, fades, fun y hy => (named y).1 hy⟩

/-- The pool with slot `k` free: the law holds where nothing names the slot any more and the rest is as it was. -/
theorem slotsLawful_free {s t : State} {k : Fin 16} (pool : t.pool = s.pool.set k none) (free : t.fadesOn k = 0)
    (unnamed : ∀ ax, (t.axis ax).slot ≠ some k) (fades : ∀ j, j ≠ k → t.fadesOn j = s.fadesOn j)
    (slot : ∀ ax j, j ≠ k → ((t.axis ax).slot = some j ↔ (s.axis ax).slot = some j))
    (states : ∀ ax, (t.axis ax).slot ≠ none → (t.axis ax).state = .starting ∨ (t.axis ax).state = .stopping)
    (h : s.slotsLawful) : t.slotsLawful := by
  refine ⟨fun j => ?_, states⟩
  by_cases e : j = k
  · subst e
    simp [pool, free, unnamed]
  · have hj := h.1 j
    have hp : t.pool[j] = s.pool[j] := by
      simp only [pool, Fin.getElem_fin]
      exact Vector.getElem_set_ne _ _ (fun c => e (Fin.ext c.symm))
    simpa only [hp, fades j e, slot _ j e, ne_eq] using hj

/-- The pool with slot `k`, free before, given away: the law holds where what names it is what it counts. -/
theorem slotsLawful_give {s t : State} {k : Fin 16} {slot : Slot} (pool : t.pool = s.pool.set k (some slot))
    (young : slot.elapsed < slot.length)
    (named : match slot.owner with
      | .light => 1 ≤ slot.members ∧ slot.members = t.fadesOn k ∧ ∀ ax, (t.axis ax).slot ≠ some k
      | .motor ax _ _ => slot.members = 1 ∧ t.fadesOn k = 0 ∧ ∀ x, ((t.axis x).slot = some k ↔ x = ax))
    (fades : ∀ j, j ≠ k → t.fadesOn j = s.fadesOn j)
    (slots : ∀ ax j, j ≠ k → ((t.axis ax).slot = some j ↔ (s.axis ax).slot = some j))
    (states : ∀ ax, (t.axis ax).slot ≠ none → (t.axis ax).state = .starting ∨ (t.axis ax).state = .stopping)
    (h : s.slotsLawful) : t.slotsLawful := by
  refine ⟨fun j => ?_, states⟩
  by_cases e : j = k
  · subst e
    have hp : t.pool[j] = some slot := by simp [pool]
    rw [hp]
    exact ⟨young, named⟩
  · have hj := h.1 j
    have hp : t.pool[j] = s.pool[j] := by
      simp only [pool, Fin.getElem_fin]
      exact Vector.getElem_set_ne _ _ (fun c => e (Fin.ext c.symm))
    simpa only [hp, fades j e, slots _ j e, ne_eq] using hj

/-- An axis in a state other than STARTING and STOPPING names no slot (R111). -/
theorem slot_none_of_state {s : State} (h : s.slotsLawful) {ax : Axis} (a : (s.axis ax).state ≠ .starting)
    (b : (s.axis ax).state ≠ .stopping) : (s.axis ax).slot = none := by
  by_contra n
  exact (h.2 ax n).elim a b

theorem slotsLawful_releaseSlot (s : State) (ax : Axis) (h : s.slotsLawful) : (s.releaseSlot ax).slotsLawful := by
  unfold State.releaseSlot
  split
  · next k hk =>
    obtain ⟨slot, start, goal, hp, ho, hf, only⟩ := motorSlot_of_named h hk
    refine slotsLawful_free (s := s) (k := k) (by simp) ?_ ?_ (fun j _ => fadesOn_congr (by simp)) ?_ ?_ h
    · rw [← hf]; exact fadesOn_congr (by simp)
    · intro x; rw [setAxis_axis_eq]; split
      · simp
      · next ne => intro c; exact ne (only x (by simpa using c))
    · intro x j hj; rw [setAxis_axis_eq]; split
      · next e => subst e; simp only [reduceCtorEq, false_iff, hk, Option.some.injEq]; exact fun c => hj c.symm
      · simp
    · intro x; rw [setAxis_axis_eq]; split
      · simp
      · simpa using h.2 x
  · exact h

/-- A LIGHT slot that completes names its members no more (R109). -/
theorem inSlot_complete (c : Channel) (k j : Fin 16) :
    (c.complete k).inSlot j = (c.inSlot j && decide (j ≠ k)) := by
  unfold Channel.complete Channel.inSlot
  cases hf : c.fade with
  | none => simp [hf]
  | some f =>
    by_cases e : f.slot = k
    · by_cases ej : k = j
      · simp [e, ej]
      · simp [e, ej]
    · by_cases ej : j = k
      · simp [e, ej, hf]
      · simp [e, ej, hf]

theorem fadesOn_completeLight (s : State) (k j : Fin 16) :
    (s.completeLight k).fadesOn j = if j = k then 0 else s.fadesOn j := by
  have e : ∀ i : Fin 24, ((s.completeLight k).light.channels[i]).inSlot j =
      ((s.light.channels[i]).inSlot j && decide (j ≠ k)) := by
    intro i; rw [← inSlot_complete]; simp [State.completeLight]
  simp only [State.fadesOn, e]
  split <;> simp [*]

theorem slotsLawful_completeLight {s : State} {k : Fin 16} {slot : Slot} (hp : s.pool[k] = some slot)
    (ho : slot.owner = .light) (h : s.slotsLawful) : (s.completeLight k).slotsLawful := by
  obtain ⟨-, -, -, unnamed⟩ := slotsLawful_light_slot h hp ho
  refine slotsLawful_free (s := s) (k := k) (by simp [State.completeLight]) (by simp [fadesOn_completeLight]) ?_
    (fun j hj => by simp [fadesOn_completeLight, hj]) (fun x j _ => by simp [State.completeLight]) ?_ h
  · simpa [State.completeLight] using unnamed
  · simpa [State.completeLight] using h.2

theorem slotsLawful_giveMotor {s : State} {ax : Axis} {n a b : Nat} {k : Fin 16} (long : 0 < n)
    (free : s.pool[k] = none) (none : (s.axis ax).slot = none)
    (state : (s.axis ax).state = .starting ∨ (s.axis ax).state = .stopping) (h : s.slotsLawful) :
    (s.giveMotor ax n a b k).slotsLawful := by
  obtain ⟨fadeless, unnamed⟩ := slotsLawful_free_slot h free
  have axes : ∀ x, ((s.giveMotor ax n a b k).axis x).slot = if x = ax then some k else (s.axis x).slot := by
    intro x; simp only [State.giveMotor, State.giveSlot, setAxis_axis_eq, disown_axis, setPool_axis]; split <;> rfl
  have fades : ∀ j, (s.giveMotor ax n a b k).fadesOn j = s.fadesOn j := fun j =>
    fadesOn_congr (by simp [State.giveMotor, State.giveSlot])
  refine slotsLawful_give (s := s) (k := k) (slot := motorSlot ax n a b)
    (by simp [State.giveMotor, State.giveSlot]) long ?_ (fun j _ => fades j) ?_ ?_ h
  · refine ⟨rfl, (fades k).trans fadeless, fun x => ?_⟩
    rw [axes]; split
    · next e => simp [e]
    · next e => simp [e, unnamed x]
  · intro x j hj; rw [axes]; split
    · next e => subst e; simp only [none, Option.some.injEq, reduceCtorEq, iff_false]; exact fun c => hj c.symm
    · rfl
  · intro x
    have : ((s.giveMotor ax n a b k).axis x).state = (s.axis x).state := by
      simp only [State.giveMotor, State.giveSlot, setAxis_axis_eq, disown_axis, setPool_axis]
      split
      · next e => rw [e]
      · rfl
    rw [axes, this]; split
    · next e => subst e; exact fun _ => state
    · exact h.2 x

theorem freeSlot_some {pool : Vector (Option Slot) 16} {k : Fin 16} (h : freeSlot pool = some k) : pool[k] = none := by
  have := List.find?_some h
  simpa using this

theorem nearer_light {pool : Vector (Option Slot) 16} (l : List (Fin 16)) (best : Option (Fin 16 × Nat))
    (hb : ∀ k n, best = some (k, n) → (lightRemaining pool[k]).isSome = true) {k : Fin 16} {n : Nat}
    (h : l.foldl (nearer pool) best = some (k, n)) : (lightRemaining pool[k]).isSome = true := by
  induction l generalizing best with
  | nil => exact hb k n h
  | cons j l ih =>
    refine ih (nearer pool best j) (fun i m e => ?_) h
    unfold nearer at e
    split at e
    · next hn =>
      split at e
      · cases e; rw [hn]; rfl
      · cases e; exact hb _ _ rfl
    · next hn => cases e; rw [hn]; rfl
    · exact hb _ _ e

/-- A seized slot is a LIGHT slot (R113). -/
theorem seizedSlot_light {pool : Vector (Option Slot) 16} {k : Fin 16} (h : seizedSlot pool = some k) :
    ∃ slot, pool[k] = some slot ∧ slot.owner = .light := by
  obtain ⟨⟨j, n⟩, hf, rfl⟩ := Option.map_eq_some_iff.1 h
  have := nearer_light _ none (by simp) hf
  unfold lightRemaining at this
  split at this
  · next slot hs =>
    split at this
    · next ho => exact ⟨slot, hs, ho⟩
    · simp at this
  · simp at this

end Sys2Proof.Machine
end

section
/-! PROOFS. What the operations on axes, alarms and announce requests leave of every block, and that they keep the law for ramp
slots: the end of a command is made of them. -/

namespace Sys2Proof.Machine

/-! ## The relation -/

/-- A channel has stayed as it is, or the slot of its fade has been completed under it (R113). -/
def Channel.settledTo (c d : Channel) : Prop := d = c ∨ ∃ f, c.fade = some f ∧ d = { c with level := f.goal, fade := none }

/-- What the operations on axes, alarms and announce requests leave of the station: of the Line Unit they write the send queue
and the refresh mark, of the Light Unit what a completed slot gives, of the Sense Unit the obstruction counts, of the Safety
Unit the holds and the set of alarms, which grows; they take steps of slots from what is owed, and no axis leaves DISABLED. -/
structure Spares (s t : State) : Prop extends Keeps s t where
  line : t.line = { s.line with queue := t.line.queue, refresh := t.line.refresh }
  queue : s.line.queue.length ≤ 8 → t.line.queue.length ≤ 8
  table : t.peer.table = s.peer.table
  light : t.light = { s.light with channels := t.light.channels, outputs := t.light.outputs }
  channels : ∀ i : Fin 24, s.light.channels[i].settledTo t.light.channels[i]
  sense : ∀ c : Fin 4, t.sense[c] = { s.sense[c] with obstruction := (t.sense[c]).obstruction }
  holdOff : t.safety.holdOff = s.safety.holdOff
  within : t.safety.within = s.safety.within
  interlock : ∀ ax, t.axisSafety ax = { s.axisSafety ax with held := (t.axisSafety ax).held }
  alarms : ∀ i, s.safety.alarms.getLsbD i = true → t.safety.alarms.getLsbD i = true
  owed : t.owed.Sublist s.owed ∧ t.owed.filter (fun o => !isSlotStep o) = s.owed.filter (fun o => !isSlotStep o)
  position : ∀ ax, (t.axis ax).position = (s.axis ax).position
  disabled : ∀ ax, (s.axis ax).state = .disabled → (t.axis ax).state = .disabled

/-- They keep the law for ramp slots too. -/
structure Trails (s t : State) : Prop extends Spares s t where
  slots : s.slotsLawful → t.slotsLawful

theorem Channel.settledTo.refl (c : Channel) : c.settledTo c := .inl rfl

theorem Channel.settledTo.trans {c d e : Channel} (h : c.settledTo d) (k : d.settledTo e) : c.settledTo e := by
  rcases h with rfl | ⟨f, hf, rfl⟩
  · exact k
  · rcases k with rfl | ⟨g, hg, rfl⟩
    · exact .inr ⟨f, hf, rfl⟩
    · simp at hg

theorem Channel.settledTo_complete (c : Channel) (k : Fin 16) : c.settledTo (c.complete k) := by
  unfold Channel.complete
  split
  · next f hf =>
    split
    · exact .inr ⟨f, hf, rfl⟩
    · exact .inl rfl
  · exact .inl rfl

theorem Trails.refl (s : State) : Trails s s where
  toKeeps := .refl s
  line := rfl
  queue := id
  table := rfl
  light := rfl
  channels := fun _ => .refl _
  sense := fun _ => rfl
  holdOff := rfl
  within := rfl
  interlock := fun _ => rfl
  alarms := fun _ => id
  owed := ⟨.refl _, rfl⟩
  position := fun _ => rfl
  disabled := fun _ => id
  slots := id

theorem Spares.trans {s t u : State} (h : Spares s t) (k : Spares t u) : Spares s u where
  toKeeps := h.toKeeps.trans k.toKeeps
  line := by rw [k.line, h.line]
  queue := k.queue ∘ h.queue
  table := k.table.trans h.table
  light := by rw [k.light, h.light]
  channels := fun i => (h.channels i).trans (k.channels i)
  sense := fun c => by rw [k.sense, h.sense]
  holdOff := k.holdOff.trans h.holdOff
  within := k.within.trans h.within
  interlock := fun ax => by rw [k.interlock, h.interlock]
  alarms := fun i => k.alarms i ∘ h.alarms i
  owed := ⟨k.owed.1.trans h.owed.1, k.owed.2.trans h.owed.2⟩
  position := fun ax => (k.position ax).trans (h.position ax)
  disabled := fun ax => k.disabled ax ∘ h.disabled ax

theorem Trails.trans {s t u : State} (h : Trails s t) (k : Trails t u) : Trails s u where
  toSpares := h.toSpares.trans k.toSpares
  slots := k.slots ∘ h.slots

/-- Where the axes, the lights, the pool, the senses and what is owed stay, little is left to show. -/
theorem Trails.of_rest {s t : State} (keeps : Keeps s t)
    (line : t.line = { s.line with queue := t.line.queue, refresh := t.line.refresh })
    (queue : s.line.queue.length ≤ 8 → t.line.queue.length ≤ 8) (table : t.peer.table = s.peer.table)
    (light : t.light = s.light) (pool : t.pool = s.pool) (sense : t.sense = s.sense) (motion : t.motion = s.motion)
    (holdOff : t.safety.holdOff = s.safety.holdOff) (within : t.safety.within = s.safety.within)
    (interlock : ∀ ax, t.axisSafety ax = { s.axisSafety ax with held := (t.axisSafety ax).held })
    (alarms : ∀ i, s.safety.alarms.getLsbD i = true → t.safety.alarms.getLsbD i = true) (owed : t.owed = s.owed) :
    Trails s t where
  toKeeps := keeps
  line := line
  queue := queue
  table := table
  light := by rw [light]
  channels := fun i => by rw [light]; exact .refl _
  sense := fun c => by rw [sense]
  holdOff := holdOff
  within := within
  interlock := interlock
  alarms := alarms
  owed := by rw [owed]; exact ⟨.refl _, rfl⟩
  position := fun ax => by rw [axis_of_motion motion]
  disabled := fun ax => by rw [axis_of_motion motion]; exact id
  slots := slotsLawful_congr pool (fun k => fadesOn_congr (by rw [light]; exact fun _ => rfl))
    (fun ax => by rw [axis_of_motion motion]) (fun ax _ => by rw [axis_of_motion motion]; exact id)

/-! ## Alarms and the send queue -/

theorem raise_safety (s : State) (a : Alarm) :
    (s.raise a).safety = { s.safety with raised := (s.raise a).safety.raised } := by
  unfold State.raise; split <;> rfl

@[simp] theorem raise_line (s : State) (a : Alarm) : (s.raise a).line = s.line := by
  unfold State.raise; split <;> rfl
@[simp] theorem raise_peer (s : State) (a : Alarm) : (s.raise a).peer = s.peer := by
  unfold State.raise; split <;> rfl
@[simp] theorem raise_light (s : State) (a : Alarm) : (s.raise a).light = s.light := by
  unfold State.raise; split <;> rfl
@[simp] theorem raise_pool (s : State) (a : Alarm) : (s.raise a).pool = s.pool := by
  unfold State.raise; split <;> rfl
@[simp] theorem raise_sense (s : State) (a : Alarm) : (s.raise a).sense = s.sense := by
  unfold State.raise; split <;> rfl
@[simp] theorem raise_motion (s : State) (a : Alarm) : (s.raise a).motion = s.motion := by
  unfold State.raise; split <;> rfl
@[simp] theorem raise_owed (s : State) (a : Alarm) : (s.raise a).owed = s.owed := by
  unfold State.raise; split <;> rfl
@[simp] theorem raise_axis (s : State) (a : Alarm) (ax : Axis) : (s.raise a).axis ax = s.axis ax :=
  axis_of_motion (raise_motion s a) ax
@[simp] theorem raise_cfg (s : State) (a : Alarm) : (s.raise a).cfg = s.cfg := (keeps_raise s a).cfg
@[simp] theorem raise_loader (s : State) (a : Alarm) : (s.raise a).loader = s.loader := (keeps_raise s a).loader
@[simp] theorem raise_pins (s : State) (a : Alarm) : (s.raise a).pins = s.pins := (keeps_raise s a).pins
@[simp] theorem raise_time (s : State) (a : Alarm) : (s.raise a).time = s.time := (keeps_raise s a).time
@[simp] theorem raise_cmd (s : State) (a : Alarm) : (s.raise a).cmd = s.cmd := (keeps_raise s a).cmd
@[simp] theorem raise_axisCfg (s : State) (a : Alarm) (ax : Axis) : (s.raise a).axisCfg ax = s.axisCfg ax := by
  simp [State.axisCfg]

theorem trails_raise (s : State) (a : Alarm) : Trails s (s.raise a) :=
  .of_rest (keeps_raise s a) (by simp) (by simp) (by simp) (by simp) (by simp) (by simp) (by simp)
    (by rw [raise_safety]) (by rw [raise_safety])
    (fun ax => by cases ax <;> simp only [State.axisSafety] <;> rw [raise_safety]) (by rw [raise_safety]; exact fun _ => id) (by simp)

theorem length_displace (cls : Nat) (q : List SendFrame) (h : ∃ f ∈ q, f.onLine = false ∧ f.cls = cls) :
    (displace cls q).length + 1 = q.length := by
  obtain ⟨f, hf, ho, hc⟩ := h
  have hm : f ∈ q.reverse := by simpa using hf
  have := List.length_eraseP_add_one hm (p := fun f : SendFrame => !f.onLine && f.cls == cls) (by simp [ho, hc])
  simpa [displace] using this

theorem foldl_largest (q : List SendFrame) (m : Nat) :
    m ≤ q.foldl (fun m f => max m f.cls) m ∧ (∀ f ∈ q, f.cls ≤ q.foldl (fun m f => max m f.cls) m) ∧
      (q.foldl (fun m f => max m f.cls) m = m ∨ ∃ f ∈ q, f.cls = q.foldl (fun m f => max m f.cls) m) := by
  induction q generalizing m with
  | nil => simp
  | cons g q ih =>
    obtain ⟨h1, h2, h3⟩ := ih (max m g.cls)
    simp only [List.foldl_cons, List.mem_cons, forall_eq_or_imp, exists_eq_or_imp]
    refine ⟨by omega, ⟨by omega, h2⟩, ?_⟩
    rcases h3 with h3 | h3
    · rcases Nat.le_total m g.cls with l | l
      · right; left; omega
      · left; omega
    · exact .inr (.inr h3)

/-- A frame of the largest class among the frames, unless there is none. -/
theorem exists_largestClass {q : List SendFrame} (h : 0 < largestClass q) : ∃ f ∈ q, f.cls = largestClass q :=
  (foldl_largest q 0).2.2.resolve_left (by unfold largestClass at h; omega)

theorem cls_le_largestClass {q : List SendFrame} {f : SendFrame} (h : f ∈ q) : f.cls ≤ largestClass q :=
  (foldl_largest q 0).2.1 f h

/-- The send queue never passes 8 frames (R20). -/
theorem length_joinQueue {q : List SendFrame} (f : SendFrame) (h : q.length ≤ 8) : (joinQueue q f).1.length ≤ 8 := by
  unfold joinQueue
  split
  · simp; omega
  · split
    · exact h
    · next c =>
      simp only [Bool.or_eq_true, List.isEmpty_iff, decide_eq_true_eq, not_or, Nat.not_le] at c
      obtain ⟨g, hg, hc⟩ := exists_largestClass (Nat.lt_of_le_of_lt (Nat.zero_le _) c.2)
      simp only [waiting, List.mem_filter, Bool.not_eq_eq_eq_not, Bool.not_true] at hg
      have := length_displace (largestClass (waiting q)) q ⟨g, hg.1, hg.2, hc⟩
      simp only [List.length_append, List.length_singleton]
      omega

/-- The send queue with a frame offered, and nothing else but a report of SEND_DROP. -/
theorem trails_offer (s : State) (f : SendFrame) : Trails s (s.offer f) := by
  unfold State.offer; split
  · have h : Trails s (s.setLine { s.line with queue := (joinQueue s.line.queue f).1 }) :=
      .of_rest (keeps_setLine s _) rfl (length_joinQueue f) rfl rfl rfl rfl rfl rfl rfl (fun ax => by cases ax <;> rfl)
        (fun _ => id) rfl
    dsimp only; split
    · exact h.trans (trails_raise _ _)
    · exact h
  · exact .refl s

theorem trails_setPeer (s : State) {x : PeerUnit} (h : x.table = s.peer.table) : Trails s (s.setPeer x) :=
  .of_rest (keeps_setPeer s x) rfl id h rfl rfl rfl rfl rfl rfl (fun ax => by cases ax <;> rfl) (fun _ => id) rfl

theorem trails_announceRequest (s : State) : Trails s s.announceRequest := by
  unfold State.announceRequest; split
  · dsimp only
    have h : Trails s (s.setPeer { s.peer with counter := s.cfg.interval }) := trails_setPeer s rfl
    split
    · exact h.trans (trails_offer _ _)
    · split
      · exact h.trans (.of_rest (keeps_setLine _ _) rfl id rfl rfl rfl rfl rfl rfl rfl (fun ax => by cases ax <;> rfl)
          (fun _ => id) rfl)
      · exact h
  · exact .refl s

theorem trails_announceRequests (n : Nat) (s : State) : Trails s (State.announceRequests n s) := by
  induction n generalizing s with
  | zero => exact .refl s
  | succ n ih => exact (trails_announceRequest s).trans (ih _)

theorem trails_syncContent (s : State) : Trails s s.syncContent := by
  unfold State.syncContent; split
  · exact .refl s
  · refine .trans ?_ (trails_announceRequests _ _)
    exact trails_setPeer s rfl

/-! ## Axes -/

/-- A write to an axis record that leaves its position, and DISABLED, alone. -/
theorem spares_setAxis (s : State) (ax : Axis) {r : AxisRecord} (position : r.position = (s.axis ax).position)
    (disabled : (s.axis ax).state = .disabled → r.state = .disabled) : Spares s (s.setAxis ax r) where
  toKeeps := keeps_setAxis s ax r
  line := by simp
  queue := by simp
  table := by simp
  light := by simp
  channels := fun i => by rw [State.setAxis_light]; exact .refl _
  sense := fun c => by simp
  holdOff := by simp
  within := by simp
  interlock := fun x => by simp
  alarms := fun i => by simp
  owed := by simp
  position := fun x => by
    rw [setAxis_axis_eq]; split
    · next e => rw [e, position]
    · rfl
  disabled := fun x => by
    rw [setAxis_axis_eq]; split
    · next e => rw [e]; exact disabled
    · exact id

/-- The axis names the slot it named, and one only in STARTING and STOPPING. -/
theorem trails_setAxis (s : State) (ax : Axis) {r : AxisRecord} (position : r.position = (s.axis ax).position)
    (disabled : (s.axis ax).state = .disabled → r.state = .disabled) (slot : r.slot = (s.axis ax).slot)
    (state : s.slotsLawful → r.slot = none ∨ r.state = .starting ∨ r.state = .stopping) :
    Trails s (s.setAxis ax r) where
  toSpares := spares_setAxis s ax position disabled
  slots := fun h => slotsLawful_setAxis slot (state h) h

/-- A write to an axis record that leaves its state, position and slot alone. -/
theorem trails_setAxis_same (s : State) (ax : Axis) {r : AxisRecord} (position : r.position = (s.axis ax).position)
    (state : r.state = (s.axis ax).state) (slot : r.slot = (s.axis ax).slot) : Trails s (s.setAxis ax r) :=
  trails_setAxis s ax position (state.trans ·) slot fun h => by
    rw [slot, state]
    by_cases n : (s.axis ax).slot = none
    · exact .inl n
    · exact .inr (h.2 ax n)

theorem trails_clearObstruction (s : State) (ax : Axis) : Trails s (s.clearObstruction ax) where
  toKeeps := keeps_clearObstruction s ax
  line := rfl
  queue := id
  table := rfl
  light := rfl
  channels := fun _ => .refl _
  sense := fun c => by
    simp only [State.clearObstruction, State.setSense_sense, Fin.getElem_fin, Vector.getElem_ofFn]
    split <;> rfl
  holdOff := rfl
  within := rfl
  interlock := fun x => by cases x <;> rfl
  alarms := fun _ => id
  owed := ⟨.refl _, rfl⟩
  position := fun x => by simp [State.clearObstruction]
  disabled := fun x => by simp [State.clearObstruction]
  slots := slotsLawful_congr rfl (fun _ => rfl) (fun x => by simp [State.clearObstruction])
    (fun x _ => by simp [State.clearObstruction])

/-- An axis that is not DISABLED enters a state; it names no slot there, or the state is STARTING or STOPPING. -/
theorem trails_enter (s : State) (ax : Axis) (st : AxisState) (formed : (s.axis ax).state ≠ .disabled)
    (state : s.slotsLawful → (s.axis ax).slot = none ∨ st = .starting ∨ st = .stopping) : Trails s (s.enter ax st) := by
  unfold State.enter; dsimp only; split
  · exact .refl s
  · have h : Trails s (s.setAxis ax { s.axis ax with state := st, token := (s.axis ax).token + 1 }) :=
      trails_setAxis s ax rfl (fun c => absurd c formed) rfl state
    split
    · exact h.trans ((trails_clearObstruction _ ax).trans (trails_syncContent _))
    · exact h.trans (trails_syncContent _)

theorem releaseSlot_axis_self (s : State) (ax : Axis) : (s.releaseSlot ax).axis ax = { s.axis ax with slot := none } := by
  unfold State.releaseSlot; split
  · simp
  · next h => rw [← h]

theorem releaseSlot_axis_ne (s : State) {ax x : Axis} (h : x ≠ ax) : (s.releaseSlot ax).axis x = s.axis x := by
  unfold State.releaseSlot; split
  · rw [State.setAxis_axis_ne _ _ h]; simp
  · rfl

@[simp] theorem releaseSlot_light (s : State) (ax : Axis) : (s.releaseSlot ax).light = s.light := by
  unfold State.releaseSlot; split <;> simp
@[simp] theorem releaseSlot_line (s : State) (ax : Axis) : (s.releaseSlot ax).line = s.line := by
  unfold State.releaseSlot; split <;> simp
@[simp] theorem releaseSlot_peer (s : State) (ax : Axis) : (s.releaseSlot ax).peer = s.peer := by
  unfold State.releaseSlot; split <;> simp
@[simp] theorem releaseSlot_sense (s : State) (ax : Axis) : (s.releaseSlot ax).sense = s.sense := by
  unfold State.releaseSlot; split <;> simp
@[simp] theorem releaseSlot_safety (s : State) (ax : Axis) : (s.releaseSlot ax).safety = s.safety := by
  unfold State.releaseSlot; split <;> simp
@[simp] theorem releaseSlot_owed (s : State) (ax : Axis) : (s.releaseSlot ax).owed = s.owed := by
  unfold State.releaseSlot; split <;> simp
@[simp] theorem releaseSlot_axisSafety (s : State) (ax x : Axis) : (s.releaseSlot ax).axisSafety x = s.axisSafety x :=
  axisSafety_of_safety (releaseSlot_safety s ax) x

theorem trails_releaseSlot (s : State) (ax : Axis) : Trails s (s.releaseSlot ax) where
  toKeeps := keeps_releaseSlot s ax
  line := by simp
  queue := by simp
  table := by simp
  light := by simp
  channels := fun i => by rw [releaseSlot_light]; exact .refl _
  sense := fun c => by simp
  holdOff := by simp
  within := by simp
  interlock := fun x => by simp
  alarms := fun i => by simp
  owed := by simp
  position := fun x => by
    by_cases e : x = ax
    · subst e; rw [releaseSlot_axis_self]
    · rw [releaseSlot_axis_ne s e]
  disabled := fun x => by
    by_cases e : x = ax
    · subst e; rw [releaseSlot_axis_self]; exact id
    · rw [releaseSlot_axis_ne s e]; exact id
  slots := slotsLawful_releaseSlot s ax

theorem cut_axis_self (s : State) (ax : Axis) : (s.cut ax).axis ax =
    { s.axis ax with slot := none, duty := 0, lease := none, stallCount := 0, blanking := 0, backOff := 0 } := by
  simp [State.cut, releaseSlot_axis_self]

theorem cut_axis_ne (s : State) {ax x : Axis} (h : x ≠ ax) : (s.cut ax).axis x = s.axis x := by
  unfold State.cut
  rw [State.setAxis_axis_ne _ _ h, releaseSlot_axis_ne s h]

theorem trails_cut (s : State) (ax : Axis) : Trails s (s.cut ax) :=
  (trails_releaseSlot s ax).trans (trails_setAxis_same _ ax rfl rfl rfl)

theorem trails_rest (s : State) (ax : Axis) (formed : (s.axis ax).state ≠ .disabled) : Trails s (s.rest ax) :=
  (trails_cut s ax).trans (trails_enter _ ax _ (by rw [cut_axis_self]; exact formed)
    fun _ => .inl (by rw [cut_axis_self]))

theorem trails_setReason (s : State) (ax : Axis) (reason : StopReason) : Trails s (s.setReason ax reason) :=
  trails_setAxis_same s ax rfl rfl rfl

@[simp] theorem setReason_state (s : State) (ax : Axis) (reason : StopReason) :
    ((s.setReason ax reason).axis ax).state = (s.axis ax).state := by
  simp [State.setReason]

theorem trails_restFor (s : State) (ax : Axis) (reason : StopReason) (formed : (s.axis ax).state ≠ .disabled) :
    Trails s (s.restFor ax reason) :=
  (trails_setReason s ax reason).trans (trails_rest _ ax (by simpa using formed))

theorem trails_faultFor (s : State) (ax : Axis) (reason : StopReason) (formed : (s.axis ax).state ≠ .disabled) :
    Trails s (s.faultFor ax reason) :=
  (trails_setReason s ax reason).trans ((trails_cut _ ax).trans (trails_enter _ ax _
    (by rw [cut_axis_self]; simpa using formed) fun _ => .inl (by rw [cut_axis_self])))

/-! ## Slots for a motor -/

@[simp] theorem completeLight_line (s : State) (k : Fin 16) : (s.completeLight k).line = s.line := by
  simp [State.completeLight]
@[simp] theorem completeLight_peer (s : State) (k : Fin 16) : (s.completeLight k).peer = s.peer := by
  simp [State.completeLight]
@[simp] theorem completeLight_sense (s : State) (k : Fin 16) : (s.completeLight k).sense = s.sense := by
  simp [State.completeLight]
@[simp] theorem completeLight_motion (s : State) (k : Fin 16) : (s.completeLight k).motion = s.motion := by
  simp [State.completeLight]
@[simp] theorem completeLight_safety (s : State) (k : Fin 16) : (s.completeLight k).safety = s.safety := by
  simp [State.completeLight]
@[simp] theorem completeLight_owed (s : State) (k : Fin 16) : (s.completeLight k).owed = s.owed := by
  simp [State.completeLight]
@[simp] theorem completeLight_pool (s : State) (k : Fin 16) : (s.completeLight k).pool = s.pool.set k none := by
  simp [State.completeLight]
@[simp] theorem completeLight_axis (s : State) (k : Fin 16) (ax : Axis) : (s.completeLight k).axis ax = s.axis ax :=
  axis_of_motion (completeLight_motion s k) ax
@[simp] theorem completeLight_axisSafety (s : State) (k : Fin 16) (ax : Axis) :
    (s.completeLight k).axisSafety ax = s.axisSafety ax := axisSafety_of_safety (completeLight_safety s k) ax

theorem completeLight_channel (s : State) (k : Fin 16) (i : Fin 24) :
    (s.completeLight k).light.channels[i] = (s.light.channels[i]).complete k := by
  simp [State.completeLight]

theorem spares_completeLight (s : State) (k : Fin 16) : Spares s (s.completeLight k) where
  toKeeps := keeps_completeLight s k
  line := by simp
  queue := by simp
  table := by simp
  light := by simp [State.completeLight]
  channels := fun i => by rw [completeLight_channel]; exact Channel.settledTo_complete _ k
  sense := fun c => by simp
  holdOff := by simp
  within := by simp
  interlock := fun x => by simp
  alarms := fun i => by simp
  owed := by simp
  position := fun x => by simp
  disabled := fun x => by simp

theorem giveMotor_axis_self (s : State) (ax : Axis) (n a b : Nat) (k : Fin 16) :
    (s.giveMotor ax n a b k).axis ax = { s.axis ax with slot := some k, duty := a } := by
  simp [State.giveMotor, State.giveSlot]

theorem giveMotor_axis_ne (s : State) {ax x : Axis} (n a b : Nat) (k : Fin 16) (h : x ≠ ax) :
    (s.giveMotor ax n a b k).axis x = s.axis x := by
  simp [State.giveMotor, State.giveSlot, State.setAxis_axis_ne _ _ h]

theorem filter_erase_slotStep (l : List Owed) (k : Fin 16) :
    (l.erase (.slotStep k)).filter (fun o => !isSlotStep o) = l.filter fun o => !isSlotStep o := by
  induction l with
  | nil => rfl
  | cons o l ih =>
    by_cases e : o = .slotStep k
    · subst e; simp [isSlotStep]
    · rw [List.erase_cons_tail (by simpa using e)]
      simp only [List.filter_cons, ih]

theorem spares_giveMotor (s : State) (ax : Axis) (n a b : Nat) (k : Fin 16) : Spares s (s.giveMotor ax n a b k) where
  toKeeps := keeps_giveMotor s ax n a b k
  line := by simp [State.giveMotor, State.giveSlot]
  queue := by simp [State.giveMotor, State.giveSlot]
  table := by simp [State.giveMotor, State.giveSlot]
  light := by simp [State.giveMotor, State.giveSlot]
  channels := fun i => by
    have e : (s.giveMotor ax n a b k).light = s.light := by simp [State.giveMotor, State.giveSlot]
    rw [e]; exact .refl _
  sense := fun c => by simp [State.giveMotor, State.giveSlot]
  holdOff := by simp [State.giveMotor, State.giveSlot]
  within := by simp [State.giveMotor, State.giveSlot]
  interlock := fun x => by cases ax <;> cases x <;> rfl
  alarms := fun i => by simp [State.giveMotor, State.giveSlot]
  owed := by
    have e : (s.giveMotor ax n a b k).owed = s.owed.erase (.slotStep k) := by simp [State.giveMotor, State.giveSlot]
    rw [e]; exact ⟨List.erase_sublist, filter_erase_slotStep _ k⟩
  position := fun x => by
    by_cases e : x = ax
    · subst e; rw [giveMotor_axis_self]
    · rw [giveMotor_axis_ne s n a b k e]
  disabled := fun x => by
    by_cases e : x = ax
    · subst e; rw [giveMotor_axis_self]; exact id
    · rw [giveMotor_axis_ne s n a b k e]; exact id

/-- An axis in STARTING or STOPPING without a slot asks for one (R106, R113). -/
theorem slotsLawful_askMotor {s : State} {ax : Axis} {n a b : Nat} (long : 0 < n) (slot : (s.axis ax).slot = none)
    (state : (s.axis ax).state = .starting ∨ (s.axis ax).state = .stopping) (h : s.slotsLawful) :
    (s.askMotor ax n a b).slotsLawful := by
  unfold State.askMotor
  split
  · next k hk => exact slotsLawful_giveMotor long (freeSlot_some hk) slot state h
  · split
    · next k hk =>
      obtain ⟨x, hx, ho⟩ := seizedSlot_light hk
      exact (trails_raise _ _).slots (slotsLawful_giveMotor long (by simp) (by simpa using slot)
        (by simpa using state) (slotsLawful_completeLight hx ho h))
    · exact h

theorem spares_askMotor (s : State) (ax : Axis) (n a b : Nat) : Spares s (s.askMotor ax n a b) := by
  unfold State.askMotor
  split
  · exact spares_giveMotor s ax n a b _
  · split
    · exact (spares_completeLight s _).trans ((spares_giveMotor _ ax n a b _).trans (trails_raise _ _).toSpares)
    · exact (Trails.refl s).toSpares

theorem trails_askMotor (s : State) (ax : Axis) (n a b : Nat) (long : 0 < n)
    (slot : s.slotsLawful → (s.axis ax).slot = none)
    (state : (s.axis ax).state = .starting ∨ (s.axis ax).state = .stopping) : Trails s (s.askMotor ax n a b) where
  toSpares := spares_askMotor s ax n a b
  slots := fun h => slotsLawful_askMotor long (slot h) state h

theorem askMotor_axis_self (s : State) (ax : Axis) (n a b : Nat) : (s.askMotor ax n a b).axis ax = s.axis ax ∨
    ∃ k, (s.askMotor ax n a b).axis ax = { s.axis ax with slot := some k, duty := a } := by
  unfold State.askMotor
  split
  · next k hk => exact .inr ⟨k, giveMotor_axis_self s ax n a b k⟩
  · split
    · next k hk => exact .inr ⟨k, by rw [raise_axis, giveMotor_axis_self, completeLight_axis]⟩
    · exact .inl rfl

theorem askMotor_axis_ne (s : State) {ax x : Axis} (n a b : Nat) (h : x ≠ ax) :
    (s.askMotor ax n a b).axis x = s.axis x := by
  unfold State.askMotor
  split
  · exact giveMotor_axis_ne s n a b _ h
  · split
    · rw [raise_axis, giveMotor_axis_ne _ n a b _ h, completeLight_axis]
    · rfl

/-! ## Entering a state, as the axes see it -/

theorem offer_motion (s : State) (f : SendFrame) : (s.offer f).motion = s.motion := by
  unfold State.offer; split
  · dsimp only; split <;> simp
  · rfl

theorem announceRequest_motion (s : State) : s.announceRequest.motion = s.motion := by
  unfold State.announceRequest; split
  · dsimp only; split
    · rw [offer_motion]; rfl
    · split <;> rfl
  · rfl

theorem announceRequests_motion (n : Nat) (s : State) : (State.announceRequests n s).motion = s.motion := by
  induction n generalizing s with
  | zero => rfl
  | succ n ih => exact (ih _).trans (announceRequest_motion s)

@[simp] theorem syncContent_motion (s : State) : s.syncContent.motion = s.motion := by
  unfold State.syncContent; split
  · rfl
  · rw [announceRequests_motion]; rfl

@[simp] theorem syncContent_axis (s : State) (ax : Axis) : s.syncContent.axis ax = s.axis ax :=
  axis_of_motion (syncContent_motion s) ax

@[simp] theorem clearObstruction_axis (s : State) (bx ax : Axis) : (s.clearObstruction bx).axis ax = s.axis ax :=
  axis_of_motion rfl ax

theorem enter_axis_self (s : State) (ax : Axis) (st : AxisState) : (s.enter ax st).axis ax =
    if (s.axis ax).state = st then s.axis ax else { s.axis ax with state := st, token := (s.axis ax).token + 1 } := by
  unfold State.enter; dsimp only; split
  · rfl
  · split <;> simp

theorem enter_axis_ne (s : State) {ax x : Axis} (st : AxisState) (h : x ≠ ax) : (s.enter ax st).axis x = s.axis x := by
  unfold State.enter; dsimp only; split
  · rfl
  · split <;> simp [State.setAxis_axis_ne _ _ h]

theorem enter_state_self (s : State) (ax : Axis) (st : AxisState) : ((s.enter ax st).axis ax).state = st := by
  rw [enter_axis_self]; split
  · next h => exact h
  · rfl

theorem enter_slot_self (s : State) (ax : Axis) (st : AxisState) :
    ((s.enter ax st).axis ax).slot = (s.axis ax).slot := by
  rw [enter_axis_self]; split <;> rfl

/-! ## Stops -/

/-- The record with which an axis enters STOPPING, before its slot is asked for (R145). -/
def State.toStopping (s : State) (ax : Axis) (reason : StopReason) : State :=
  ((s.releaseSlot ax).setAxis ax { (s.releaseSlot ax).axis ax with
    reason := reason, lease := none, stallCount := 0 }).enter ax .stopping

theorem enterStopping_eq (s : State) (ax : Axis) (reason : StopReason) : s.enterStopping ax reason =
    let s2 := s.toStopping ax reason
    if (s2.axisCfg ax).rampDown = 0 then (s2.setAxis ax { s2.axis ax with duty := 0 }).rest ax
    else s2.askMotor ax (s2.axisCfg ax).rampDown (s2.axis ax).duty 0 := rfl

theorem toStopping_axis_self (s : State) (ax : Axis) (reason : StopReason) (h : (s.axis ax).state ≠ .stopping) :
    (s.toStopping ax reason).axis ax = { s.axis ax with
      state := .stopping, token := (s.axis ax).token + 1, slot := none, reason := reason, lease := none, stallCount := 0 } := by
  unfold State.toStopping
  rw [enter_axis_self]
  simp [releaseSlot_axis_self, h]

theorem toStopping_axis_ne (s : State) {ax x : Axis} (reason : StopReason) (h : x ≠ ax) :
    (s.toStopping ax reason).axis x = s.axis x := by
  unfold State.toStopping
  rw [enter_axis_ne _ _ h, State.setAxis_axis_ne _ _ h, releaseSlot_axis_ne s h]

theorem trails_toStopping (s : State) (ax : Axis) (reason : StopReason) (formed : (s.axis ax).state ≠ .disabled) :
    Trails s (s.toStopping ax reason) :=
  .trans (t := (s.releaseSlot ax).setAxis ax { (s.releaseSlot ax).axis ax with
      reason := reason, lease := none, stallCount := 0 })
    ((trails_releaseSlot s ax).trans (trails_setAxis_same _ ax rfl rfl rfl))
    (trails_enter _ ax _ (by simpa [releaseSlot_axis_self] using formed) fun _ => .inr (.inr rfl))

theorem toStopping_state (s : State) (ax : Axis) (reason : StopReason) :
    ((s.toStopping ax reason).axis ax).state = .stopping := enter_state_self _ _ _

theorem toStopping_slot (s : State) (ax : Axis) (reason : StopReason) :
    ((s.toStopping ax reason).axis ax).slot = none := by
  unfold State.toStopping
  rw [enter_slot_self]; simp [releaseSlot_axis_self]

theorem trails_enterStopping (s : State) (ax : Axis) (reason : StopReason) (formed : (s.axis ax).state ≠ .disabled) :
    Trails s (s.enterStopping ax reason) := by
  rw [enterStopping_eq]; dsimp only
  have h := trails_toStopping s ax reason formed
  have state := toStopping_state s ax reason
  split
  · refine h.trans (.trans ?_ (trails_rest _ ax (by simp [state])))
    exact trails_setAxis_same _ ax rfl rfl rfl
  · next n =>
    exact h.trans (trails_askMotor _ ax _ _ _ (Nat.pos_of_ne_zero n)
      (fun _ => toStopping_slot s ax reason) (.inr state))

theorem not_disabled_of_moves {st : AxisState} (h : st.moves = true) : st ≠ .disabled := by
  rintro rfl; exact absurd h (by decide)

theorem trails_stopMoving (s : State) (reason : StopReason) (ax : Axis) : Trails s (s.stopMoving reason ax) := by
  unfold State.stopMoving; split
  · next h => exact trails_enterStopping s ax reason (not_disabled_of_moves h)
  · exact .refl s

theorem trails_lineStopAxis (s : State) (action : AxisAction) (ax : Axis) : Trails s (s.lineStopAxis action ax) := by
  have moving (h : (s.axis ax).state ≠ .disabled) : Trails s
      (if action = .stopRamp then s.enterStopping ax .allstop else s.restFor ax .allstop) := by
    split
    · exact trails_enterStopping s ax _ h
    · exact trails_restFor s ax _ h
  unfold State.lineStopAxis
  split
  · next h => exact moving (by simp [h])
  · next h => exact moving (by simp [h])
  · next h => exact trails_restFor s ax _ (by simp [h])
  all_goals exact .refl s

theorem trails_lineStop (s : State) : Trails s s.lineStop :=
  (trails_lineStopAxis s _ .A).trans (trails_lineStopAxis _ _ .B)

theorem trails_loseDirection (s : State) (ax : Axis) (d : Direction) : Trails s (s.loseDirection ax d) := by
  unfold State.loseDirection; split
  · next h =>
    simp only [Bool.and_eq_true] at h
    exact (trails_raise s _).trans (trails_enterStopping _ ax _ (by simpa using not_disabled_of_moves h.1))
  · exact .refl s

/-! ## The end of a command -/

theorem trails_setAlarm (s : State) (a : Alarm) : Trails s (s.setAlarm a) := by
  have h : Trails s (s.setSafety { s.safety with
      alarms := s.safety.alarms ||| a.mask, count := s.safety.count + 1 }) :=
    .of_rest (keeps_setSafety s _) rfl id rfl rfl rfl rfl rfl rfl rfl (fun ax => by cases ax <;> rfl)
      (fun i hi => by simp [hi]) rfl
  unfold State.setAlarm; dsimp only; split
  · exact h.trans (trails_offer _ _)
  · exact h

theorem trails_newlySet (s : State) (a : Alarm) (ax : Axis) : Trails s (s.newlySet a ax) := by
  unfold State.newlySet; split
  · exact trails_stopMoving s _ ax
  · exact .refl s

theorem trails_takeReport (s : State) (a : Alarm) : Trails s (s.takeReport a) := by
  unfold State.takeReport; split
  · exact .refl s
  · exact (trails_setAlarm s a).trans ((trails_newlySet _ a .A).trans (trails_newlySet _ a .B))

theorem trails_setHeld (s : State) (ax : Axis) (b : Bool) :
    Trails s (s.setAxisSafety ax { s.axisSafety ax with held := b }) :=
  .of_rest (keeps_setAxisSafety s ax _) (by simp) (by simp) (by simp) (by simp) (by simp) (by simp) (by simp)
    (by cases ax <;> rfl) (by cases ax <;> rfl)
    (fun x => by cases ax <;> cases x <;> rfl) (by cases ax <;> exact fun _ => id) (by simp)

theorem trails_followHold (s : State) (ax : Axis) : Trails s (s.followHold ax) := by
  unfold State.followHold; dsimp only; split
  · exact .refl s
  · have h := trails_setHeld s ax (s.holdOn ax)
    split
    · next st _ =>
      exact h.trans (trails_enter _ ax _ (by rw [st]; decide)
        fun l => .inl (slot_none_of_state l (by rw [st]; decide) (by rw [st]; decide)))
    · next st _ =>
      exact h.trans (trails_enter _ ax _ (by rw [st]; decide)
        fun l => .inl (slot_none_of_state l (by rw [st]; decide) (by rw [st]; decide)))
    · exact h

theorem trails_setRaised (s : State) (l : List Alarm) : Trails s (s.setSafety { s.safety with raised := l }) :=
  .of_rest (keeps_setSafety s _) rfl id rfl rfl rfl rfl rfl rfl rfl (fun ax => by cases ax <;> rfl) (fun _ => id) rfl

theorem trails_seal (s : State) : Trails s s.seal :=
  .of_rest (keeps_seal s) rfl id rfl rfl rfl rfl rfl rfl rfl (fun ax => by cases ax <;> rfl) (fun _ => id) rfl

theorem trails_settle (n : Nat) (s : State) : Trails s (s.settle n) := by
  induction n generalizing s with
  | zero => exact trails_seal s
  | succ n ih =>
    unfold State.settle; dsimp only; split
    · exact (trails_syncContent s).trans ((trails_setRaised _ _).trans ((trails_takeReport _ _).trans (ih _)))
    · split
      · exact (trails_syncContent s).trans ((trails_followHold _ .A).trans ((trails_followHold _ .B).trans (ih _)))
      · exact trails_syncContent s

/-- Everything that follows from a change in its instant. -/
theorem trails_settled (s : State) : Trails s s.settled := trails_settle _ s

@[simp] theorem publish_line (s : State) : s.publish.line = s.line := by
  simp [State.publish]
@[simp] theorem publish_table (s : State) : s.publish.peer.table = s.peer.table := by
  simp [State.publish]
@[simp] theorem publish_counter (s : State) : s.publish.peer.counter = s.peer.counter := by
  simp [State.publish]
@[simp] theorem publish_channels (s : State) : s.publish.light.channels = s.light.channels := by
  simp [State.publish]
@[simp] theorem publish_pool (s : State) : s.publish.pool = s.pool := by
  simp [State.publish]
@[simp] theorem publish_sense (s : State) : s.publish.sense = s.sense := by
  simp [State.publish]
@[simp] theorem publish_motion (s : State) : s.publish.motion = s.motion := by
  simp [State.publish]
@[simp] theorem publish_safety (s : State) : s.publish.safety = s.safety := by
  simp [State.publish]
@[simp] theorem publish_owed (s : State) : s.publish.owed = s.owed := by
  simp [State.publish]
@[simp] theorem publish_cfg (s : State) : s.publish.cfg = s.cfg := by
  simp [State.publish]
@[simp] theorem publish_axis (s : State) (ax : Axis) : s.publish.axis ax = s.axis ax :=
  axis_of_motion (publish_motion s) ax
@[simp] theorem publish_axisSafety (s : State) (ax : Axis) : s.publish.axisSafety ax = s.axisSafety ax :=
  axisSafety_of_safety (publish_safety s) ax

theorem publish_light (s : State) : s.publish.light = { s.light with outputs := s.publish.light.outputs } := by
  simp [State.publish]

theorem trails_publish (s : State) : Trails s s.publish where
  toKeeps := keeps_publish s
  line := by simp
  queue := by simp
  table := by simp
  light := by rw [publish_channels]; exact publish_light s
  channels := fun i => .inl (by simp)
  sense := fun c => by simp
  holdOff := by simp
  within := by simp
  interlock := fun ax => by simp
  alarms := fun i => by simp
  owed := by simp
  position := fun ax => by simp
  disabled := fun ax => by simp
  slots := fun h => slotsLawful_congr (by simp) (fun k => fadesOn_congr (by simp)) (by simp) (by simp) h

/-- The end of a command, after which no event of its instant is to be taken within it. -/
theorem trails_finish (s : State) : Trails (s.setWithin false) s.finish :=
  (trails_settled _).trans (trails_publish _)

end Sys2Proof.Machine
end

section
/-! PROOFS. The bounds of the queues, the ranges of the line counts, LOADING and the law for ramp slots: what every operation
keeps, and that every step keeps them. -/

namespace Sys2Proof.Machine

/-! ## The relation -/

/-- From `s` to `t` the bounds, the ranges and the law for ramp slots are kept, no station state begins or ends, and no axis
leaves DISABLED. -/
structure Orderly (s t : State) : Prop where
  station : t.station = s.station
  queue : s.line.queue.length ≤ 8 → t.line.queue.length ≤ 8
  intake : s.cmd.intake.length ≤ 8 → t.cmd.intake.length ≤ 8
  schedule : s.time.schedule.length ≤ 16 → t.time.schedule.length ≤ 16
  counts : s.lineCountsBounded → t.lineCountsBounded
  disabled : ∀ ax, (s.axis ax).state = .disabled → (t.axis ax).state = .disabled
  slots : s.slotsLawful → t.slotsLawful

theorem Orderly.refl (s : State) : Orderly s s := ⟨rfl, id, id, id, id, fun _ => id, id⟩

theorem Orderly.trans {s t u : State} (h : Orderly s t) (k : Orderly t u) : Orderly s u :=
  ⟨k.station.trans h.station, k.queue ∘ h.queue, k.intake ∘ h.intake, k.schedule ∘ h.schedule, k.counts ∘ h.counts,
   fun ax => k.disabled ax ∘ h.disabled ax, k.slots ∘ h.slots⟩

theorem Trails.orderly {s t : State} (h : Trails s t) : Orderly s t where
  station := by simp [State.station, h.loader]
  queue := h.queue
  intake := by rw [h.cmd]; exact id
  schedule := by rw [h.time]; exact id
  counts := by
    intro k
    unfold State.lineCountsBounded
    rw [h.line, h.cfg]; exact k
  disabled := h.disabled
  slots := h.slots

/-- Where the axes, the pool and the slots that fades name stay, the law for slots stays. -/
theorem Orderly.of_rest {s t : State} (loader : t.loader = s.loader) (motion : t.motion = s.motion)
    (pool : t.pool = s.pool) (fades : ∀ (i : Fin 24) k, (t.light.channels[i]).inSlot k = (s.light.channels[i]).inSlot k)
    (queue : s.line.queue.length ≤ 8 → t.line.queue.length ≤ 8)
    (intake : s.cmd.intake.length ≤ 8 → t.cmd.intake.length ≤ 8)
    (schedule : s.time.schedule.length ≤ 16 → t.time.schedule.length ≤ 16)
    (counts : s.lineCountsBounded → t.lineCountsBounded) : Orderly s t where
  station := by simp [State.station, loader]
  queue := queue
  intake := intake
  schedule := schedule
  counts := counts
  disabled := fun ax => by rw [axis_of_motion motion]; exact id
  slots := slotsLawful_congr pool (fun k => fadesOn_congr (fades · k)) (fun ax => by rw [axis_of_motion motion])
    (fun ax _ => by rw [axis_of_motion motion]; exact id)

theorem orderly_foldl {α : Type} {step : State → α → State} (h : ∀ s a, Orderly s (step s a)) (l : List α) (s : State) :
    Orderly s (l.foldl step s) := by
  induction l generalizing s with
  | nil => exact .refl s
  | cons a l ih => exact (h s a).trans (ih _)

theorem orderly_ite {c : Prop} [Decidable c] {s t u : State} (ht : c → Orderly s t) (hu : ¬c → Orderly s u) :
    Orderly s (if c then t else u) := by
  split
  · next h => exact ht h
  · next h => exact hu h

/-! ## Writing a block -/

theorem orderly_setPins (s : State) (x : Pins) : Orderly s (s.setPins x) :=
  .of_rest rfl rfl rfl (fun _ _ => rfl) id id id id
theorem orderly_setPeer (s : State) (x : PeerUnit) : Orderly s (s.setPeer x) :=
  .of_rest rfl rfl rfl (fun _ _ => rfl) id id id id
theorem orderly_setSense (s : State) (x : Vector SenseChannel 4) : Orderly s (s.setSense x) :=
  .of_rest rfl rfl rfl (fun _ _ => rfl) id id id id
theorem orderly_setSafety (s : State) (x : SafetyUnit) : Orderly s (s.setSafety x) :=
  .of_rest rfl rfl rfl (fun _ _ => rfl) id id id id
theorem orderly_setOwed (s : State) (x : List Owed) : Orderly s (s.setOwed x) :=
  .of_rest rfl rfl rfl (fun _ _ => rfl) id id id id
theorem orderly_owe (s : State) (o : Owed) : Orderly s (s.owe o) := orderly_setOwed s _
theorem orderly_disown (s : State) (o : Owed) : Orderly s (s.disown o) := orderly_setOwed s _
theorem orderly_setWithin (s : State) (b : Bool) : Orderly s (s.setWithin b) := orderly_setSafety s _
theorem orderly_setChannel (s : State) (c : Fin 4) (ch : SenseChannel) : Orderly s (s.setChannel c ch) :=
  orderly_setSense s _

theorem orderly_oweIf (s : State) (c : Bool) (o : Owed) : Orderly s (s.oweIf c o) :=
  orderly_ite (fun _ => orderly_owe s o) (fun _ => .refl s)

theorem orderly_setAxisSafety (s : State) (ax : Axis) (x : AxisSafety) : Orderly s (s.setAxisSafety ax x) := by
  cases ax <;> exact orderly_setSafety s _

theorem orderly_setSwitchPin (s : State) (ax : Axis) (d : Direction) (b : Bool) : Orderly s (s.setSwitchPin ax d b) := by
  cases ax <;> cases d <;> exact orderly_setPins s _

/-- The Time Base may change but for the schedule list. -/
theorem orderly_setTime (s : State) {x : TimeBase} (h : s.time.schedule.length ≤ 16 → x.schedule.length ≤ 16) :
    Orderly s (s.setTime x) :=
  .of_rest rfl rfl rfl (fun _ _ => rfl) id id h id

theorem orderly_setCmd (s : State) {x : CommandUnit} (h : s.cmd.intake.length ≤ 8 → x.intake.length ≤ 8) :
    Orderly s (s.setCmd x) :=
  .of_rest rfl rfl rfl (fun _ _ => rfl) id h id id

/-- The Light Unit may change but for the slots that fades name. -/
theorem orderly_setLight (s : State) {x : LightUnit}
    (h : ∀ (i : Fin 24) k, (x.channels[i]).inSlot k = (s.light.channels[i]).inSlot k) : Orderly s (s.setLight x) :=
  .of_rest rfl rfl rfl h id id id id

theorem orderly_setLine (s : State) {x : LineUnit} (queue : s.line.queue.length ≤ 8 → x.queue.length ≤ 8)
    (counts : s.lineCountsBounded → (s.setLine x).lineCountsBounded) : Orderly s (s.setLine x) :=
  .of_rest rfl rfl rfl (fun _ _ => rfl) queue id id counts

/-- A write to the Line Unit that leaves its counts. -/
theorem orderly_setLine_same (s : State) {x : LineUnit} (queue : s.line.queue.length ≤ 8 → x.queue.length ≤ 8)
    (idle : x.idleCount = s.line.idleCount ∨ x.idleCount = 0) (dominant : x.dominantCount = s.line.dominantCount)
    (release : x.releaseCount = s.line.releaseCount) (budget : x.budget = s.line.budget)
    (silence : x.silence = s.line.silence) : Orderly s (s.setLine x) :=
  orderly_setLine s queue fun h => by
    simp only [State.lineCountsBounded, State.setLine_line, State.setLine_cfg, dominant, release, budget, silence] at h ⊢
    rcases idle with idle | idle <;> rw [idle] <;> omega

/-- A write to an axis record that leaves its state and its slot. -/
theorem orderly_setAxis (s : State) (ax : Axis) {r : AxisRecord} (state : r.state = (s.axis ax).state)
    (slot : r.slot = (s.axis ax).slot) : Orderly s (s.setAxis ax r) where
  station := by simp [State.station]
  queue := by simp
  intake := by simp
  schedule := by simp
  counts := fun h => by simpa [State.lineCountsBounded] using h
  disabled := fun x => by
    rw [setAxis_axis_eq]; split
    · next e => rw [e, state]; exact id
    · exact id
  slots := fun h => slotsLawful_setAxis slot (by
    rw [slot, state]
    by_cases n : (s.axis ax).slot = none
    · exact .inl n
    · exact .inr (h.2 ax n)) h

theorem orderly_raise (s : State) (a : Alarm) : Orderly s (s.raise a) := (trails_raise s a).orderly
theorem orderly_offer (s : State) (f : SendFrame) : Orderly s (s.offer f) := (trails_offer s f).orderly
theorem orderly_settled (s : State) : Orderly s s.settled := (trails_settled s).orderly
theorem orderly_announceRequest (s : State) : Orderly s s.announceRequest := (trails_announceRequest s).orderly
theorem orderly_finish (s : State) : Orderly s s.finish := (orderly_setWithin s false).trans (trails_finish s).orderly

/-! ## Levels and fades -/

theorem length_filter_and_not {α : Type} (p q : α → Bool) (l : List α) :
    (l.filter q).length = (l.filter fun a => p a && q a).length + (l.filter fun a => !p a && q a).length := by
  induction l with
  | nil => rfl
  | cons a l ih =>
    simp only [List.filter_cons]
    cases p a <;> cases q a <;> simp <;> omega

theorem fadesOn_leaveFades (s : State) (sel : Fin 24 → Bool) (k : Fin 16) :
    s.fadesOn k = s.leaving sel k + (s.leaveFades sel).fadesOn k := by
  have e : ∀ i : Fin 24, ((s.leaveFades sel).light.channels[i]).inSlot k = (!sel i && (s.light.channels[i]).inSlot k) := by
    intro i
    simp only [State.leaveFades, State.setLight_light, Fin.getElem_fin, Vector.getElem_ofFn]
    cases sel i <;> simp [Channel.inSlot]
  simp only [State.fadesOn, State.leaving, e]
  exact length_filter_and_not _ _ _

theorem leaveFades_pool (s : State) (sel : Fin 24 → Bool) (k : Fin 16) :
    (s.leaveFades sel).pool[k] = (s.pool[k]).bind fun slot => slot.without (s.leaving sel k) := by
  simp [State.leaveFades]

@[simp] theorem leaveFades_axis (s : State) (sel : Fin 24 → Bool) (ax : Axis) :
    (s.leaveFades sel).axis ax = s.axis ax := by
  simp [State.leaveFades]

theorem Slot.without_eq_none {slot : Slot} {n : Nat} : slot.without n = none ↔ 0 < n ∧ slot.members ≤ n := by
  unfold Slot.without
  split
  · simp; omega
  · split
    · simp; omega
    · simp; omega

theorem Slot.without_eq_some {slot x : Slot} {n : Nat} (h : slot.without n = some x) : x.owner = slot.owner ∧
    x.length = slot.length ∧ x.elapsed = slot.elapsed ∧ x.members = slot.members - n ∧ (0 < n → n < slot.members) := by
  unfold Slot.without at h
  split at h
  · cases h; exact ⟨rfl, rfl, rfl, by omega, by omega⟩
  · split at h
    · cases h
    · cases h; exact ⟨rfl, rfl, rfl, rfl, by omega⟩

/-- Channels that leave their fades are no longer counted by their slots, and the last one frees its slot (R107). -/
theorem slotsLawful_leaveFades (s : State) (sel : Fin 24 → Bool) (h : s.slotsLawful) : (s.leaveFades sel).slotsLawful := by
  refine slotsLawful_of (fun k hp => ?_) (fun k slot hp ho => ?_) (fun k slot ax a b hp ho => ?_)
    (fun ax => by simpa using h.2 ax)
  all_goals
    have hf := fadesOn_leaveFades s sel k
    rw [leaveFades_pool] at hp
    simp only [leaveFades_axis]
  · cases hs : s.pool[k] with
    | none =>
      obtain ⟨fades, unnamed⟩ := slotsLawful_free_slot h hs
      exact ⟨by omega, unnamed⟩
    | some slot =>
      rw [hs, Option.bind_some, Slot.without_eq_none] at hp
      cases ho : slot.owner with
      | light =>
        obtain ⟨-, -, members, unnamed⟩ := slotsLawful_light_slot h hs ho
        exact ⟨by omega, unnamed⟩
      | motor ax a b =>
        obtain ⟨-, members, fades, named⟩ := slotsLawful_motor_slot h hs ho
        omega
  · obtain ⟨old, hs, hw⟩ := Option.bind_eq_some_iff.1 hp
    obtain ⟨owner, length, elapsed, members, left⟩ := Slot.without_eq_some hw
    obtain ⟨young, one, counted, unnamed⟩ := slotsLawful_light_slot h hs (owner ▸ ho)
    exact ⟨by omega, by omega, by omega, unnamed⟩
  · obtain ⟨old, hs, hw⟩ := Option.bind_eq_some_iff.1 hp
    obtain ⟨owner, length, elapsed, members, left⟩ := Slot.without_eq_some hw
    obtain ⟨young, one, fades, named⟩ := slotsLawful_motor_slot h hs (owner ▸ ho)
    exact ⟨by omega, by omega, by omega, named⟩

theorem orderly_leaveFades (s : State) (sel : Fin 24 → Bool) : Orderly s (s.leaveFades sel) where
  station := by simp [State.leaveFades, State.station]
  queue := by simp [State.leaveFades]
  intake := by simp [State.leaveFades]
  schedule := by simp [State.leaveFades]
  counts := fun h => by simpa [State.lineCountsBounded, State.leaveFades] using h
  disabled := fun ax => by simp
  slots := slotsLawful_leaveFades s sel

theorem inSlot_take (c : Channel) (g : Option Nat) (k : Fin 16) : (c.take g).inSlot k = c.inSlot k := by
  cases g <;> rfl

theorem orderly_takeLevels (s : State) (aims : Fin 24 → Option Nat) : Orderly s (s.takeLevels aims) :=
  orderly_setLight s fun i k => by simp [inSlot_take]

theorem orderly_markScene (s : State) (aims : Fin 24 → Option Nat) (scene : Option (Fin 8)) :
    Orderly s (s.markScene aims scene) :=
  orderly_setLight s fun i k => by
    simp only [Fin.getElem_fin, Vector.getElem_ofFn]
    split <;> rfl

theorem inSlot_of_fade_none {c : Channel} (h : c.fade = none) (k : Fin 16) : c.inSlot k = false := by
  simp [Channel.inSlot, h]

theorem inSlot_join (c : Channel) (g : Option Nat) (k j : Fin 16) :
    (c.join k g).inSlot j = if g.isSome then decide (k = j) else c.inSlot j := by
  cases g with
  | none => rfl
  | some g => simp [Channel.join, Channel.inSlot]; exact rfl

theorem fadesOn_of_goals {s : State} {aims : Fin 24 → Option Nat} {k : Fin 16}
    (h : ∀ i : Fin 24, (s.light.channels[i]).inSlot k = (aims i).isSome) : s.fadesOn k = goalCount aims := by
  simp only [State.fadesOn, goalCount, h]

/-- After its channels have left their fades a change takes a free slot with a member for each goal (R105, R106). -/
theorem slotsLawful_joinSlot {s : State} {aims : Fin 24 → Option Nat} {k : Fin 16} {fade : Nat} (long : 0 < fade)
    (goals : goalCount aims ≠ 0) (free : s.pool[k] = none)
    (left : ∀ i, (aims i).isSome = true → (s.light.channels[i]).fade = none) (h : s.slotsLawful) :
    ((s.giveSlot k { owner := .light, length := fade, elapsed := 0, members := goalCount aims }).joinSlot aims k).slotsLawful := by
  obtain ⟨fadeless, unnamed⟩ := slotsLawful_free_slot h free
  have chan : ∀ (i : Fin 24) (j : Fin 16),
      ((((s.giveSlot k { owner := .light, length := fade, elapsed := 0, members := goalCount aims }).joinSlot aims
        k).light.channels[i])).inSlot j = if (aims i).isSome then decide (k = j) else (s.light.channels[i]).inSlot j := by
    intro i j
    rw [← inSlot_join]
    simp [State.joinSlot, State.giveSlot]
  have none_left : ∀ i : Fin 24, (s.light.channels[i]).inSlot k = false := by
    intro i
    simp only [State.fadesOn, List.length_eq_zero_iff, List.filter_eq_nil_iff] at fadeless
    simpa using fadeless i (List.mem_finRange i)
  refine slotsLawful_give (s := s) (k := k)
    (slot := { owner := .light, length := fade, elapsed := 0, members := goalCount aims })
    (by simp [State.joinSlot, State.giveSlot]) long ?_ ?_
    (fun ax j _ => by simp [State.joinSlot, State.giveSlot])
    (fun ax => by simpa [State.joinSlot, State.giveSlot] using h.2 ax) h
  · refine ⟨Nat.pos_of_ne_zero goals, ?_, fun ax => by simpa [State.joinSlot, State.giveSlot] using unnamed ax⟩
    refine (fadesOn_of_goals fun i => ?_).symm
    rw [chan, none_left]
    cases (aims i).isSome <;> simp
  · intro j hj
    refine fadesOn_congr fun i => ?_
    rw [chan]
    split
    · next e => rw [inSlot_of_fade_none (left i e)]; simp [Ne.symm hj]
    · rfl

theorem orderly_joinSlot {s : State} {aims : Fin 24 → Option Nat} {k : Fin 16} {fade : Nat} (long : 0 < fade)
    (goals : goalCount aims ≠ 0) (free : s.pool[k] = none)
    (left : ∀ i, (aims i).isSome = true → (s.light.channels[i]).fade = none) :
    Orderly s ((s.giveSlot k { owner := .light, length := fade, elapsed := 0, members := goalCount aims }).joinSlot aims k) where
  station := by simp [State.joinSlot, State.giveSlot, State.station]
  queue := by simp [State.joinSlot, State.giveSlot]
  intake := by simp [State.joinSlot, State.giveSlot]
  schedule := by simp [State.joinSlot, State.giveSlot]
  counts := fun h => by simpa [State.lineCountsBounded, State.joinSlot, State.giveSlot] using h
  disabled := fun ax => by simp [State.joinSlot, State.giveSlot]
  slots := slotsLawful_joinSlot long goals free left

theorem leaveFades_fade {s : State} {sel : Fin 24 → Bool} {i : Fin 24} (h : sel i = true) :
    ((s.leaveFades sel).light.channels[i]).fade = none := by
  simp [State.leaveFades, h]

theorem orderly_changeLevels (s : State) (aims : Fin 24 → Option Nat) (fade : Nat) :
    Orderly s (s.changeLevels aims fade) := by
  have left := orderly_leaveFades s fun i => (aims i).isSome
  unfold State.changeLevels
  split
  · exact .refl s
  · next goals =>
    dsimp only; split
    · exact left.trans (orderly_takeLevels _ aims)
    · next long =>
      split
      · next k hk =>
        exact left.trans (orderly_joinSlot (Nat.pos_of_ne_zero long) goals (freeSlot_some hk)
          fun i h => leaveFades_fade (sel := fun i => (aims i).isSome) h)
      · exact left.trans ((orderly_takeLevels _ aims).trans (orderly_raise _ _))

theorem orderly_recallScene (s : State) (scene : Fin 8) (sel : Fin 24 → Bool) (fade : Option Nat) :
    Orderly s (s.recallScene scene sel fade) :=
  (orderly_changeLevels s _ _).trans (orderly_markScene _ _ _)

theorem orderly_recallAlert (s : State) : Orderly s s.recallAlert := by
  unfold State.recallAlert; split
  · exact orderly_recallScene s _ _ _
  · exact .refl s

theorem orderly_stopRun (s : State) : Orderly s s.stopRun := by
  refine .trans ?_ (orderly_disown _ .runStep)
  exact orderly_setLight s fun _ _ => rfl

theorem orderly_beginOverride (s : State) : Orderly s s.beginOverride := by
  refine .trans (.trans ?_ (orderly_stopRun _)) (orderly_recallAlert _)
  exact orderly_setLight s fun _ _ => rfl

theorem orderly_applyRow (s : State) (row : TriggerRow) (reason : StopReason) : Orderly s (s.applyRow row reason) := by
  have axes : Orderly s
      (if row.axisAction = .stopRamp then (s.stopMoving reason .A).stopMoving reason .B else s) :=
    orderly_ite (fun _ => ((trails_stopMoving s _ .A).trans (trails_stopMoving _ _ .B)).orderly) (fun _ => .refl s)
  exact axes.trans (orderly_ite (fun _ => orderly_recallAlert _) (fun _ => .refl _))

/-! ## The stepping of the pool -/

theorem Slot.stepped_owner (slot : Slot) : slot.stepped.owner = slot.owner := by
  unfold Slot.stepped; split <;> rfl
theorem Slot.stepped_members (slot : Slot) : slot.stepped.members = slot.members := by
  unfold Slot.stepped; split <;> rfl
theorem Slot.stepped_young {slot : Slot} (h : slot.elapsed < slot.length) : slot.stepped.elapsed < slot.stepped.length := by
  unfold Slot.stepped; split
  · assumption
  · exact h

theorem stepSlots_pool (s : State) (due : Fin 16 → Bool) (k : Fin 16) :
    (s.stepSlots due).pool[k] = if due k then (s.pool[k]).map Slot.stepped else s.pool[k] := by
  simp [State.stepSlots]

theorem stepSlots_axis (s : State) (due : Fin 16 → Bool) (ax : Axis) :
    (s.stepSlots due).axis ax = { s.axis ax with duty := (s.axis ax).steppedDuty (dueSlots s.pool due) } := by
  cases ax <;> rfl

theorem Channel.stepped_inSlot (c : Channel) (stepping : Vector (Option Slot) 16) (k : Fin 16) :
    (c.stepped stepping).inSlot k = c.inSlot k := by
  unfold Channel.stepped
  split
  · split
    · rfl
    · rfl
  · rfl

theorem stepped_of_ite {c : Bool} {old : Option Slot} {slot : Slot}
    (h : (if c then old.map Slot.stepped else old) = some slot) : ∃ x, old = some x ∧ slot.owner = x.owner ∧
      slot.members = x.members ∧ (x.elapsed < x.length → slot.elapsed < slot.length) := by
  split at h
  · obtain ⟨x, hx, rfl⟩ := Option.map_eq_some_iff.1 h
    exact ⟨x, hx, x.stepped_owner, x.stepped_members, Slot.stepped_young⟩
  · exact ⟨slot, h, rfl, rfl, id⟩

theorem slotsLawful_stepSlots (s : State) (due : Fin 16 → Bool) (h : s.slotsLawful) : (s.stepSlots due).slotsLawful := by
  have fades : ∀ k, (s.stepSlots due).fadesOn k = s.fadesOn k := fun k => fadesOn_congr fun i => by
    simp [State.stepSlots, Channel.stepped_inSlot]
  refine slotsLawful_of (fun k hp => ?_) (fun k slot hp ho => ?_) (fun k slot ax a b hp ho => ?_)
    (fun ax => by simpa only [stepSlots_axis] using h.2 ax)
  all_goals
    rw [stepSlots_pool] at hp
    simp only [fades, stepSlots_axis]
  · refine slotsLawful_free_slot h ?_
    split at hp
    · simpa using hp
    · exact hp
  · obtain ⟨old, hs, owner, members, young⟩ := stepped_of_ite hp
    obtain ⟨y, rest⟩ := slotsLawful_light_slot h hs (owner ▸ ho)
    exact ⟨young y, members ▸ rest⟩
  · obtain ⟨old, hs, owner, members, young⟩ := stepped_of_ite hp
    obtain ⟨y, rest⟩ := slotsLawful_motor_slot h hs (owner ▸ ho)
    exact ⟨young y, members ▸ rest⟩

theorem orderly_stepSlots (s : State) (due : Fin 16 → Bool) : Orderly s (s.stepSlots due) where
  station := by simp [State.stepSlots, State.station]
  queue := by simp [State.stepSlots]
  intake := by simp [State.stepSlots]
  schedule := by simp [State.stepSlots]
  counts := fun h => by simpa [State.lineCountsBounded, State.stepSlots] using h
  disabled := fun ax => by simp [stepSlots_axis]
  slots := slotsLawful_stepSlots s due

theorem spares_enterRunning (s : State) (ax : Axis) (formed : (s.axis ax).state ≠ .disabled) :
    Spares s (s.enterRunning ax) := by
  refine (spares_setAxis s ax ?_ ?_).trans
    (trails_enter _ ax .running (by simpa using formed) fun _ => .inl (by simp)).toSpares
  · rfl
  · exact id

/-- An axis without a slot enters RUNNING (R143). -/
theorem trails_enterRunning (s : State) (ax : Axis) (formed : (s.axis ax).state ≠ .disabled)
    (slot : (s.axis ax).slot = none) : Trails s (s.enterRunning ax) := by
  refine .trans ?_ (trails_enter _ ax .running (by simpa using formed) fun _ => .inl (by simp))
  exact trails_setAxis_same s ax rfl rfl slot.symm

/-- The slot of a completed ramp and its axis let go of each other. -/
theorem slotsLawful_dropMotor {s : State} {k : Fin 16} {slot : Slot} {ax : Axis} {start goal : Nat}
    (hp : s.pool[k] = some slot) (ho : slot.owner = .motor ax start goal) (h : s.slotsLawful) :
    ((s.setPool (s.pool.set k none)).setAxis ax { s.axis ax with slot := none, duty := goal }).slotsLawful := by
  obtain ⟨-, -, fades, named⟩ := slotsLawful_motor_slot h hp ho
  refine slotsLawful_free (s := s) (k := k) (by simp) ?_ ?_ (fun j _ => fadesOn_congr (by simp)) ?_ ?_ h
  · rw [← fades]; exact fadesOn_congr (by simp)
  · intro x; rw [setAxis_axis_eq]; split
    · simp
    · next e => simpa [e] using (not_congr (named x)).2 e
  · intro x j hj; rw [setAxis_axis_eq]; split
    · next e => subst e; simp only [(named x).2 rfl, reduceCtorEq, Option.some.injEq, false_iff]; exact fun c => hj c.symm
    · simp
  · intro x; rw [setAxis_axis_eq]; split
    · simp
    · simpa using h.2 x

theorem orderly_dropMotor {s : State} {k : Fin 16} {slot : Slot} {ax : Axis} {start goal : Nat}
    (hp : s.pool[k] = some slot) (ho : slot.owner = .motor ax start goal) :
    Orderly s ((s.setPool (s.pool.set k none)).setAxis ax { s.axis ax with slot := none, duty := goal }) where
  station := by simp [State.station]
  queue := by simp
  intake := by simp
  schedule := by simp
  counts := fun c => by simpa [State.lineCountsBounded] using c
  disabled := fun x => by
    rw [setAxis_axis_eq]; split
    · next e => subst e; exact id
    · simp
  slots := slotsLawful_dropMotor hp ho

/-- A MOTOR slot whose axis is in neither ramp state is against the law, so its completion has nothing to keep. -/
theorem orderly_freeStray {s : State} {k : Fin 16} {slot : Slot} {ax : Axis} {start goal : Nat}
    (hp : s.pool[k] = some slot) (ho : slot.owner = .motor ax start goal) (a : (s.axis ax).state ≠ .starting)
    (b : (s.axis ax).state ≠ .stopping) : Orderly s (s.setPool (s.pool.set k none)) where
  station := by simp [State.station]
  queue := by simp
  intake := by simp
  schedule := by simp
  counts := fun h => by simpa [State.lineCountsBounded] using h
  disabled := fun x => by simp
  slots := fun h => by
    obtain ⟨-, -, -, all⟩ := slotsLawful_motor_slot h hp ho
    have named : (s.axis ax).slot = some k := (all ax).2 rfl
    rw [slot_none_of_state h a b] at named
    cases named

theorem orderly_completeLight {s : State} {k : Fin 16} {slot : Slot} (hp : s.pool[k] = some slot)
    (ho : slot.owner = .light) : Orderly s (s.completeLight k) :=
  Trails.orderly ⟨spares_completeLight s k, slotsLawful_completeLight hp ho⟩

theorem orderly_completeRamp (s : State) (k : Fin 16) : Orderly s (s.completeRamp k) := by
  unfold State.completeRamp
  split
  · next hp => exact orderly_completeLight hp rfl
  · next ax start goal _ _ _ hp =>
    have drop := orderly_dropMotor hp rfl
    have stray := orderly_freeStray hp (ax := ax) (start := start) (goal := goal) rfl
    dsimp only [setPool_axis] at stray ⊢
    split
    · next st =>
      simp only [setPool_axis] at st ⊢
      exact drop.trans (trails_enterRunning _ ax (by simp [st]) (by simp)).orderly
    · next st =>
      simp only [setPool_axis] at st ⊢
      exact drop.trans (trails_rest _ ax (by simp [st])).orderly
    all_goals
      next st =>
      simp only [setPool_axis] at st
      exact stray (by simp [st]) (by simp [st])
  · exact .refl s

theorem orderly_takeSteps (s : State) : Orderly s s.takeSteps :=
  ((orderly_stepSlots s _).trans (orderly_setOwed _ _)).trans (orderly_foldl orderly_completeRamp _ _)

/-! ## What a boundary brings to an axis -/

theorem orderly_leaseStep (s : State) (ax : Axis) : Orderly s (s.leaseStep ax) := by
  unfold State.leaseStep; dsimp only; split
  · next h =>
    refine (trails_enterStopping s ax .leaseEnd ?_).orderly
    unfold AxisRecord.leaseAfter at h
    split at h
    · split at h
      · next m => exact not_disabled_of_moves m
      · cases h
    · cases h
  · exact orderly_setAxis s ax rfl rfl
  · exact .refl s

theorem orderly_stallStep (s : State) (ax : Axis) : Orderly s (s.stallStep ax) := by
  unfold State.stallStep; dsimp only; split
  · exact .refl s
  · next g =>
    split
    · exact orderly_setAxis s ax rfl rfl
    · refine (orderly_raise s _).trans (trails_faultFor _ ax .stall ?_).orderly
      rw [raise_axis]; intro c; rw [c] at g; exact g rfl

theorem orderly_blankingStep (s : State) (ax : Axis) : Orderly s (s.blankingStep ax) :=
  orderly_ite (fun _ => orderly_setAxis s ax rfl rfl) (fun _ => .refl s)

/-! ## The peer table and the terms -/

theorem orderly_reevaluate (s : State) (ax : Axis) : Orderly s (s.reevaluate ax) := by
  unfold State.reevaluate; dsimp only
  have lose (t : State) (d : Direction) (c : Bool) : Orderly t (if c then t.loseDirection ax d else t) :=
    orderly_ite (fun _ => (trails_loseDirection t ax d).orderly) (fun _ => .refl t)
  exact ((orderly_setAxisSafety s ax _).trans (lose _ .plus _)).trans (lose _ .minus _)

theorem orderly_reportPeer (s : State) : Orderly s s.reportPeer :=
  (orderly_reevaluate s .A).trans (orderly_reevaluate _ .B)

theorem orderly_freshnessStep (s : State) (a : Nat) : Orderly s (s.freshnessStep a) :=
  (orderly_setPeer s _).trans (orderly_ite (fun _ => orderly_reportPeer _) (fun _ => .refl _))

theorem orderly_takeAnnounce (s : State) (a : Nat) (p : List Byte) : Orderly s (s.takeAnnounce a p) :=
  (orderly_setPeer s _).trans (orderly_reportPeer _)

/-! ## Requests at the blocks -/

theorem trails_start (s : State) (ax : Axis) (d : Direction) (mode : Mode) (target : Target) (lease : Option Lease)
    (stopped : (s.axis ax).state = .stopped) : Trails s (s.start ax d mode target lease) := by
  unfold State.start; dsimp only
  have begun : Trails s ((s.setAxis ax { s.axis ax with
      direction := some d, mode := some mode, target := some target, lease := lease, reason := .none,
      peak := 0, stallCount := 0, backOff := 0, blanking := (s.axisCfg ax).startBlanking, duty := 0 }).enter ax .starting) := by
    refine .trans ?_ (trails_enter _ ax .starting (by simp [stopped]) fun _ => .inr (.inl rfl))
    exact trails_setAxis_same s ax rfl rfl rfl
  have starting (r : AxisRecord) : (((s.setAxis ax r).enter ax .starting).axis ax).state = .starting :=
    enter_state_self _ _ _
  have slot (h : s.slotsLawful) (r : AxisRecord) (hr : r.slot = (s.axis ax).slot) :
      (((s.setAxis ax r).enter ax .starting).axis ax).slot = none := by
    rw [enter_slot_self, State.setAxis_axis, hr]
    exact slot_none_of_state h (by simp [stopped]) (by simp [stopped])
  split
  · exact ⟨begun.toSpares.trans (spares_enterRunning _ ax (by rw [starting]; decide)), fun h =>
      (trails_enterRunning _ ax (by rw [starting]; decide) (by exact slot h _ rfl)).slots (begun.slots h)⟩
  · next n =>
    exact ⟨begun.toSpares.trans (spares_askMotor _ ax _ _ _), fun h =>
      slotsLawful_askMotor (Nat.pos_of_ne_zero n) (by exact slot h _ rfl) (.inl (starting _)) (begun.slots h)⟩

theorem trails_snd_ite {c : Prop} [Decidable c] {s : State} {x y : Code × State} (hx : Trails s x.2) (hy : Trails s y.2) :
    Trails s (if c then x else y).2 := by
  split <;> assumption

theorem trails_runGoto (s : State) (ax : Axis) (target : Target) : Trails s (s.runGoto ax target).2 := by
  unfold State.runGoto; dsimp only
  split
  case h_8 st =>
    have done (reason : StopReason) :
        Trails s (s.setAxis ax { s.axis ax with target := some target, reason := reason }) :=
      trails_setAxis_same s ax rfl rfl rfl
    refine trails_snd_ite (.refl s) ?_
    split
    · exact done _
    · exact trails_snd_ite (trails_start s ax _ _ _ _ st) (.refl s)
  all_goals exact .refl s

theorem trails_stopAxis (s : State) (ax : Axis) : Trails s (s.stopAxis ax) := by
  unfold State.stopAxis
  split
  · next st => exact trails_enterStopping s ax _ (by simp [st])
  · next st => exact trails_enterStopping s ax _ (by simp [st])
  · next st => exact trails_restFor s ax _ (by simp [st])
  all_goals exact .refl s

theorem orderly_runLevelSet (s : State) (addressing : Addressing) (channel : Option (Fin 24)) (level fade : Nat) :
    Orderly s (s.runLevelSet addressing channel level fade) :=
  (orderly_changeLevels s _ _).trans (orderly_markScene _ _ _)

theorem orderly_runRunStart (s : State) : Orderly s s.runRunStart.2 := by
  unfold State.runRunStart; split
  · exact .refl s
  · refine .trans ?_ (orderly_disown _ .runStep)
    exact orderly_setLight s fun _ _ => rfl

theorem orderly_act (s : State) (addressing : Addressing) (x : Timed) : Orderly s (s.act addressing x).2 := by
  cases x with
  | goto ax target token => exact (trails_runGoto s ax target).orderly
  | stop ax => exact (trails_stopAxis s ax).orderly
  | sceneRecall scene fade => exact orderly_recallScene s scene _ fade
  | levelSet channel level fade => exact orderly_runLevelSet s addressing channel level fade
  | runStart => exact orderly_runRunStart s
  | runStop => exact orderly_stopRun s

theorem orderly_perform (s : State) (addressing : Addressing) (x : Timed) : Orderly s (s.perform addressing x).2 := by
  unfold State.perform; split
  · exact .refl s
  · exact orderly_act s addressing x

/-! ## The schedule list -/

theorem length_insertEntry (p : BitVec 16) (e : Entry) (l : List Entry) : (insertEntry p e l).length = l.length + 1 := by
  induction l with
  | nil => rfl
  | cons x l ih =>
    unfold insertEntry; split
    · simp [ih]
    · simp

theorem orderly_schedule (s : State) (x : Timed) (source : Source) (addressing : Addressing) (k : Nat)
    (room : s.time.schedule.length < 16) : Orderly s (s.schedule x source addressing k) :=
  orderly_setTime s fun _ => by rw [length_insertEntry]; exact room

theorem orderly_runTimed (s : State) (r : Request) (x : Timed × Option Byte) : Orderly s (s.runTimed r x).2 := by
  unfold State.runTimed
  split
  · exact orderly_perform s _ _
  · dsimp only; split
    · exact orderly_perform s _ _
    · split
      · split
        · exact .refl s
        · split
          · next room => exact orderly_schedule s _ _ _ _ room
          · exact .refl s
      · split
        · exact .refl s
        · exact (orderly_raise s _).trans (orderly_perform _ _ _)

theorem orderly_deferred (s : State) (e : Entry) (c : Code) : Orderly s (s.deferred e c) := by
  unfold State.deferred; split
  · exact orderly_offer s _
  · exact .refl s

theorem orderly_runEntry (s : State) (e : Entry) : Orderly s (s.runEntry e) :=
  (((orderly_perform s _ _).trans (orderly_settled _)).trans (orderly_deferred _ e _)).trans (orderly_settled _)

theorem orderly_realignEntry (s : State) (e : Entry) : Orderly s (s.realignEntry e) := by
  have answered (t : State) (c : Code) : Orderly t (t.settled.deferred e c).settled :=
    ((orderly_settled t).trans (orderly_deferred _ e c)).trans (orderly_settled _)
  unfold State.realignEntry; dsimp only
  refine orderly_ite (fun _ => ?_) (fun _ => ?_)
  · exact ((orderly_raise s _).trans (orderly_perform _ _ _)).trans (answered _ _)
  · exact (orderly_raise s .scheduleLost).trans (answered _ _)

theorem orderly_filterSchedule (s : State) (p : Entry → Bool) :
    Orderly s (s.setTime { s.time with schedule := s.time.schedule.filter p }) :=
  orderly_setTime s fun h => Nat.le_trans (List.length_filter_le _ _) h

theorem orderly_realignSchedule (s : State) : Orderly s s.realignSchedule :=
  (orderly_filterSchedule s _).trans (orderly_foldl orderly_realignEntry _ _)

theorem orderly_runDue (s : State) : Orderly s s.runDue :=
  (orderly_filterSchedule s _).trans (orderly_foldl orderly_runEntry _ _)

/-! ## The Time Base -/

/-- A write to the Time Base that leaves the schedule list. -/
theorem orderly_setTime_same (s : State) {x : TimeBase} (h : x.schedule = s.time.schedule) : Orderly s (s.setTime x) :=
  orderly_setTime s fun k => by rw [h]; exact k

theorem orderly_freeRun (s : State) : Orderly s s.freeRun := orderly_setTime_same s rfl

theorem orderly_silenceTimerStep (s : State) : Orderly s s.silenceTimerStep := by
  unfold State.silenceTimerStep; split
  · exact .refl s
  · split
    · exact orderly_setTime_same s rfl
    · refine .trans ?_ (orderly_freeRun _)
      exact orderly_setTime_same s rfl

theorem orderly_referenceStep (s : State) : Orderly s s.referenceStep := by
  unfold State.referenceStep; split
  · exact .refl s
  · split
    · exact orderly_setTime_same s rfl
    · exact orderly_freeRun s

theorem orderly_hardRealign (s : State) (pb : BitVec 16) (phib age : Nat) : Orderly s (s.hardRealign pb phib age) := by
  refine .trans ?_ ((orderly_raise _ .realigned).trans ((orderly_settled _).trans (orderly_realignSchedule _)))
  exact orderly_setTime_same s rfl

theorem orderly_align (s : State) (pb : BitVec 16) (phib : Nat) (latch : Latch) (delta : Option Int) :
    Orderly s (s.align pb phib latch delta) := by
  have noted (d : LastDelta) : Orderly s (s.setTime { s.time with lastDelta := d }) := orderly_setTime_same s rfl
  unfold State.align; dsimp only; split
  · split
    · exact (noted _).trans (orderly_setTime_same _ rfl)
    · split
      · exact (noted _).trans (orderly_setTime_same _ rfl)
      · exact (noted _).trans (orderly_hardRealign _ _ _ _)
  · exact (noted _).trans (orderly_hardRealign _ _ _ _)

theorem orderly_deferTo (s : State) (a : Nat) : Orderly s (s.deferTo a) := by
  unfold State.deferTo; split
  · split
    · exact .refl s
    · exact orderly_setTime_same s rfl
    · exact orderly_setTime_same s rfl
  · exact .refl s

theorem orderly_takeBeacon (s : State) (a : Nat) (pb : BitVec 16) (received : Nat) (latch : Latch) :
    Orderly s (s.takeBeacon a pb received latch) := by
  have marked : Orderly s ((s.setTime { s.time with
      arrivals := markArrival s.time.arrivals (beaconDelta latch pb (takenPhase received)) }).deferTo a) := by
    refine .trans ?_ (orderly_deferTo _ a)
    exact orderly_setTime_same s rfl
  unfold State.takeBeacon; dsimp only
  refine marked.trans (orderly_ite (fun _ => ?_) (fun _ => .refl _))
  refine .trans ?_ (orderly_align _ _ _ _ _)
  exact orderly_setTime_same _ rfl

/-! ## Announcing, beacons, the run and the keys -/

theorem orderly_offerBeacon (s : State) : Orderly s s.offerBeacon :=
  orderly_ite (fun _ => orderly_offer s _) (fun _ => .refl s)

theorem orderly_announceCountStep (s : State) : Orderly s s.announceCountStep :=
  orderly_ite (fun _ => .refl s) fun _ =>
    orderly_ite (fun _ => orderly_setPeer s _) (fun _ => orderly_announceRequest s)

theorem orderly_runStepNow (s : State) : Orderly s s.runStepNow := by
  unfold State.runStepNow; split
  · exact .refl s
  · refine orderly_ite (fun _ => .refl s) fun _ => orderly_ite (fun _ => ?_) (fun _ => ?_)
    · exact orderly_setLight s fun _ _ => rfl
    · exact orderly_setLight s fun _ _ => rfl

theorem orderly_keyStep (s : State) (k : Fin 8) : Orderly s (s.keyStep k) := orderly_setCmd s id

/-! ## The Line Unit -/

theorem orderly_endFrame (s : State) (place : LinePlace) : Orderly s (s.endFrame place) := by
  refine .trans (t := s.setLine { s.line with place := place, bits := [], idleCount := 0, ackDrive := false }) ?_ ?_
  · exact orderly_setLine_same s id (.inr rfl) rfl rfl rfl rfl
  · exact orderly_setTime_same _ rfl

theorem orderly_leaveLine (s : State) : Orderly s s.leaveLine := by
  have left : Orderly s (s.setLine { s.line with queue := waiting s.line.queue, own := .none, leaveOnLoss := false }) :=
    orderly_setLine_same s (fun h => Nat.le_trans (List.length_filter_le _ _) h) (.inl rfl) rfl rfl rfl rfl
  unfold State.leaveLine; dsimp only
  refine left.trans (orderly_ite (fun _ => ?_) (fun _ => .refl _))
  refine .trans ?_ (orderly_offer _ _)
  exact orderly_setLine_same _ id (.inl rfl) rfl rfl rfl rfl

theorem orderly_credit (s : State) : Orderly s s.credit :=
  orderly_setLine s id fun h => by
    simp only [State.lineCountsBounded, State.setLine_line, State.setLine_cfg] at h ⊢
    omega

theorem orderly_countError (s : State) : Orderly s s.countError := by
  have taken : Orderly s (s.setLine { s.line with budget := s.line.budget - 1 }) :=
    orderly_setLine s id fun h => by
      simp only [State.lineCountsBounded, State.setLine_line, State.setLine_cfg] at h ⊢
      omega
  unfold State.countError; dsimp only
  refine taken.trans (orderly_ite (fun _ => ?_) (fun _ => .refl _))
  refine .trans (.trans ?_ (orderly_raise _ _)) (orderly_applyRow _ _ _)
  exact orderly_setLine_same _ id (.inl rfl) rfl rfl rfl rfl

theorem read_queue (l : LineUnit) (b : LineBit) : (l.read b).queue = l.queue := by
  unfold LineUnit.read; dsimp only; split <;> rfl
theorem read_releaseCount (l : LineUnit) (b : LineBit) : (l.read b).releaseCount = l.releaseCount := by
  unfold LineUnit.read; dsimp only; split <;> rfl
theorem read_budget (l : LineUnit) (b : LineBit) : (l.read b).budget = l.budget := by
  unfold LineUnit.read; dsimp only; split <;> rfl
theorem read_silence (l : LineUnit) (b : LineBit) : (l.read b).silence = l.silence := by
  unfold LineUnit.read; dsimp only; split <;> rfl

theorem read_idleCount (l : LineUnit) (b : LineBit) (h : l.idleCount ≤ 10) : (l.read b).idleCount ≤ 10 := by
  unfold LineUnit.read; dsimp only; split
  · cases b <;> simp
  · exact h
  · simp

theorem read_dominantCount (l : LineUnit) (b : LineBit) : (l.read b).dominantCount ≤ 40 := by
  have bound : (if l.allstop then 40 else if b then 0 else min 40 (l.dominantCount + 1)) ≤ 40 := by
    split
    · exact Nat.le_refl _
    · split <;> omega
  unfold LineUnit.read; dsimp only; split <;> exact bound

theorem orderly_read (s : State) (b : LineBit) : Orderly s (s.setLine (s.line.read b)) :=
  orderly_setLine s (fun h => by rw [read_queue]; exact h) fun ⟨idle, _, release, budget, silence⟩ =>
    ⟨read_idleCount _ b idle, read_dominantCount _ b, by simpa [read_releaseCount] using release,
     by simpa [read_budget] using budget, by simpa [read_silence] using silence⟩

theorem orderly_endOwnSlot (s : State) (level : LineBit) : Orderly s (s.endOwnSlot level) :=
  orderly_ite (fun _ => (orderly_ite (fun _ => .refl s) (fun _ => orderly_credit s)).trans (orderly_leaveLine _))
    (fun _ => .refl s)

theorem orderly_countOwedError (s : State) (b : LineBit) : Orderly s (s.countOwedError b) := by
  refine orderly_ite (fun _ => .trans ?_ (orderly_countError _)) (fun _ => .refl s)
  exact orderly_setLine_same s id (.inl rfl) rfl rfl rfl rfl

theorem orderly_readBit (s : State) (b : LineBit) : Orderly s (s.readBit b) :=
  ((orderly_read s b).trans (orderly_endOwnSlot _ b)).trans (orderly_countOwedError _ b)

theorem orderly_readBits (s : State) (bits : List LineBit) : Orderly s (s.readBits bits) :=
  orderly_foldl orderly_readBit bits s

theorem length_putOnLine (cls : Nat) (q : List SendFrame) : (putOnLine cls q).length = q.length := by
  induction q with
  | nil => rfl
  | cons f q ih => unfold putOnLine; split <;> simp [ih]

/-- The start bit of a frame, own or received, is one more bit read. -/
theorem orderly_startBit (s : State) {x : LineUnit} (queue : x.queue.length = s.line.queue.length)
    (idle : x.idleCount = (s.line.read false).idleCount) (dominant : x.dominantCount = (s.line.read false).dominantCount)
    (release : x.releaseCount = s.line.releaseCount) (budget : x.budget = s.line.budget)
    (silence : x.silence = s.line.silence) : Orderly s (s.setLine x) :=
  orderly_setLine s (fun h => by rw [queue]; exact h) fun ⟨hi, _, hr, hb, hs⟩ =>
    ⟨by simpa [idle] using read_idleCount _ false hi, by simpa [dominant] using read_dominantCount _ false,
     by simpa [release] using hr, by simpa [budget] using hb, by simpa [silence] using hs⟩

theorem orderly_beginFrame (s : State) : Orderly s s.beginFrame :=
  orderly_startBit s (length_putOnLine _ _) rfl rfl (read_releaseCount _ _) (read_budget _ _) (read_silence _ _)

theorem orderly_startReception (s : State) : Orderly s s.startReception :=
  orderly_startBit s (by rw [read_queue]) rfl rfl (read_releaseCount _ _) (read_budget _ _) (read_silence _ _)

theorem orderly_loseContention (s : State) : Orderly s s.loseContention :=
  orderly_ite (fun _ => orderly_leaveLine s) fun _ =>
    orderly_setLine_same s (by simp [backToWaiting]) (.inl rfl) rfl rfl rfl rfl

theorem orderly_winContention (s : State) : Orderly s s.winContention := by
  have won : Orderly s (s.setLine { s.line with own := .sending, leaveOnLoss := false }) :=
    orderly_setLine_same s id (.inl rfl) rfl rfl rfl rfl
  unfold State.winContention; dsimp only; split
  · refine won.trans (orderly_ite (fun _ => ?_) (fun _ => .refl _))
    exact orderly_setLine_same _ (by simp [fillOnLine]) (.inl rfl) rfl rfl rfl rfl
  · exact won

theorem orderly_setErrorOwed (s : State) (b : Bool) : Orderly s (s.setLine { s.line with errorOwed := b }) :=
  orderly_setLine_same s id (.inl rfl) rfl rfl rfl rfl

theorem orderly_bitErrorNow (s : State) : Orderly s s.bitErrorNow := by
  have ended := (orderly_endFrame s .outside).trans (orderly_leaveLine _)
  unfold State.bitErrorNow; dsimp only; split
  · exact ended.trans (orderly_countError _)
  · exact ended.trans (orderly_setErrorOwed _ true)

theorem orderly_latchCount (s : State) : Orderly s s.latchCount := by
  refine orderly_ite (fun _ => ?_) (fun _ => ?_)
  · exact orderly_setLine_same s (by simp [fillOnLine]) (.inl rfl) rfl rfl rfl rfl
  · exact orderly_setTime_same s rfl

theorem orderly_enterSlot (s : State) : Orderly s s.enterSlot := by
  refine (orderly_endFrame s .slot).trans ?_
  exact orderly_setLine_same _ id (.inl rfl) rfl rfl rfl rfl

theorem orderly_intake (s : State) (f : Frame) : Orderly s (s.intake f) := by
  refine orderly_ite (fun _ => .refl s) fun _ => ?_
  split
  · next room => exact orderly_setCmd s fun _ => by simpa using room
  · exact orderly_raise s _

theorem orderly_route (s : State) (f : Frame) (latch : Latch) : Orderly s (s.route f latch) := by
  unfold State.route
  split
  all_goals first
    | exact orderly_intake s f
    | exact orderly_ite (fun _ => orderly_owe s _) (fun _ => .refl s)
    | exact .refl s

theorem orderly_endSilence (s : State) : Orderly s s.endSilence :=
  orderly_setLine s id fun ⟨idle, dominant, release, budget, _⟩ => ⟨idle, dominant, release, budget, Nat.zero_le _⟩

theorem orderly_acknowledge (s : State) : Orderly s s.acknowledge :=
  orderly_setLine_same s id (.inl rfl) rfl rfl rfl rfl

theorem orderly_receive (s : State) (f : Frame) : Orderly s (s.receive f) := by
  have taken := (((orderly_endFrame s .slot).trans (orderly_acknowledge _)).trans (orderly_credit _)).trans
    (orderly_endSilence _)
  exact taken.trans (orderly_ite (fun _ => orderly_raise _ _) (fun _ => orderly_route _ f _))

theorem orderly_receiveError (s : State) : Orderly s s.receiveError := by
  unfold State.receiveError
  split
  · exact (orderly_endFrame s _).trans (orderly_countError _)
  · exact (orderly_endFrame s _).trans (orderly_countError _)
  · exact (orderly_endFrame s _).trans (orderly_setErrorOwed _ true)
  · exact (orderly_endFrame s _).trans (orderly_countError _)
  all_goals exact .refl s

/-! ## Line conditions -/

theorem orderly_discardFrame (s : State) : Orderly s s.discardFrame := by
  unfold State.discardFrame; dsimp only
  have ended := orderly_endFrame s .outside
  split
  · exact ended
  · exact ended.trans (orderly_loseContention _)
  all_goals exact ended.trans (orderly_leaveLine _)

theorem orderly_lineStop (s : State) : Orderly s s.lineStop := (trails_lineStop s).orderly

theorem orderly_enterAllstop (s : State) : Orderly s s.enterAllstop := by
  have entered : Orderly s.discardFrame
      (s.discardFrame.setLine { s.discardFrame.line with allstop := true, errorOwed := false }) :=
    orderly_setLine_same _ id (.inl rfl) rfl rfl rfl rfl
  exact (((((orderly_discardFrame s).trans entered).trans (orderly_raise _ .allstopSeen)).trans
    ((orderly_setSafety _ _).trans (orderly_disown _ .holdOffEnd))).trans (orderly_lineStop _)).trans
      (orderly_ite (fun _ => orderly_beginOverride _) (fun _ => .refl _))

theorem orderly_holdOffStep (s : State) : Orderly s s.holdOffStep := orderly_setSafety s _

theorem orderly_endHoldOff (s : State) : Orderly s s.endHoldOff :=
  ((orderly_disown s _).trans (orderly_holdOffStep _)).trans
    (orderly_ite (fun _ => orderly_enterAllstop _) (fun _ => .refl _))

theorem orderly_exitAllstop (s : State) : Orderly s s.exitAllstop := by
  have left : Orderly s (s.setLine { s.line with allstop := false, dominantCount := 0 }) :=
    orderly_setLine s id fun ⟨idle, _, rest⟩ => ⟨idle, Nat.zero_le _, rest⟩
  have lights (t : State) : Orderly t (t.setLight { t.light with override := false }) :=
    orderly_setLight t fun _ _ => rfl
  exact (left.trans (orderly_setSafety _ _)).trans (lights _)

theorem orderly_cutFrame (s : State) : Orderly s s.cutFrame := by
  unfold State.cutFrame
  split
  · exact (orderly_endFrame s _).trans (orderly_leaveLine _)
  · exact (orderly_endFrame s _).trans (orderly_leaveLine _)
  · exact orderly_leaveLine s
  · exact orderly_endFrame s _
  all_goals exact .refl s

theorem orderly_sampleAsserted (s : State) : Orderly s s.sampleAsserted := by
  have read : Orderly s (s.setPins { s.pins with estop := true }) := orderly_setPins s _
  refine read.trans ?_
  exact orderly_setLine _ id fun ⟨idle, dominant, _, rest⟩ => ⟨idle, dominant, Nat.zero_le _, rest⟩

theorem orderly_assertEstop (s : State) : Orderly s s.assertEstop := by
  refine (orderly_sampleAsserted s).trans (orderly_ite (fun _ => .refl _) fun _ => ?_)
  refine (orderly_cutFrame _).trans (.trans ?_ (orderly_lineStop _))
  exact orderly_setLine_same _ id (.inl rfl) rfl rfl rfl rfl

theorem orderly_releaseEstop (s : State) : Orderly s s.releaseEstop := by
  refine orderly_ite (fun _ => ?_) (fun _ => .refl s)
  exact orderly_setLine s id fun ⟨idle, dominant, _, rest⟩ => ⟨idle, dominant, Nat.le_refl _, rest⟩

theorem orderly_silenceStep (s : State) : Orderly s s.silenceStep := by
  unfold State.silenceStep; dsimp only
  refine orderly_ite (fun _ => .refl s) fun _ => ?_
  split
  · next below =>
    exact orderly_setLine s id fun ⟨idle, dominant, release, budget, _⟩ =>
      ⟨idle, dominant, release, budget, Nat.le_of_lt below⟩
  · refine .trans (.trans ?_ (orderly_raise _ _)) (orderly_applyRow _ _ _)
    exact orderly_setLine s id fun ⟨idle, dominant, release, budget, _⟩ =>
      ⟨idle, dominant, release, budget, Nat.le_refl _⟩

/-! ## Pulses, switches and sensors -/

theorem orderly_backOff (s : State) (ax : Axis) (formed : (s.axis ax).state ≠ .disabled) : Orderly s (s.backOff ax) := by
  have turned : Orderly s (s.releaseSlot ax) := (trails_releaseSlot s ax).orderly
  refine turned.trans (.trans ?_ (trails_enter _ ax .reversing ?_ ?_).orderly)
  · exact orderly_setAxis _ ax rfl rfl
  · simpa [releaseSlot_axis_self] using formed
  · exact fun _ => .inl (by simp [releaseSlot_axis_self])

theorem orderly_restFor (s : State) (ax : Axis) (reason : StopReason) (formed : (s.axis ax).state ≠ .disabled) :
    Orderly s (s.restFor ax reason) := (trails_restFor s ax reason formed).orderly

theorem orderly_obstruct (s : State) (ax : Axis) : Orderly s (s.obstruct ax) := by
  have raised := orderly_raise s (.obstruction ax)
  have moving (h : (s.axis ax).state ≠ .disabled) : Orderly s
      (if backsOff (s.axisCfg ax) then (s.raise (.obstruction ax)).backOff ax
        else (s.raise (.obstruction ax)).restFor ax .obstruction) :=
    orderly_ite (fun _ => raised.trans (orderly_backOff _ ax (by simpa using h)))
      (fun _ => raised.trans (orderly_restFor _ ax _ (by simpa using h)))
  unfold State.obstruct
  split
  · next st => exact moving (by simp [st])
  · next st => exact moving (by simp [st])
  · next st => exact raised.trans (orderly_restFor _ ax _ (by simp [st]))
  · next st => exact raised.trans (trails_faultFor _ ax _ (by simp [st])).orderly
  all_goals exact .refl s

theorem orderly_creepSwitch (s : State) (ax : Axis) : Orderly s (s.creepSwitch ax) :=
  orderly_ite (fun _ => orderly_setAxis s ax rfl rfl) (fun _ => .refl s)

theorem orderly_countBackOff (s : State) (ax : Axis) (formed : (s.axis ax).state ≠ .disabled) :
    Orderly s (s.countBackOff ax) := by
  have counted : Orderly s (s.setAxis ax { s.axis ax with backOff := (s.axis ax).backOff - 1 }) :=
    orderly_setAxis s ax rfl rfl
  exact counted.trans (orderly_ite (fun _ => (trails_rest _ ax (by simpa using formed)).orderly) (fun _ => .refl _))

theorem orderly_afterPulse (s : State) (ax : Axis) (high : Bool) : Orderly s (s.afterPulse ax high) := by
  have moving (h : (s.axis ax).state ≠ .disabled) : Orderly s
      (if softLimit (s.axisCfg ax) (s.axis ax) then s.restFor ax .endReached
        else if (s.axis ax).onTarget then s.restFor ax .target else s.creepSwitch ax) :=
    orderly_ite (fun _ => orderly_restFor s ax _ h) fun _ =>
      orderly_ite (fun _ => orderly_restFor s ax _ h) (fun _ => orderly_creepSwitch s ax)
  unfold State.afterPulse; dsimp only
  split
  · next st => exact moving (by simp [st])
  · next st => exact moving (by simp [st])
  · next st => exact orderly_ite (fun _ => orderly_restFor s ax _ (by simp [st])) (fun _ => .refl s)
  · next st => exact orderly_ite (fun _ => orderly_countBackOff s ax (by simp [st])) (fun _ => .refl s)
  all_goals exact .refl s

theorem orderly_pulse (s : State) (ax : Axis) (high : Bool) : Orderly s (s.pulse ax high) := by
  refine .trans ?_ (orderly_afterPulse _ ax high)
  exact orderly_setAxis s ax rfl rfl

theorem atSwitch_state (r : AxisRecord) (cfg : AxisConfig) (d : Direction) : (r.atSwitch cfg d).state = r.state := by
  cases d <;> rfl
theorem atSwitch_slot (r : AxisRecord) (cfg : AxisConfig) (d : Direction) : (r.atSwitch cfg d).slot = r.slot := by
  cases d <;> rfl

theorem orderly_conflict (s : State) (ax : Axis) (formed : (s.axis ax).state ≠ .disabled) : Orderly s (s.conflict ax) :=
  (orderly_raise s _).trans (orderly_ite (fun _ => .refl _)
    (fun _ => (trails_faultFor _ ax _ (by simpa using formed)).orderly))

theorem orderly_afterSwitch (s : State) (ax : Axis) (which : Direction) : Orderly s (s.afterSwitch ax which) := by
  have arrives (h : (s.axis ax).state ≠ .disabled) : Orderly s
      (if (s.axis ax).onTarget then s.restFor ax .target else s.creepSwitch ax) :=
    orderly_ite (fun _ => orderly_restFor s ax _ h) (fun _ => orderly_creepSwitch s ax)
  unfold State.afterSwitch; dsimp only
  refine orderly_ite (fun _ => ?_) (fun _ => ?_)
  · split
    · next st => exact orderly_restFor s ax _ (by simp [st])
    · next st => exact orderly_restFor s ax _ (by simp [st])
    · next st => exact orderly_restFor s ax _ (by simp [st])
    · next st => exact (trails_rest s ax (by simp [st])).orderly
    all_goals exact .refl s
  · split
    · next st => exact arrives (by simp [st])
    · next st => exact arrives (by simp [st])
    all_goals exact .refl s

theorem orderly_activate (s : State) (ax : Axis) (which : Direction) (formed : (s.axis ax).state ≠ .disabled) :
    Orderly s (s.activate ax which) := by
  have placed : Orderly s (s.setAxis ax ((s.axis ax).atSwitch (s.axisCfg ax) which)) :=
    orderly_setAxis s ax (atSwitch_state _ _ _) (atSwitch_slot _ _ _)
  exact placed.trans (orderly_ite
    (fun _ => orderly_conflict _ ax (by rw [State.setAxis_axis, atSwitch_state]; exact formed))
    (fun _ => orderly_afterSwitch _ ax which))

theorem orderly_countObstruction (s : State) (c : Fin 4) (ax : Axis) : Orderly s (s.countObstruction c ax) :=
  orderly_ite (fun _ => orderly_setChannel s c _) fun _ =>
    orderly_ite (fun _ => orderly_setChannel s c _)
      (fun _ => (orderly_setChannel s c _).trans (orderly_obstruct _ ax))

theorem orderly_compareForce (s : State) (c : Fin 4) : Orderly s (s.compareForce c) := by
  unfold State.compareForce; split
  · refine orderly_ite (fun _ => .trans ?_ (orderly_countObstruction _ c _)) (fun _ => orderly_setChannel s c _)
    exact orderly_setAxis s _ rfl rfl
  · exact .refl s

theorem orderly_decimate (s : State) (c : Fin 4) : Orderly s (s.decimate c) :=
  orderly_ite (fun _ => orderly_setChannel s c _) fun _ =>
    ((orderly_setChannel s c _).trans (orderly_compareForce _ c)).trans (trails_syncContent _).orderly

theorem orderly_takeBit (s : State) (c : Fin 4) (b : Bool) : Orderly s (s.takeBit c b) :=
  ((orderly_setChannel s c _).trans (orderly_ite (fun _ => .refl _) (fun _ => orderly_decimate _ c))).trans
    (orderly_oweIf _ _ _)

/-! ## Events owed -/

theorem orderly_takeOwed (s : State) (kind : Owed → Bool) {step : Owed → State → State}
    (h : ∀ o s, Orderly s (step o s)) : Orderly s (s.takeOwed kind step) := by
  unfold State.takeOwed; split
  · exact (orderly_disown s _).trans (h _ _)
  · exact .refl s

theorem orderly_carryOut (s : State) (o : Owed) : Orderly s (s.carryOut o) := by
  have noted := orderly_disown s o
  cases o with
  | slotStep k => exact orderly_takeSteps s
  | silenceTimerExpiry => exact noted.trans (orderly_silenceTimerStep _)
  | beaconOffer => exact noted.trans (orderly_offerBeacon _)
  | referenceLost => exact noted.trans (orderly_referenceStep _)
  | scheduleDueRun => exact noted.trans (orderly_runDue _)
  | announceExpiry => exact noted.trans (orderly_announceCountStep _)
  | freshnessLapse a => exact noted.trans (orderly_freshnessStep _ a)
  | runStep => exact noted.trans (orderly_runStepNow _)
  | keyEstablish k => exact noted.trans (orderly_keyStep _ k)
  | keyPress k => exact noted.trans (orderly_keyStep _ k)
  | keyRelease k => exact noted.trans (orderly_keyStep _ k)
  | leaseEnd ax => exact noted.trans (orderly_leaseStep _ ax)
  | stall ax => exact noted.trans (orderly_stallStep _ ax)
  | blankingEnd ax => exact noted.trans (orderly_blankingStep _ ax)
  | holdOffEnd => exact noted.trans (orderly_holdOffStep _)
  | silentEntry => exact noted.trans (orderly_silenceStep _)
  | estopRelease => exact noted.trans (orderly_releaseEstop _)
  | beacon a pb phib latch => exact noted.trans (orderly_takeBeacon _ a pb phib latch)
  | announce a p => exact noted.trans (orderly_takeAnnounce _ a p)
  | obstruction ax c b => exact noted.trans (orderly_takeBit _ c b)
  | clip c => exact noted.trans (orderly_raise _ _)

theorem orderly_carryOwed (s : State) (o : Owed) : Orderly s (s.carryOwed o) :=
  orderly_ite (fun _ => (orderly_carryOut s o).trans (orderly_settled _)) (fun _ => .refl s)

theorem orderly_carryTogether (s : State) (events : List Owed) : Orderly s (s.carryTogether events) :=
  ((orderly_setWithin s true).trans (orderly_foldl orderly_carryOwed events _)).trans (orderly_setWithin _ false)

theorem orderly_takeHolders (s : State) (ax : Axis) : Orderly s (s.takeHolders ax) :=
  orderly_ite (fun _ => .refl s) fun _ => orderly_ite (fun _ => orderly_enterAllstop s) fun _ =>
    orderly_ite (fun _ => orderly_assertEstop s) (fun _ => orderly_carryTogether s _)

theorem orderly_oneInstant (s : State) : Orderly s s.oneInstant :=
  orderly_ite (fun _ => (orderly_takeHolders s .A).trans (orderly_takeHolders _ .B)) (fun _ => .refl s)

theorem orderly_foresee (s : State) : Orderly s s.foresee := orderly_setWithin s _

theorem orderly_settleOwed (s : State) : Orderly s s.settleOwed :=
  orderly_ite (fun _ => .refl s) fun _ =>
    (((((orderly_carryTogether s _).trans (orderly_setOwed _ [])).trans (orderly_foresee _)).trans
      (orderly_oneInstant _)).trans (orderly_setWithin _ false)).trans (orderly_settled _)

/-! ## The boundary -/

theorem orderly_stepOrOwe (s : State) (ends : Bool) (o : Owed) {step : State → State}
    (h : ∀ s, Orderly s (step s)) : Orderly s (s.stepOrOwe ends o step) :=
  orderly_ite (fun _ => orderly_owe s o) (fun _ => h s)

theorem orderly_countRelease (s : State) (asserted : Bool) : Orderly s (s.countRelease asserted) := by
  have sampled : Orderly s ((s.setPins { s.pins with estop := asserted }).setLine { s.line with estopSeen := false }) := by
    have read : Orderly s (s.setPins { s.pins with estop := asserted }) := orderly_setPins s _
    refine read.trans ?_
    exact orderly_setLine_same _ id (.inl rfl) rfl rfl rfl rfl
  refine sampled.trans (orderly_ite (fun _ => ?_) fun _ => orderly_ite (fun _ => orderly_owe _ _) (fun _ => ?_))
  · exact orderly_setLine _ id fun ⟨idle, dominant, _, rest⟩ => ⟨idle, dominant, Nat.zero_le _, rest⟩
  · exact orderly_setLine _ id fun ⟨idle, dominant, _, rest⟩ => ⟨idle, dominant, Nat.min_le_left _ _, rest⟩

theorem orderly_countAges (s : State) : Orderly s s.countAges := (orderly_setPeer s _).trans (orderly_setOwed _ _)

theorem orderly_countKey (s : State) (k : Fin 8) : Orderly s (s.countKey k) := orderly_stepOrOwe s _ _ fun s => orderly_keyStep s k

theorem orderly_countKeys (s : State) (keys : BitVec 8) : Orderly s (s.countKeys keys) :=
  (orderly_setPins s _).trans (orderly_ite (fun _ => .refl _) (fun _ => orderly_foldl orderly_countKey _ _))

theorem orderly_countAxis (s : State) (ax : Axis) : Orderly s (s.countAxis ax) :=
  ((orderly_stepOrOwe s _ _ fun s => orderly_leaseStep s ax).trans
    (orderly_stepOrOwe _ _ _ fun s => orderly_stallStep s ax)).trans
    (orderly_stepOrOwe _ _ _ fun s => orderly_blankingStep s ax)

theorem orderly_openPeriod (s : State) : Orderly s s.openPeriod := orderly_setTime_same s rfl

theorem orderly_countSilenceTimer (s : State) : Orderly s s.countSilenceTimer :=
  orderly_stepOrOwe s _ _ orderly_silenceTimerStep
theorem orderly_countReference (s : State) : Orderly s s.countReference := orderly_stepOrOwe s _ _ orderly_referenceStep
theorem orderly_countSilence (s : State) : Orderly s s.countSilence := orderly_stepOrOwe s _ _ orderly_silenceStep
theorem orderly_countRun (s : State) : Orderly s s.countRun := orderly_stepOrOwe s _ _ orderly_runStepNow
theorem orderly_countHoldOff (s : State) : Orderly s s.countHoldOff := orderly_stepOrOwe s _ _ orderly_holdOffStep
theorem orderly_countSchedule (s : State) : Orderly s s.countSchedule := orderly_oweIf s _ _
theorem orderly_countBeacon (s : State) : Orderly s s.countBeacon := orderly_oweIf s _ _
theorem orderly_countAnnounce (s : State) : Orderly s s.countAnnounce :=
  orderly_stepOrOwe s _ _ orderly_announceCountStep

theorem orderly_countPeriod (s : State) (keys : BitVec 8) (asserted : Bool) : Orderly s (s.countPeriod keys asserted) := by
  have line := ((((orderly_countSilenceTimer s).trans (orderly_countReference _)).trans (orderly_countSilence _)).trans
    (orderly_countRelease _ asserted)).trans (orderly_countAges _)
  have axes := (((line.trans (orderly_countKeys _ keys)).trans (orderly_countRun _)).trans (orderly_countAxis _ .A)).trans
    (orderly_countAxis _ .B)
  exact (((axes.trans (orderly_countHoldOff _)).trans (orderly_countSchedule _)).trans (orderly_countBeacon _)).trans
    (orderly_countAnnounce _)

theorem orderly_stepPool (s : State) (found : BoundaryFound) : Orderly s (s.stepPool found) := by
  have early := (orderly_setOwed s _).trans (orderly_foldl (fun s e => orderly_carryOwed s (owedBy e)) found.early
    (s.oweSteps found.given))
  exact early.trans (orderly_ite (fun _ => orderly_takeSteps _) (fun _ => .refl _))

/-! ## The shapes of a command -/

/-- A command that answers a next state goes to it in order. -/
def Ordered (s : State) (o : Host.Outcome State Fault Refusal) : Prop := ∀ t, o = .next t → Orderly s t

theorem ordered_next {s t : State} (h : Orderly s t) : Ordered s (.next t) := by
  rintro _ ⟨⟩; exact h

theorem ordered_event {s : State} {due : Bool} {effect : State} (h : Orderly s effect) :
    Ordered s (event s due effect) := by
  unfold event; split
  · exact ordered_next (h.trans (orderly_finish _))
  · exact ordered_next (.refl s)

theorem ordered_atLastBit {s : State} {bits : List LineBit} {due : State → Bool} {effect : State → State}
    (h : ∀ s, Orderly s (effect s)) : Ordered s (atLastBit s bits due effect) := by
  unfold atLastBit; dsimp only; split
  · exact ordered_next (.refl s)
  · exact ordered_next ((orderly_readBits s bits).trans
      ((orderly_ite (fun _ => h _) (fun _ => .refl _)).trans (orderly_finish _)))

theorem orderly_endDecode (s : State) (r : Request) : Orderly s (s.endDecode r) := orderly_setCmd s id

theorem ordered_completing {s : State} {row : Instr} {act : Request → State → State}
    (h : ∀ r s, Orderly s (act r s)) : Ordered s (completing s row act) := by
  unfold completing; split
  · exact ordered_event ((orderly_endDecode s _).trans (h _ _))
  · exact ordered_next (.refl s)

theorem orderly_reply (s : State) (r : Request) (c : Code) : Orderly s (s.reply r c) := by
  unfold State.reply; split
  · exact orderly_offer s _
  · exact .refl s

theorem orderly_respond {α : Type} {r : Request} {parsed : Except Code α} {run : α → State → Code × State} {s : State}
    (h : ∀ x s, Orderly s (run x s).2) : Orderly s (respond r parsed run s) := by
  unfold respond; split
  · exact orderly_reply s r _
  · exact ((h _ _).trans (orderly_settled _)).trans (orderly_reply _ r _)

theorem orderly_stationOnly {r : Request} {answered s : State} (h : Orderly s answered) :
    Orderly s (stationOnly r answered s) := orderly_ite (fun _ => h) (fun _ => .refl s)

/-! ## The requests -/

theorem orderly_tareChannel (s : State) (c : Fin 4) : Orderly s (s.tareChannel c).2 := by
  unfold State.tareChannel; dsimp only; split
  · exact .refl s
  · split
    · exact .refl s
    · exact orderly_setChannel s c _

theorem orderly_lighting {s : State} {effect : Code × State} (h : Orderly s effect.2) : Orderly s (s.lighting effect).2 := by
  unfold State.lighting; split
  · exact .refl s
  · exact h

theorem orderly_groupRecall (s : State) (scene group : Nat) : Orderly s (s.groupRecall scene group) :=
  (orderly_offer s _).trans (orderly_ite (fun _ => orderly_recallScene _ _ _ _) (fun _ => .refl _))

theorem orderly_enableChannels (s : State) (addressing : Addressing) (set : BitVec 24) (on : Bool) :
    Orderly s (s.enableChannels addressing set on) :=
  orderly_setLight s fun i k => by
    simp only [Fin.getElem_fin, Vector.getElem_ofFn]
    split <;> rfl

theorem orderly_setRegion (s : State) (region : RunRegion) : Orderly s (s.setRegion region).2 := by
  unfold State.setRegion; split
  · exact .refl s
  · exact orderly_setLight s fun _ _ => rfl

theorem orderly_setSceneTime (s : State) (scene : Fin 8) (fade : Nat) : Orderly s (s.setSceneTime scene fade).2 := by
  unfold State.setSceneTime; split
  · exact .refl s
  · exact orderly_setLight s fun _ _ => rfl

theorem orderly_openWindow (s : State) (owner : Nat) (x : Fin 8 × Nat × Nat) : Orderly s (s.openWindow owner x).2 := by
  unfold State.openWindow; split
  · exact .refl s
  · exact orderly_setCmd s id

theorem orderly_writeLevels (s : State) (source : Source) (p : List Byte) : Orderly s (s.writeLevels source p).2 := by
  unfold State.writeLevels; split
  · exact .refl s
  · split
    · exact .refl s
    · split
      · exact .refl s
      · next w _ _ =>
        obtain ⟨w', scene⟩ := (levelValues p).foldl writeValue (w, s.light.scenes[w.scene])
        refine .trans (t := s.setCmd { s.cmd with window := some w' }) (orderly_setCmd s id) ?_
        exact orderly_setLight _ fun _ _ => rfl

theorem orderly_runJog (s : State) (source : Source) (ax : Axis) (d : Direction) : Orderly s (s.runJog source ax d).2 := by
  unfold State.runJog; dsimp only; split
  · exact orderly_setAxis s ax rfl rfl
  · split
    case h_8 st =>
      split
      · exact (trails_setReason s ax _).orderly
      · split
        · exact (trails_start s ax _ _ _ _ st).orderly
        · exact .refl s
    all_goals exact .refl s

theorem orderly_jog (s : State) (source : Source) (x : Axis × Direction × Option Byte) : Orderly s (s.jog source x).2 := by
  unfold State.jog; split
  · exact .refl s
  · exact orderly_runJog s source _ _

theorem orderly_releaseJog (s : State) (a d : Byte) : Orderly s (s.releaseJog a d) := by
  unfold State.releaseJog; split
  · exact orderly_ite (fun _ => (trails_stopAxis s _).orderly) (fun _ => .refl s)
  · exact .refl s

theorem orderly_clearAxis (s : State) (x : Axis × Option Byte) : Orderly s (s.clearAxis x).2 := by
  unfold State.clearAxis; split
  · exact .refl s
  · split
    · exact .refl s
    · next st =>
      split
      · exact .refl s
      · exact (trails_rest s x.1 (by rw [not_not.1 st]; decide)).orderly

theorem orderly_setReference (s : State) (x : Axis × Nat × Option Byte) : Orderly s (s.setReference x).2 := by
  unfold State.setReference; dsimp only; split
  · exact .refl s
  · split
    case h_2 => exact orderly_setAxis s x.1 rfl rfl
    all_goals exact .refl s

theorem orderly_answerRead (r : Request) (selector parts : Nat) (content : Nat → Byte → Except Code (List Byte))
    (s : State) : Orderly s (answerRead r selector parts content s) := by
  unfold answerRead; split
  · exact orderly_reply s r _
  · split
    · exact orderly_reply s r _
    · exact orderly_offer s _
    · exact .refl s

theorem orderly_takeRequest (s : State) : Orderly s s.takeRequest := by
  unfold State.takeRequest; split
  · split
    · exact orderly_setCmd s id
    · exact .refl s
  · split
    · next e rest he => exact orderly_setCmd s fun h => by rw [he] at h; exact Nat.le_of_succ_le h
    · exact .refl s

theorem orderly_clearAndSetAgain (s : State) (set : BitVec 23) : Orderly s (s.clearAndSetAgain set) :=
  (orderly_setSafety s _).trans (orderly_foldl (fun s a => (trails_setAlarm s a).orderly) _ _)

theorem orderly_alarmClear (s : State) (x : BitVec 23 × Option Byte) : Orderly s (s.alarmClear x).2 := by
  unfold State.alarmClear; split
  · exact .refl s
  · exact (orderly_clearAndSetAgain s _).trans (orderly_foresee _)

theorem orderly_restartLine (s : State) : Orderly s s.restartLine :=
  orderly_setLine_same s (fun h => Nat.le_trans (List.length_filter_le _ _) h) (.inl rfl) rfl rfl rfl rfl

theorem orderly_restartCmd (s : State) : Orderly s s.restartCmd := orderly_setCmd s fun _ => Nat.zero_le _

theorem completeAny_fade (c : Channel) : c.completeAny.fade = none := by
  unfold Channel.completeAny; split
  · rfl
  · assumption

theorem restartLights_axis (s : State) (ax : Axis) : s.restartLights.axis ax = { s.axis ax with slot := none } := by
  cases ax <;> rfl

theorem slotsLawful_restartLights (s : State) : s.restartLights.slotsLawful := by
  have pool (k : Fin 16) : s.restartLights.pool[k] = none := by
    simp [State.restartLights, State.stopRun]
  have fades (k : Fin 16) : s.restartLights.fadesOn k = 0 := by
    have chan (i : Fin 24) : (s.restartLights.light.channels[i]).inSlot k = false :=
      inSlot_of_fade_none (by simp [State.restartLights, State.stopRun, completeAny_fade]) k
    simp only [State.fadesOn, chan]
    simp
  exact slotsLawful_of (fun k _ => ⟨fades k, fun ax => by simp [restartLights_axis]⟩)
    (fun k slot hp => by rw [pool] at hp; cases hp) (fun k slot ax a b hp => by rw [pool] at hp; cases hp)
    (fun ax => by simp [restartLights_axis])

theorem orderly_restartLights (s : State) : Orderly s s.restartLights where
  station := by simp [State.restartLights, State.stopRun, State.station]
  queue := by simp [State.restartLights, State.stopRun]
  intake := by simp [State.restartLights, State.stopRun]
  schedule := by simp [State.restartLights, State.stopRun]
  counts := fun h => by simpa [State.restartLights, State.stopRun, State.lineCountsBounded] using h
  disabled := fun ax => by simp [restartLights_axis]
  slots := fun _ => slotsLawful_restartLights s

theorem orderly_restartAxis (s : State) (ax : Axis) : Orderly s (s.restartAxis ax) := by
  unfold State.restartAxis
  split
  · next st => exact orderly_restFor s ax _ (by simp [st])
  · next st => exact orderly_restFor s ax _ (by simp [st])
  · next st => exact orderly_restFor s ax _ (by simp [st])
  · next st => exact orderly_restFor s ax _ (by simp [st])
  · next st => exact orderly_ite (fun _ => .refl s) (fun _ => (trails_rest s ax (by simp [st])).orderly)
  all_goals exact .refl s

theorem orderly_softRestart (s : State) : Orderly s s.softRestart := by
  have emptied : Orderly s.restartLine.restartCmd
      (s.restartLine.restartCmd.setTime { s.restartLine.restartCmd.time with schedule := [] }) :=
    orderly_setTime _ fun _ => Nat.zero_le _
  exact (((((((orderly_restartLine s).trans (orderly_restartCmd _)).trans emptied).trans (orderly_restartLights _)).trans
    (orderly_clearAndSetAgain _ _)).trans (orderly_restartAxis _ .A)).trans (orderly_restartAxis _ .B)).trans
    (orderly_announceRequest _)

end Sys2Proof.Machine
end

section
/-! PROOFS. The end of LOADING, block by block, and that every step keeps the bounds. -/

namespace Sys2Proof.Machine

/-! ## The end of LOADING -/

/-- The record in which an axis is formed (R163). -/
def State.formedRecord (s : State) (ax : Axis) : AxisRecord :=
  if (s.axisCfg ax).kind = .none then .disabled
  else { AxisRecord.disabled with
    state := s.formedState ax,
    position := if !s.switchRead ax .minus && s.switchRead ax .plus then (s.axisCfg ax).travelMax else 0,
    referenced := s.switchRead ax .minus,
    reason := if s.inConflict ax then .endConflict else .none }

theorem formAxis_eq (s : State) (ax : Axis) : s.formAxis ax = s.setAxis ax (s.formedRecord ax) := by
  unfold State.formAxis State.formedRecord; split <;> rfl

theorem formedRecord_slot (s : State) (ax : Axis) : (s.formedRecord ax).slot = none := by
  unfold State.formedRecord; split <;> rfl

@[simp] theorem raiseIf_line (s : State) (c : Bool) (a : Alarm) : (s.raiseIf c a).line = s.line := by
  unfold State.raiseIf; split <;> simp
@[simp] theorem raiseIf_loader (s : State) (c : Bool) (a : Alarm) : (s.raiseIf c a).loader = s.loader := by
  unfold State.raiseIf; split <;> simp
@[simp] theorem raiseIf_cfg (s : State) (c : Bool) (a : Alarm) : (s.raiseIf c a).cfg = s.cfg := by
  unfold State.raiseIf; split <;> simp
@[simp] theorem raiseIf_pins (s : State) (c : Bool) (a : Alarm) : (s.raiseIf c a).pins = s.pins := by
  unfold State.raiseIf; split <;> simp
@[simp] theorem raiseIf_time (s : State) (c : Bool) (a : Alarm) : (s.raiseIf c a).time = s.time := by
  unfold State.raiseIf; split <;> simp
@[simp] theorem raiseIf_peer (s : State) (c : Bool) (a : Alarm) : (s.raiseIf c a).peer = s.peer := by
  unfold State.raiseIf; split <;> simp
@[simp] theorem raiseIf_cmd (s : State) (c : Bool) (a : Alarm) : (s.raiseIf c a).cmd = s.cmd := by
  unfold State.raiseIf; split <;> simp
@[simp] theorem raiseIf_light (s : State) (c : Bool) (a : Alarm) : (s.raiseIf c a).light = s.light := by
  unfold State.raiseIf; split <;> simp
@[simp] theorem raiseIf_pool (s : State) (c : Bool) (a : Alarm) : (s.raiseIf c a).pool = s.pool := by
  unfold State.raiseIf; split <;> simp
@[simp] theorem raiseIf_sense (s : State) (c : Bool) (a : Alarm) : (s.raiseIf c a).sense = s.sense := by
  unfold State.raiseIf; split <;> simp
@[simp] theorem raiseIf_motion (s : State) (c : Bool) (a : Alarm) : (s.raiseIf c a).motion = s.motion := by
  unfold State.raiseIf; split <;> simp
@[simp] theorem raiseIf_owed (s : State) (c : Bool) (a : Alarm) : (s.raiseIf c a).owed = s.owed := by
  unfold State.raiseIf; split <;> simp

/-- The Safety Unit with its alarm set formed and the reports of the conditions present (R182). -/
def State.formAlarms (s : State) (formed : BitVec 23) : State :=
  let s1 := s.setSafety { s.safety with alarms := formed, count := 0, holdOff := 0 }
  ((s1.raiseIf s1.line.allstop .allstopSeen).raiseIf (s1.inConflict .A) (.endConflict .A)).raiseIf
    (s1.inConflict .B) (.endConflict .B)

/-- With the terms evaluated, too. -/
def State.formTerms (s : State) (formed : BitVec 23) : State := ((s.formAlarms formed).evaluate .A).evaluate .B

theorem startSafety_eq (s : State) (formed : BitVec 23) : s.startSafety formed =
    ((((s.formTerms formed).formAxis .A).formAxis .B).formHold .A).formHold .B := rfl

@[simp] theorem formTerms_line (s : State) (formed : BitVec 23) : (s.formTerms formed).line = s.line := by
  simp [State.formTerms, State.formAlarms, State.evaluate]
@[simp] theorem formTerms_loader (s : State) (formed : BitVec 23) : (s.formTerms formed).loader = s.loader := by
  simp [State.formTerms, State.formAlarms, State.evaluate]
@[simp] theorem formTerms_cfg (s : State) (formed : BitVec 23) : (s.formTerms formed).cfg = s.cfg := by
  simp [State.formTerms, State.formAlarms, State.evaluate]
@[simp] theorem formTerms_pins (s : State) (formed : BitVec 23) : (s.formTerms formed).pins = s.pins := by
  simp [State.formTerms, State.formAlarms, State.evaluate]
@[simp] theorem formTerms_time (s : State) (formed : BitVec 23) : (s.formTerms formed).time = s.time := by
  simp [State.formTerms, State.formAlarms, State.evaluate]
@[simp] theorem formTerms_peer (s : State) (formed : BitVec 23) : (s.formTerms formed).peer = s.peer := by
  simp [State.formTerms, State.formAlarms, State.evaluate]
@[simp] theorem formTerms_cmd (s : State) (formed : BitVec 23) : (s.formTerms formed).cmd = s.cmd := by
  simp [State.formTerms, State.formAlarms, State.evaluate]
@[simp] theorem formTerms_light (s : State) (formed : BitVec 23) : (s.formTerms formed).light = s.light := by
  simp [State.formTerms, State.formAlarms, State.evaluate]
@[simp] theorem formTerms_pool (s : State) (formed : BitVec 23) : (s.formTerms formed).pool = s.pool := by
  simp [State.formTerms, State.formAlarms, State.evaluate]
@[simp] theorem formTerms_sense (s : State) (formed : BitVec 23) : (s.formTerms formed).sense = s.sense := by
  simp [State.formTerms, State.formAlarms, State.evaluate]
@[simp] theorem formTerms_motion (s : State) (formed : BitVec 23) : (s.formTerms formed).motion = s.motion := by
  simp [State.formTerms, State.formAlarms, State.evaluate]
@[simp] theorem formTerms_owed (s : State) (formed : BitVec 23) : (s.formTerms formed).owed = s.owed := by
  simp [State.formTerms, State.formAlarms, State.evaluate]

@[simp] theorem startSafety_line (s : State) (formed : BitVec 23) : (s.startSafety formed).line = s.line := by
  simp [startSafety_eq, formAxis_eq, State.formHold]
@[simp] theorem startSafety_loader (s : State) (formed : BitVec 23) : (s.startSafety formed).loader = s.loader := by
  simp [startSafety_eq, formAxis_eq, State.formHold]
@[simp] theorem startSafety_cfg (s : State) (formed : BitVec 23) : (s.startSafety formed).cfg = s.cfg := by
  simp [startSafety_eq, formAxis_eq, State.formHold]
@[simp] theorem startSafety_pins (s : State) (formed : BitVec 23) : (s.startSafety formed).pins = s.pins := by
  simp [startSafety_eq, formAxis_eq, State.formHold]
@[simp] theorem startSafety_time (s : State) (formed : BitVec 23) : (s.startSafety formed).time = s.time := by
  simp [startSafety_eq, formAxis_eq, State.formHold]
@[simp] theorem startSafety_peer (s : State) (formed : BitVec 23) : (s.startSafety formed).peer = s.peer := by
  simp [startSafety_eq, formAxis_eq, State.formHold]
@[simp] theorem startSafety_cmd (s : State) (formed : BitVec 23) : (s.startSafety formed).cmd = s.cmd := by
  simp [startSafety_eq, formAxis_eq, State.formHold]
@[simp] theorem startSafety_light (s : State) (formed : BitVec 23) : (s.startSafety formed).light = s.light := by
  simp [startSafety_eq, formAxis_eq, State.formHold]
@[simp] theorem startSafety_pool (s : State) (formed : BitVec 23) : (s.startSafety formed).pool = s.pool := by
  simp [startSafety_eq, formAxis_eq, State.formHold]
@[simp] theorem startSafety_sense (s : State) (formed : BitVec 23) : (s.startSafety formed).sense = s.sense := by
  simp [startSafety_eq, formAxis_eq, State.formHold]
@[simp] theorem startSafety_owed (s : State) (formed : BitVec 23) : (s.startSafety formed).owed = s.owed := by
  simp [startSafety_eq, formAxis_eq, State.formHold]

/-- Each axis is formed as the state found it (R163). -/
theorem startSafety_axis (s : State) (formed : BitVec 23) (ax : Axis) : (s.startSafety formed).axis ax =
    match ax with
    | .A => (s.formTerms formed).formedRecord .A
    | .B => ((s.formTerms formed).formAxis .A).formedRecord .B := by
  cases ax
  · simp [startSafety_eq, State.formHold, formAxis_eq _ .B, State.setAxis_axis_ne, formAxis_eq _ .A]
  · simp [startSafety_eq, State.formHold, formAxis_eq _ .B]

theorem startSafety_slot (s : State) (formed : BitVec 23) (ax : Axis) :
    ((s.startSafety formed).axis ax).slot = none := by
  rw [startSafety_axis]; cases ax <;> exact formedRecord_slot _ _

/-- From `s` to `u` LOADING has ended as far as the axes are formed: the queues and the pool stay, and the noise budget and the
silence count have their new bounds. -/
structure Started (s u : State) : Prop where
  station : u.station ≠ .loading
  queue : u.line.queue = s.line.queue
  intake : u.cmd.intake = s.cmd.intake
  schedule : u.time.schedule = s.time.schedule
  counts : s.lineCountsBounded → u.lineCountsBounded
  pool : u.pool = s.pool
  fades : ∀ k, u.fadesOn k = s.fadesOn k
  slot : ∀ ax, (u.axis ax).slot = none

theorem Started.slots {s u : State} (h : Started s u) (formless : ∀ ax, (s.axis ax).state = .disabled)
    (l : s.slotsLawful) : u.slotsLawful := by
  have slot (ax : Axis) : (s.axis ax).slot = none :=
    slot_none_of_state l (by rw [formless]; decide) (by rw [formless]; decide)
  exact slotsLawful_congr h.pool h.fades (fun ax => (h.slot ax).trans (slot ax).symm)
    (fun ax n => absurd (slot ax) n) l

theorem started_unconfigure (s : State) :
    Started s ((s.endLoading .unconfigured .defaults).startLine.startEngine.startSafety Alarm.configBad.mask) := by
  have engine (t : State) (h : t.cfg = .defaults) :
      t.startEngine = t.setTime { t.time with engine := .listener, silenceTimer := 0 } := by
    unfold State.startEngine; rw [h]; rfl
  rw [engine _ rfl]
  exact {
    station := by simp [State.station, State.startLine, State.endLoading]
    queue := by simp [State.startLine, State.endLoading]
    intake := by simp [State.startLine, State.endLoading]
    schedule := by simp [State.startLine, State.endLoading]
    counts := fun ⟨idle, dominant, release, _, _⟩ => by
      simpa [State.lineCountsBounded, State.startLine, State.endLoading] using ⟨idle, dominant, release⟩
    pool := by simp [State.startLine, State.endLoading]
    fades := fun k => fadesOn_congr fun i => by simp [State.startLine, State.endLoading]
    slot := startSafety_slot _ _ }

@[simp] theorem startEngine_line (s : State) : s.startEngine.line = s.line := by
  unfold State.startEngine; split <;> rfl
@[simp] theorem startEngine_loader (s : State) : s.startEngine.loader = s.loader := by
  unfold State.startEngine; split <;> rfl
@[simp] theorem startEngine_cfg (s : State) : s.startEngine.cfg = s.cfg := by
  unfold State.startEngine; split <;> rfl
@[simp] theorem startEngine_pins (s : State) : s.startEngine.pins = s.pins := by
  unfold State.startEngine; split <;> rfl
@[simp] theorem startEngine_cmd (s : State) : s.startEngine.cmd = s.cmd := by
  unfold State.startEngine; split <;> rfl
@[simp] theorem startEngine_peer (s : State) : s.startEngine.peer = s.peer := by
  unfold State.startEngine; split <;> rfl
@[simp] theorem startEngine_light (s : State) : s.startEngine.light = s.light := by
  unfold State.startEngine; split <;> rfl
@[simp] theorem startEngine_pool (s : State) : s.startEngine.pool = s.pool := by
  unfold State.startEngine; split <;> rfl
@[simp] theorem startEngine_sense (s : State) : s.startEngine.sense = s.sense := by
  unfold State.startEngine; split <;> rfl
@[simp] theorem startEngine_motion (s : State) : s.startEngine.motion = s.motion := by
  unfold State.startEngine; split <;> rfl
@[simp] theorem startEngine_safety (s : State) : s.startEngine.safety = s.safety := by
  unfold State.startEngine; split <;> rfl
@[simp] theorem startEngine_owed (s : State) : s.startEngine.owed = s.owed := by
  unfold State.startEngine; split <;> rfl
@[simp] theorem startEngine_schedule (s : State) : s.startEngine.time.schedule = s.time.schedule := by
  unfold State.startEngine; split <;> rfl

/-- Every block but the axes, the Safety Unit and what follows them at the end of LOADING in CONFIGURED (R189). -/
def State.configuredBlocks (s : State) (img : List Byte) : State :=
  ((s.endLoading .configured (parseImage img)).startLine.startEngine.startPeers.startLights
    (parseGroups img) (parseScenes img)).startSense

theorem configure_eq (s : State) (img : List Byte) :
    s.configure img = ((s.configuredBlocks img).startSafety 0).startAnnouncing.powerOn := rfl

theorem started_configure (s : State) (img : List Byte) : Started s ((s.configuredBlocks img).startSafety 0) where
  station := by simp [State.configuredBlocks, State.startSense, State.startLights, State.startPeers, State.station,
    State.startLine, State.endLoading]
  queue := by simp [State.configuredBlocks, State.startSense, State.startLights, State.startPeers, State.startLine,
    State.endLoading]
  intake := by simp [State.configuredBlocks, State.startSense, State.startLights, State.startPeers, State.startLine,
    State.endLoading]
  schedule := by simp [State.configuredBlocks, State.startSense, State.startLights, State.startPeers, State.startLine,
    State.endLoading]
  counts := fun ⟨idle, dominant, release, _, _⟩ => by
    simpa [State.lineCountsBounded, State.configuredBlocks, State.startSense, State.startLights, State.startPeers,
      State.startLine, State.endLoading] using ⟨idle, dominant, release⟩
  pool := by simp [State.configuredBlocks, State.startSense, State.startLights, State.startPeers, State.startLine,
    State.endLoading]
  fades := fun k => fadesOn_congr fun i => by
    simp [State.configuredBlocks, State.startSense, State.startLights, State.startPeers, State.startLine,
      State.endLoading, Channel.inGroups, Channel.inSlot]
  slot := startSafety_slot _ _

theorem orderly_startAnnouncing (s : State) : Orderly s s.startAnnouncing :=
  (orderly_setPeer s _).trans (orderly_announceRequest _)

theorem orderly_powerOn (s : State) : Orderly s s.powerOn := by
  unfold State.powerOn
  refine orderly_ite (fun _ => orderly_beginOverride s) (fun _ => ?_)
  split
  · exact orderly_recallScene s _ _ _
  · exact .refl s

/-! ## A step -/

/-- What every step keeps. -/
structure Bounded (s t : State) : Prop where
  queues : s.queuesBounded → t.queuesBounded
  counts : s.lineCountsBounded → t.lineCountsBounded
  loading : s.loadingLawful → t.loadingLawful
  slots : s.loadingLawful → s.slotsLawful → t.slotsLawful

theorem Orderly.bounded {s t : State} (h : Orderly s t) : Bounded s t where
  queues := fun ⟨queue, intake, schedule⟩ => ⟨h.queue queue, h.intake intake, h.schedule schedule⟩
  counts := h.counts
  loading := fun l e ax => h.disabled ax (l (h.station ▸ e) ax)
  slots := fun _ => h.slots

theorem Bounded.trans_orderly {s t u : State} (h : Bounded s t) (k : Orderly t u) : Bounded s u where
  queues := k.bounded.queues ∘ h.queues
  counts := k.counts ∘ h.counts
  loading := k.bounded.loading ∘ h.loading
  slots := fun l => k.slots ∘ h.slots l

theorem Orderly.trans_bounded {s t u : State} (h : Orderly s t) (k : Bounded t u) : Bounded s u where
  queues := k.queues ∘ h.bounded.queues
  counts := k.counts ∘ h.counts
  loading := k.loading ∘ h.bounded.loading
  slots := fun l => k.slots (h.bounded.loading l) ∘ h.slots

theorem Bounded.refl (s : State) : Bounded s s := (Orderly.refl s).bounded

/-- The end of LOADING keeps the bounds, and the law for slots where no axis was formed before. -/
theorem Started.bounded {s u : State} (h : Started s u) (loading : s.station = .loading) : Bounded s u where
  queues := fun ⟨queue, intake, schedule⟩ => ⟨h.queue ▸ queue, h.intake ▸ intake, h.schedule ▸ schedule⟩
  counts := h.counts
  loading := fun _ e => absurd e h.station
  slots := fun l => h.slots (l loading)

theorem bounded_unconfigure {s : State} (h : s.station = .loading) : Bounded s s.unconfigure :=
  ((started_unconfigure s).bounded h).trans_orderly (orderly_startAnnouncing _)

theorem bounded_configure {s : State} (h : s.station = .loading) (img : List Byte) : Bounded s (s.configure img) := by
  rw [configure_eq]
  exact (((started_configure s img).bounded h).trans_orderly (orderly_startAnnouncing _)).trans_orderly (orderly_powerOn _)

theorem orderly_setLoader (s : State) {x : Loader} (h : x.station = s.loader.station) : Orderly s (s.setLoader x) where
  station := h
  queue := id
  intake := id
  schedule := id
  counts := id
  disabled := fun ax => by simp
  slots := slotsLawful_congr rfl (fun _ => fadesOn_congr (by simp)) (fun ax => by simp) (fun ax _ => by simp)

theorem bounded_failAttempt {s : State} (h : s.station = .loading) : Bounded s s.failAttempt := by
  have again : Orderly s (s.setLoader { s.loader with
      staging := [], check := 0xFFFF, attempt := min 3 (s.loader.attempt + 1) }) := orderly_setLoader s rfl
  unfold State.failAttempt; dsimp only; split
  · exact again.bounded
  · exact again.trans_bounded (bounded_unconfigure (again.station.trans h))

theorem bounded_judgeImage {s : State} (h : s.station = .loading) : Bounded s s.judgeImage := by
  unfold State.judgeImage; split
  · exact .refl s
  · split
    · exact bounded_configure h _
    · exact bounded_failAttempt h

theorem orderly_feed (s : State) (bytes : List Byte) : Orderly s (s.feed bytes) := orderly_setLoader s rfl

theorem bounded_event_loading {s effect : State} (h : s.station = .loading → Bounded s effect) :
    ∀ t, event s (s.station == .loading) effect = .next t → Bounded s t := by
  intro t e
  unfold event at e; split at e
  · next due =>
    simp only [Bool.and_eq_true, beq_iff_eq] at due
    cases e
    exact (h due.2).trans_orderly (orderly_finish _)
  · cases e; exact .refl s

/-! ### The cold state -/

theorem cold_queuesBounded (pins : Pins) : (State.cold pins).queuesBounded := by
  simp [State.queuesBounded, State.cold, LineUnit.cold, CommandUnit.cold, TimeBase.cold]

theorem cold_lineCountsBounded (pins : Pins) : (State.cold pins).lineCountsBounded := by
  simp [State.lineCountsBounded, State.cold, LineUnit.cold, Configuration.defaults]

theorem cold_axis (pins : Pins) (ax : Axis) : (State.cold pins).axis ax = .disabled := by
  cases ax <;> rfl

theorem cold_loadingLawful (pins : Pins) : (State.cold pins).loadingLawful := by
  intro _ ax; rw [cold_axis]; rfl

theorem cold_channel (pins : Pins) (i : Fin 24) : (State.cold pins).light.channels[i] = .cold := by
  simp [State.cold, LightUnit.cold]

theorem cold_pool (pins : Pins) (k : Fin 16) : (State.cold pins).pool[k] = none := by
  simp [State.cold]

theorem cold_slotsLawful (pins : Pins) : (State.cold pins).slotsLawful := by
  have fades (k : Fin 16) : (State.cold pins).fadesOn k = 0 := by
    simp only [State.fadesOn, cold_channel]
    simp [inSlot_of_fade_none (c := .cold) rfl]
  exact slotsLawful_of (fun k _ => ⟨fades k, fun ax => by rw [cold_axis]; simp [AxisRecord.disabled]⟩)
    (fun k slot hp => by rw [cold_pool] at hp; cases hp) (fun k slot ax a b hp => by rw [cold_pool] at hp; cases hp)
    (fun ax n => by rw [cold_axis] at n; exact absurd rfl n)

/-- Every block cold: every bound and law holds at once, and LOADING finds no axis formed. -/
theorem bounded_of_cold (s : State) (pins : Pins) (pending : List Instr) (r : Bool) :
    Bounded s { State.cold pins with pending := pending, inReset := r } where
  queues := fun _ => cold_queuesBounded pins
  counts := fun _ => cold_lineCountsBounded pins
  loading := fun _ l ax => by cases ax <;> rfl
  slots := fun _ _ => slotsLawful_congr (s := State.cold pins) rfl (fun _ => rfl) (fun ax => by cases ax <;> rfl)
    (fun ax n => by rw [cold_axis] at n; exact absurd rfl n) (cold_slotsLawful pins)

theorem ordered_periodBoundary (keys : BitVec 8) (found : BoundaryFound) (s : State) :
    Ordered s (execPeriodBoundary keys found s) :=
  ordered_event ((((orderly_settleOwed s).trans (orderly_openPeriod _)).trans
    (orderly_countPeriod _ keys _)).trans (orderly_stepPool _ found))

theorem ordered_endSwitchChange (ax : Axis) (d : Direction) (active : Bool) (s : State) :
    Ordered s (execEndSwitchChange ax d active s) := by
  have shown := orderly_setSwitchPin s ax d active
  unfold execEndSwitchChange; dsimp only; split
  · exact ordered_next shown
  · refine ordered_next ((shown.trans (orderly_ite (fun acts => ?_) (fun _ => .refl _))).trans (orderly_finish _))
    simp only [Bool.and_eq_true, bne_iff_ne] at acts
    refine orderly_activate _ ax d ?_
    rw [axis_of_motion (State.setSwitchPin_motion s ax d active)]
    exact acts.2

theorem ordered_travelPulse (ax : Axis) (high : Bool) (s : State) : Ordered s (execTravelPulse ax high s) :=
  ordered_event (orderly_pulse s ax high)

theorem ordered_startBitRead (bits : List LineBit) (s : State) : Ordered s (execStartBitRead bits s) := by
  unfold execStartBitRead; dsimp only; split
  · exact ordered_next (.refl s)
  · exact ordered_next ((orderly_ite (fun _ => (orderly_readBits s _).trans (orderly_startReception _))
      (fun _ => orderly_readBits s bits)).trans (orderly_finish _))

theorem orderly_senseBits (c : Fin 4) (bits : List Bool) (s : State) :
    Orderly s (bits.foldl (fun s b => s.presentBit c b) s) := by
  have signal (o : Owed) (s : State) : Orderly s (signalStep o s) := by
    cases o with
    | obstruction ax c b => exact orderly_takeBit s c b
    | _ => exact .refl s
  have settle (s : State) : Orderly s (s.settleChannel c) :=
    (orderly_ite (fun _ => (orderly_takeOwed s _ signal).trans (orderly_settled _)) (fun _ => .refl s)).trans
      (orderly_ite (fun _ => ((orderly_disown _ _).trans (orderly_raise _ _)).trans (orderly_settled _)) (fun _ => .refl _))
  refine orderly_foldl (fun s b => (settle s).trans ?_) bits s
  unfold State.presentBit; dsimp only; split
  · exact orderly_owe _ _
  · exact orderly_takeBit _ c b

theorem orderly_oneInstant_foresee {s t : State} (h : Orderly s t) : Orderly s t.foresee.oneInstant :=
  (h.trans (orderly_foresee _)).trans (orderly_oneInstant _)

/-- A request that runs by its at byte (R40). -/
theorem ordered_timed (s : State) {row : Instr} {parse : Request → State → Except Code (Timed × Option Byte)} :
    Ordered s (completing s row fun r s => respond r (parse r s) (fun x s => s.runTimed r x) s) :=
  ordered_completing fun r _ => orderly_respond fun x s => orderly_runTimed s r x

/-- One that acts only when station-addressed (R69). -/
theorem ordered_station_timed (s : State) {row : Instr} {parse : Request → State → Except Code (Timed × Option Byte)} :
    Ordered s (completing s row fun r s => stationOnly r (respond r (parse r s) (fun x s => s.runTimed r x) s) s) :=
  ordered_completing fun r _ => orderly_stationOnly (orderly_respond fun x s => orderly_runTimed s r x)

/-- A READ (R74). -/
theorem ordered_read (s : State) {row : Instr} {selector parts : Nat}
    {content : State → Nat → Byte → Except Code (List Byte)} :
    Ordered s (completing s row fun r s => stationOnly r (answerRead r selector parts (content s) s) s) :=
  ordered_completing fun r s => orderly_stationOnly (orderly_answerRead r selector parts _ s)

/-- Every command but the resets and those that end LOADING is orderly. -/
theorem ordered_exec (c : Instr) (s : State) (h : startsUp c = false) : Ordered s (exec c s) := by
  cases c with
  | hardReset straps => cases h
  | heldInReset => cases h
  | attemptFail => cases h
  | imageJudged bytes => cases h
  | periodBoundary keys found =>
    show Ordered s (execPeriodBoundary keys found s)
    exact ordered_periodBoundary keys found s
  | rampCompletion slot =>
    show Ordered s (execRampCompletion slot s)
    exact ordered_event (orderly_takeSteps s)
  | silenceTimerExpiry =>
    show Ordered s (execSilenceTimerExpiry s)
    exact ordered_event ((orderly_disown s _).trans (orderly_silenceTimerStep _))
  | beaconOffer =>
    show Ordered s (execBeaconOffer s)
    exact ordered_event ((orderly_disown s _).trans (orderly_offerBeacon _))
  | referenceLost =>
    show Ordered s (execReferenceLost s)
    exact ordered_event ((orderly_disown s _).trans (orderly_referenceStep _))
  | scheduleDueRun =>
    show Ordered s (execScheduleDueRun s)
    exact ordered_event ((orderly_disown s _).trans (orderly_runDue _))
  | announceExpiry =>
    show Ordered s (execAnnounceExpiry s)
    exact ordered_event ((orderly_disown s _).trans (orderly_announceCountStep _))
  | freshnessLapse a =>
    show Ordered s (execFreshnessLapse a s)
    exact ordered_event ((orderly_disown s _).trans (orderly_freshnessStep _ a))
  | runStep =>
    show Ordered s (execRunStep s)
    exact ordered_event ((orderly_disown s _).trans (orderly_runStepNow _))
  | keyDebounceEstablish k =>
    show Ordered s (execKeyDebounceEstablish k s)
    exact ordered_event ((orderly_disown s _).trans (orderly_keyStep _ k))
  | keyPress k =>
    show Ordered s (execKeyPress k s)
    exact ordered_event ((orderly_disown s _).trans (orderly_keyStep _ k))
  | keyRelease k =>
    show Ordered s (execKeyRelease k s)
    exact ordered_event ((orderly_disown s _).trans (orderly_keyStep _ k))
  | leaseEnd ax =>
    show Ordered s (execLeaseEnd ax s)
    exact ordered_event ((orderly_disown s _).trans (orderly_leaseStep _ ax))
  | stall ax =>
    show Ordered s (execStall ax s)
    exact ordered_event ((orderly_disown s _).trans (orderly_stallStep _ ax))
  | blankingEnd ax =>
    show Ordered s (execBlankingEnd ax s)
    exact ordered_event ((orderly_disown s _).trans (orderly_blankingStep _ ax))
  | holdOffEnd =>
    show Ordered s (execHoldOffEnd s)
    exact ordered_event (orderly_oneInstant_foresee (orderly_endHoldOff s))
  | frameBegin bits =>
    show Ordered s (execFrameBegin bits s)
    exact ordered_atLastBit orderly_beginFrame
  | contentionLost bits =>
    show Ordered s (execContentionLost bits s)
    exact ordered_atLastBit orderly_loseContention
  | contentionWon bits =>
    show Ordered s (execContentionWon bits s)
    exact ordered_atLastBit orderly_winContention
  | bitError bits =>
    show Ordered s (execBitError bits s)
    exact ordered_atLastBit orderly_bitErrorNow
  | headerEndLatch bits =>
    show Ordered s (execHeaderEndLatch bits s)
    exact ordered_atLastBit orderly_latchCount
  | senderEntersSlot bits =>
    show Ordered s (execSenderEntersSlot bits s)
    exact ordered_atLastBit orderly_enterSlot
  | slotEnd level =>
    show Ordered s (execSlotEnd level s)
    exact ordered_event (orderly_readBit s level)
  | startBitRead bits =>
    show Ordered s (execStartBitRead bits s)
    exact ordered_startBitRead bits s
  | frameReceiveIntact bits =>
    show Ordered s (execFrameReceiveIntact bits s)
    refine ordered_atLastBit fun s => ?_
    split
    · exact orderly_receive s _
    · exact .refl s
  | receiveError bits =>
    show Ordered s (execReceiveError bits s)
    exact ordered_atLastBit orderly_receiveError
  | invalidSourceDiscard bits =>
    show Ordered s (execInvalidSourceDiscard bits s)
    exact ordered_atLastBit fun s => orderly_endFrame s _
  | deferredErrorCount bits =>
    show Ordered s (execDeferredErrorCount bits s)
    exact ordered_event (orderly_readBits s bits)
  | beaconReceive =>
    show Ordered s (execBeaconReceive s)
    refine ordered_event (orderly_takeOwed s _ fun o s => ?_)
    cases o with
    | beacon a pb phib latch => exact orderly_takeBeacon s a pb phib latch
    | _ => exact .refl s
  | announceReceive =>
    show Ordered s (execAnnounceReceive s)
    refine ordered_event (orderly_takeOwed s _ fun o s => ?_)
    cases o with
    | announce a p => exact orderly_takeAnnounce s a p
    | _ => exact .refl s
  | silentEntry =>
    show Ordered s (execSilentEntry s)
    exact ordered_event ((orderly_disown s _).trans (orderly_silenceStep _))
  | allstopEntry bits =>
    show Ordered s (execAllstopEntry bits s)
    exact ordered_atLastBit orderly_enterAllstop
  | allstopExit bits =>
    show Ordered s (execAllstopExit bits s)
    exact ordered_atLastBit fun s => orderly_oneInstant_foresee (orderly_exitAllstop s)
  | estopAssert =>
    show Ordered s (execEstopAssert s)
    exact ordered_event (orderly_assertEstop s)
  | estopRelease =>
    show Ordered s (execEstopRelease s)
    exact ordered_event (orderly_oneInstant_foresee ((orderly_disown s _).trans (orderly_releaseEstop _)))
  | travelPulse ax high =>
    show Ordered s (execTravelPulse ax high s)
    exact ordered_travelPulse ax high s
  | endSwitchChange ax d active =>
    show Ordered s (execEndSwitchChange ax d active s)
    exact ordered_endSwitchChange ax d active s
  | senseSample c bits =>
    show Ordered s (execSenseSample c bits s)
    exact ordered_event (orderly_senseBits c bits s)
  | obstructionSignal ax =>
    show Ordered s (execObstructionSignal ax s)
    refine ordered_event (orderly_takeOwed s _ fun o s => ?_)
    cases o with
    | obstruction ax c b => exact orderly_takeBit s c b
    | _ => exact .refl s
  | clip c =>
    show Ordered s (execClip c s)
    exact ordered_event ((orderly_disown s _).trans (orderly_raise _ _))
  | decodeTake =>
    show Ordered s (execDecodeTake s)
    exact ordered_event (orderly_takeRequest s)
  | goto =>
    show Ordered s (execGoto s)
    exact ordered_station_timed s
  | stop =>
    show Ordered s (execStop s)
    exact ordered_station_timed s
  | sceneRecall =>
    show Ordered s (execSceneRecall s)
    exact ordered_timed s
  | levelSet =>
    show Ordered s (execLevelSet s)
    exact ordered_timed s
  | runStart =>
    show Ordered s (execRunStart s)
    exact ordered_timed s
  | runStop =>
    show Ordered s (execRunStop s)
    exact ordered_timed s
  | jog =>
    show Ordered s (execJog s)
    exact ordered_completing fun r s => orderly_stationOnly (orderly_respond fun x s => orderly_jog s _ x)
  | jogRelease =>
    show Ordered s (execJogRelease s)
    refine ordered_completing fun r s => ?_
    split
    · exact orderly_releaseJog s _ _
    · exact .refl s
  | axisClear =>
    show Ordered s (execAxisClear s)
    exact ordered_completing fun r s => orderly_stationOnly (orderly_respond fun x s => orderly_clearAxis s x)
  | reference =>
    show Ordered s (execReference s)
    exact ordered_completing fun r s => orderly_stationOnly (orderly_respond fun x s => orderly_setReference s x)
  | tare =>
    show Ordered s (execTare s)
    exact ordered_completing fun r s => orderly_stationOnly (orderly_respond fun x s => orderly_tareChannel s x)
  | groupRecallRequest =>
    show Ordered s (execGroupRecallRequest s)
    refine ordered_completing fun r s => ?_
    split
    · exact orderly_groupRecall s _ _
    · exact .refl s
  | lightsEnable =>
    show Ordered s (execLightsEnable s)
    exact ordered_completing fun r s => orderly_respond fun x s => orderly_lighting (orderly_setLight s fun _ _ => rfl)
  | channelEnable =>
    show Ordered s (execChannelEnable s)
    exact ordered_completing fun r s => orderly_respond fun x s => orderly_lighting (orderly_enableChannels s _ _ _)
  | nightSet =>
    show Ordered s (execNightSet s)
    exact ordered_completing fun r s => orderly_respond fun x s => orderly_lighting (orderly_setLight s fun _ _ => rfl)
  | nightOff =>
    show Ordered s (execNightOff s)
    exact ordered_completing fun r s => orderly_respond fun x s => orderly_lighting (orderly_setLight s fun _ _ => rfl)
  | runSet =>
    show Ordered s (execRunSet s)
    exact ordered_completing fun r s => orderly_respond fun x s => orderly_lighting (orderly_setRegion s x)
  | sceneTime =>
    show Ordered s (execSceneTime s)
    exact ordered_completing fun r s => orderly_respond fun x s => orderly_lighting (orderly_setSceneTime s _ _)
  | alarmClear =>
    show Ordered s (execAlarmClear s)
    exact ordered_completing fun r s => (orderly_respond fun x s => orderly_alarmClear s x).trans (orderly_oneInstant _)
  | mapClear =>
    show Ordered s (execMapClear s)
    exact ordered_completing fun r s => orderly_respond fun _ s => orderly_setTime_same s rfl
  | restart =>
    show Ordered s (execRestart s)
    exact ordered_completing fun r s => (orderly_stationOnly (orderly_respond fun _ s =>
      (orderly_softRestart s).trans (orderly_foresee _))).trans (orderly_oneInstant _)
  | readAxis =>
    show Ordered s (execReadAxis s)
    exact ordered_read s
  | readSense =>
    show Ordered s (execReadSense s)
    exact ordered_read s
  | readTime =>
    show Ordered s (execReadTime s)
    exact ordered_read s
  | readAlarms =>
    show Ordered s (execReadAlarms s)
    exact ordered_read s
  | readLight =>
    show Ordered s (execReadLight s)
    exact ordered_read s
  | readPeer =>
    show Ordered s (execReadPeer s)
    exact ordered_read s
  | readScene =>
    show Ordered s (execReadScene s)
    exact ordered_read s
  | levelWindow =>
    show Ordered s (execLevelWindow s)
    refine ordered_completing fun r s => ?_
    refine .trans (t := s.setCmd { s.cmd with window := none }) (orderly_setCmd s id) ?_
    exact orderly_respond fun x s => orderly_openWindow s _ x
  | levelData =>
    show Ordered s (execLevelData s)
    exact ordered_completing fun r s => orderly_respond fun p s => orderly_writeLevels s _ p
  | replyDiscard =>
    show Ordered s (execReplyDiscard s)
    exact ordered_completing fun r s => .refl s
  | unknownKind =>
    show Ordered s (execUnknownKind s)
    exact ordered_completing fun r s => orderly_reply s r _

theorem bounded_exec (c : Instr) (s t : State) (h : exec c s = .next t) : Bounded s t := by
  cases c with
  | hardReset straps => cases h; exact bounded_of_cold s _ _ _
  | heldInReset => cases h; exact bounded_of_cold s _ _ _
  | attemptFail => exact bounded_event_loading bounded_failAttempt t h
  | imageJudged bytes =>
    refine bounded_event_loading (fun l => ?_) t h
    exact (orderly_feed s bytes).trans_bounded (bounded_judgeImage ((orderly_feed s bytes).station.trans l))
  | _ => exact (ordered_exec _ s rfl t h).bounded

/-- The queue of commands is the surroundings'. -/
theorem orderly_setPending (s : State) (l : List Instr) : Orderly s { s with pending := l } :=
  .of_rest rfl rfl rfl (fun _ _ => rfl) id id id id

theorem orderly_clock (s : State) : Orderly s s.clock := by
  have unit : Orderly s s.passUnit := by
    refine .trans (t := s.setTime { s.time with
      elapsed := s.time.elapsed + 1, latch := s.time.latch.map fun l => { l with age := l.age + 1 } }) ?_ ?_
    · exact orderly_setTime_same s rfl
    · exact orderly_setCmd _ id
  refine orderly_ite (fun _ => .refl s) fun _ => orderly_ite (fun _ => ?_) (fun _ => orderly_setPending s _)
  exact unit.trans (orderly_ite (fun _ => .refl _) (fun _ => orderly_setPending _ _))

/-- Settles O12: one relation that every operation of the model keeps, and the end of LOADING beside it. -/
theorem everyStepKeepsTheBounds : Obligations.EveryStepKeepsTheBounds := by
  intro s t h
  have kept : Bounded s t := by
    unfold step at h
    split at h
    · exact (orderly_setPending s _).trans_bounded (bounded_exec _ _ t h)
    · cases h; exact (orderly_clock s).bounded
  exact ⟨kept.queues, kept.counts, kept.loading, kept.slots⟩

end Sys2Proof.Machine
end

section
/-! PROOFS. The resets, and the laws in the state after reset. -/

namespace Sys2Proof.Machine

/-! ## The cold state -/

theorem cold_heldNow (pins : Pins) (ax : Axis) : (State.cold pins).heldNow ax = false := by
  have mask : ((State.cold pins).axisCfg ax).holdMask = 0 := by cases ax <;> rfl
  have none : (Alarm.all.any fun a => a.within ((State.cold pins).axisCfg ax).holdMask && (State.cold pins).alarmCounts a) = false := by
    simp [mask, Alarm.within]
  have quietLine : (State.cold pins).line.allstop = false ∧ (State.cold pins).line.estop = false ∧
    (State.cold pins).safety.holdOff = 0 := ⟨rfl, rfl, rfl⟩
  simp [State.heldNow, State.causes, Causes.any, none, quietLine]

theorem cold_axisSafety (pins : Pins) (ax : Axis) : (State.cold pins).axisSafety ax = .cold := by
  cases ax <;> rfl

theorem cold_contentNow (pins : Pins) : (State.cold pins).contentNow = (State.cold pins).peer.content := by
  have flag : (State.cold pins).flagValue .zero = false := rfl
  have flags : (State.cold pins).flagsNow = 0 := by
    simp [State.flagsNow, State.cold, Configuration.defaults, State.flagValue, natOfBits, bit]
  simp only [State.contentNow, flags]
  rfl

theorem cold_calm (pins : Pins) : (State.cold pins).calm = true := by
  have still (ax : Axis) : (State.cold pins).holdStale ax = false := by
    simp [State.holdStale, State.holdOn, cold_heldNow, cold_axisSafety, AxisSafety.cold]
  exact (calm_iff _).2 ⟨rfl, rfl, cold_contentNow pins, still .A, still .B⟩

theorem cold_published (pins : Pins) : (State.cold pins).published = true := by
  rw [published_iff]
  refine ⟨rfl, ?_⟩
  have dark (i : Fin 24) : (State.cold pins).light.logical i = 0 := by
    simp only [LightUnit.logical, cold_channel]; rfl
  ext i hi
  simp [LightUnit.compose, dark]
  simp [State.cold, LightUnit.cold]

theorem cold_interlocksLawful (pins : Pins) : (State.cold pins).interlocksLawful := by
  intro ax
  have terms : ((State.cold pins).axisCfg ax).terms = [] := by cases ax <;> rfl
  simp [State.permittedNow, terms, cold_axisSafety, AxisSafety.cold]

/-- Settles O6: the state after reset is the cold one. -/
theorem resetIsLawful : Obligations.ResetIsLawful := by
  refine ⟨⟨?_, nofun⟩, ?_, ?_, ?_, ?_, cold_queuesBounded _, ?_, cold_lineCountsBounded _, cold_slotsLawful _,
    cold_loadingLawful _, cold_interlocksLawful _⟩
  · simp only [State.quiet, Bool.and_eq_true]
    exact ⟨cold_calm _, cold_published _⟩
  · intro ax _; exact congrArg AxisRecord.duty (cold_axis _ ax)
  · intro ax; exact (congrArg AxisRecord.position (cold_axis _ ax)).trans_le (Nat.zero_le _)
  · intro ax n; exact absurd (congrArg AxisRecord.lease (cold_axis _ ax)) n
  · intro _ ax; exact congrArg (·.state.drives) (cold_axis _ ax)
  · exact ⟨Nat.zero_le _, List.nodup_nil, Nat.zero_le _⟩

/-! ## The resets -/

/-- The straps that make a station LISTEN-ONLY (R185). -/
theorem listenOnly_iff (n : BitVec 6) : (n == 0 || n == 63) = true ↔ n.toNat = 0 ∨ n.toNat = 63 := by
  simp only [Bool.or_eq_true, beq_iff_eq, BitVec.toNat_eq]
  rfl

theorem loader_cold (n : BitVec 6) : Loader.cold n =
    { station := if n.toNat = 0 ∨ n.toNat = 63 then .listenOnly else .loading,
      address := if n.toNat = 0 ∨ n.toNat = 63 then none else some n.toNat, attempt := 1, staging := [], check := 0xFFFF } := by
  simp only [Loader.cold, listenOnly_iff]

theorem cold_scene (pins : Pins) (k : Fin 8) : (State.cold pins).light.scenes[k] = .cold := by
  simp [State.cold, LightUnit.cold]
theorem cold_output (pins : Pins) (i : Fin 24) : (State.cold pins).light.outputs[i] = 0 := by
  simp [State.cold, LightUnit.cold]
theorem cold_sense (pins : Pins) (c : Fin 4) : (State.cold pins).sense[c] = .cold := by
  simp [State.cold]
theorem cold_key (pins : Pins) (k : Fin 8) : (State.cold pins).cmd.keys[k] = .cold := by
  simp [State.cold, CommandUnit.cold]
/-- HARD_RESET and HELD_IN_RESET leave the cold state but for the queue of commands and the reset itself; nothing reads those. -/
theorem cold_heldNow_pending (pins : Pins) (l : List Instr) (ax : Axis) :
    ({ State.cold pins with pending := l } : State).heldNow ax = false := cold_heldNow pins ax

/-- Settles O2: both resets give the cold state, whose blocks stand at their values. -/
theorem resetsLeaveTheStatedValues : Obligations.ResetsLeaveTheStatedValues := by
  refine ⟨fun n s => ?_, fun s => ?_⟩
  · refine ⟨{ State.cold { s.pins with straps := n } with pending := s.pending }, rfl, rfl, rfl, ?_⟩
    have loader : (State.cold { s.pins with straps := n }).loader = _ := loader_cold n
    generalize { s.pins with straps := n } = pins at *
    refine ⟨congrArg Loader.station loader, congrArg Loader.address loader, rfl, rfl, rfl, rfl, rfl, rfl, rfl, rfl, rfl,
      rfl, rfl, rfl, fun _ => ⟨rfl, rfl⟩, rfl, rfl, rfl, rfl, rfl, rfl, rfl, rfl, rfl, rfl, rfl, rfl, rfl, rfl, rfl, rfl,
      fun k => ?_, fun i => ?_, rfl, fun k => ?_, rfl, rfl, rfl, rfl, rfl, rfl, cold_pool pins, fun c => cold_sense pins c,
      rfl, rfl, rfl, fun ax => ?_, fun ax => ?_, rfl⟩
    · have k := cold_key pins k
      exact ⟨congrArg KeyRecord.level k, congrArg KeyRecord.pending k⟩
    · exact ⟨cold_channel pins i, cold_output pins i⟩
    · have k := cold_scene pins k
      refine ⟨congrArg Scene.fadeTime k, fun i => ?_⟩
      exact (congrArg (fun scene : Scene => scene.levels[i]) k).trans (by simp [Scene.cold])
    · refine ⟨congrArg AxisRecord.state (cold_axis pins ax), cold_heldNow_pending pins s.pending ax, ?_, ?_⟩
      · exact congrArg AxisSafety.held (cold_axisSafety pins ax)
      · intro d
        exact (congrArg (fun safety : AxisSafety => safety.permitted d) (cold_axisSafety pins ax)).trans (by cases d <;> rfl)
    · cases ax <;> exact ⟨rfl, rfl, rfl⟩
  · refine ⟨{ State.cold s.pins with pending := s.pending, inReset := true }, rfl, rfl, rfl, rfl,
      cold_output s.pins, fun ax => ?_⟩
    cases ax <;> exact ⟨rfl, rfl, rfl⟩

end Sys2Proof.Machine
end

section
/-! PROOFS. The coding of frames: transition insertion, the check and the fields of the header. -/

namespace Sys2Proof.Machine

/-! ## Runs of equal bits -/

/-- How many bits equal to `b` a list begins with. -/
def leadOf (b : Bool) (l : List Bool) : Nat := (l.takeWhile (· == b)).length

theorem leadOf_cons (b x : Bool) (l : List Bool) : leadOf b (x :: l) = if x = b then leadOf b l + 1 else 0 := by
  by_cases h : x = b <;> simp [leadOf, h]

theorem le_leadOf {b : Bool} {n : Nat} {l : List Bool} (h : ∀ j < n, l[j]? = some b) : n ≤ leadOf b l := by
  induction n generalizing l with
  | zero => exact Nat.zero_le _
  | succ n ih =>
    match l with
    | [] => simpa using h 0 (by omega)
    | x :: l =>
      have head : x = b := by simpa using h 0 (by omega)
      have tail := ih (l := l) fun j hj => by simpa using h (j + 1) (by omega)
      rw [leadOf_cons, if_pos head]; omega

/-- After `run` bits of value `v` at most seven equal ones stand in all, and a bit of the other value begins at most seven. -/
theorem leadOf_stuff (b v : Bool) (run : Nat) (bs : List Bool) (h : run ≤ 6) :
    leadOf b (stuff run v bs) ≤ if 0 < run ∧ b = v then 7 - run else 7 := by
  induction bs generalizing run v with
  | nil => simp [stuff, leadOf]
  | cons x bs ih =>
    have here : (if 0 < run ∧ x = v then run + 1 else 1) ≤ 7 := by split <;> omega
    simp only [stuff]
    generalize e : (if 0 < run ∧ x = v then run + 1 else 1) = run' at here ⊢
    have value : 1 ≤ run' ∧ (0 < run ∧ x = v → run' = run + 1) := by
      rw [← e]; split
      · exact ⟨by omega, fun _ => rfl⟩
      · next other => exact ⟨by omega, fun same => absurd same other⟩
    by_cases full : run' = 7
    · rw [if_pos full, leadOf_cons, leadOf_cons]
      split_ifs with h1 h2 h3 <;> simp_all
    · rw [if_neg full, leadOf_cons]
      have rest := ih x run' (by omega)
      by_cases hx : x = b
      · subst hx
        rw [if_pos rfl]
        rw [if_pos ⟨value.1, rfl⟩] at rest
        split_ifs with hv
        · have := value.2 hv; omega
        · omega
      · rw [if_neg hx]; exact Nat.zero_le _

theorem leadOf_drop_stuff (b v : Bool) (run : Nat) (bs : List Bool) (i : Nat) (h : run ≤ 6) :
    leadOf b ((stuff run v bs).drop i) ≤ 8 := by
  induction bs generalizing run v i with
  | nil => simp [stuff, leadOf]
  | cons x bs ih =>
    have start := leadOf_stuff b v run (x :: bs) h
    match i with
    | 0 => rw [List.drop_zero]; split at start <;> omega
    | i + 1 =>
      have here : (if 0 < run ∧ x = v then run + 1 else 1) ≤ 7 := by split <;> omega
      simp only [stuff]
      by_cases full : (if 0 < run ∧ x = v then run + 1 else 1) = 7
      · rw [if_pos full, List.drop_succ_cons]
        match i with
        | 0 =>
          have rest := leadOf_stuff b x 0 bs (by omega)
          rw [if_neg (by omega)] at rest
          rw [List.drop_zero, leadOf_cons]
          split <;> omega
        | i + 1 => rw [List.drop_succ_cons]; exact ih x 0 i (by omega)
      · rw [if_neg full, List.drop_succ_cons]; exact ih x _ i (by omega)

/-- Settles O16: nine equal bits would be a run of nine somewhere in the inserted stream. -/
theorem noFrameShowsNineEqualBits : Obligations.NoFrameShowsNineEqualBits := by
  intro f i b
  by_contra none
  push Not at none
  have nine : 9 ≤ leadOf b (f.lineBits.drop i) := le_leadOf fun j hj => by rw [List.getElem?_drop]; exact none j hj
  have eight : leadOf b (f.lineBits.drop i) ≤ 8 := leadOf_drop_stuff b false 0 f.content i (by omega)
  omega

/-! ## The receiver's reading -/

theorem unstuff_zero (v w : Bool) (l : List Bool) : unstuff 0 v l = unstuff 0 w l := by
  cases l <;> simp [unstuff]

theorem unstuff_stuff (run : Nat) (v : Bool) (bs : List Bool) (h : run ≤ 6) :
    unstuff run v (stuff run v bs) = .clean bs false := by
  induction bs generalizing run v with
  | nil => simp only [stuff, unstuff]; congr; simp; omega
  | cons x bs ih =>
    have here : (if 0 < run ∧ x = v then run + 1 else 1) ≤ 7 := by split <;> omega
    simp only [stuff]
    by_cases full : (if 0 < run ∧ x = v then run + 1 else 1) = 7
    · rw [if_pos full, unstuff, if_neg (by omega), full, unstuff, if_pos rfl, if_neg (by simp), unstuff_zero _ x, ih 0 x (by omega)]
      rfl
    · rw [if_neg full, unstuff, if_neg (by omega), ih _ x (by omega)]; rfl

theorem unstuff_lineBits (f : Frame) : unstuff 0 false f.lineBits = .clean f.content false :=
  unstuff_stuff 0 false f.content (by omega)

/-! ## Fields -/

@[simp] theorem length_bitsOf {w : Nat} (x : BitVec w) : (bitsOf x).length = w := by simp [bitsOf]

theorem natOfBits_append (l : List Bool) (b : Bool) : natOfBits (l ++ [b]) = 2 * natOfBits l + bit b := by
  simp [natOfBits]

theorem natOfBits_testBit (w n : Nat) : natOfBits ((List.range w).map fun i => n.testBit (w - 1 - i)) = n % 2 ^ w := by
  induction w generalizing n with
  | zero => simp [natOfBits, Nat.mod_one]
  | succ w ih =>
    have upper : ((List.range w).map fun i => n.testBit (w + 1 - 1 - i)) = (List.range w).map fun i => (n / 2).testBit (w - 1 - i) :=
      List.map_congr_left fun i hi => by
        rw [← Nat.testBit_succ]; congr 1; have := List.mem_range.1 hi; omega
    have lowest : bit (n.testBit (w + 1 - 1 - w)) = n % 2 := by
      have two := Nat.mod_two_eq_zero_or_one n
      rcases two with h | h <;> simp [bit, Nat.testBit_zero, h]
    rw [List.range_succ, List.map_append, List.map_singleton, natOfBits_append, upper, ih, lowest, Nat.pow_succ, Nat.mul_comm (2 ^ w) 2,
      Nat.mod_mul]
    omega

theorem natOfBits_bitsOf {w : Nat} (x : BitVec w) : natOfBits (bitsOf x) = x.toNat := by
  have bits : bitsOf x = (List.range w).map fun i => x.toNat.testBit (w - 1 - i) :=
    List.map_congr_left fun i hi => by
      rw [BitVec.getMsbD_eq_getLsbD]; simp [List.mem_range.1 hi, BitVec.getLsbD]
  rw [bits, natOfBits_testBit, Nat.mod_eq_of_lt x.isLt]

theorem natOfBits_field (w n : Nat) (h : n < 2 ^ w) : natOfBits (bitsOf (BitVec.ofNat w n)) = n := by
  rw [natOfBits_bitsOf, BitVec.toNat_ofNat, Nat.mod_eq_of_lt h]

/-- The field `x` of a list, where `n` bits stand before it. -/
theorem take_drop_field {p x r : List Bool} {n w : Nat} (hn : p.length = n) (hw : x.length = w) :
    ((p ++ (x ++ r)).drop n).take w = x := by
  rw [← hn, ← hw, List.drop_left, List.take_left]

@[simp] theorem length_bitsOfBytes (l : List Byte) : (bitsOfBytes l).length = 8 * l.length := by
  induction l with
  | nil => rfl
  | cons x l ih => simp only [bitsOfBytes, List.flatMap_cons, List.length_append, length_bitsOf, List.length_cons] at ih ⊢; omega

theorem bytesOfBits_bitsOfBytes (l : List Byte) (r : List Bool) : bytesOfBits l.length (bitsOfBytes l ++ r) = l := by
  induction l with
  | nil => rfl
  | cons x l ih =>
    have split : bitsOfBytes (x :: l) ++ r = bitsOf x ++ (bitsOfBytes l ++ r) := by simp [bitsOfBytes]
    rw [split, List.length_cons, bytesOfBits, List.take_left' (length_bitsOf x), List.drop_left' (length_bitsOf x), ih,
      natOfBits_bitsOf]
    simp

/-! ## The check -/

theorem crcFrom_prefix (r : BitVec 16) (n : Nat) : crcFrom r ((List.range n).map r.getMsbD) = r <<< n := by
  induction n with
  | zero => simp [crcFrom]
  | succ n ih =>
    have msb : (r <<< n).msb = r.getMsbD n := by simp [BitVec.msb_shiftLeft]
    rw [List.range_succ, List.map_append, crcFrom, List.foldl_append, ← crcFrom.eq_def r, ih]
    simp [crcStep, msb, BitVec.shiftLeft_add]

/-- The bits of the register shift it empty. -/
theorem crcFrom_bitsOf (r : BitVec 16) : crcFrom r (bitsOf r) = 0 := by
  rw [bitsOf, crcFrom_prefix]; simp

theorem crc_append_crc (l : List Bool) : crc (l ++ bitsOf (crc l)) = 0 := by
  rw [crc, crcFrom, List.foldl_append]; exact crcFrom_bitsOf (crc l)

/-! ## A frame's content -/

@[simp] theorem length_header (f : Frame) : f.header.length = 25 := by simp [Frame.header]

theorem length_content (f : Frame) : f.content.length = 42 + 8 * f.payload.length := by
  simp [Frame.content, Frame.message]; omega

/-- The payload and the check that follow the header. -/
def Frame.trailer (f : Frame) : List Bool := bitsOfBytes f.payload ++ bitsOf (crc f.message)

theorem content_eq (f : Frame) : f.content = [false] ++ (bitsOf (BitVec.ofNat 3 f.cls) ++ (bitsOf (BitVec.ofNat 6 f.source) ++
    (bitsOf (BitVec.ofNat 7 f.dest) ++ (bitsOf (BitVec.ofNat 5 f.kind) ++ (bitsOf (BitVec.ofNat 4 f.payload.length) ++
      f.trailer))))) := by
  simp [Frame.content, Frame.message, Frame.header, Frame.trailer]

theorem content_cls (f : Frame) : (f.content.drop 1).take 3 = bitsOf (BitVec.ofNat 3 f.cls) := by
  rw [content_eq]; exact take_drop_field rfl (length_bitsOf _)

theorem content_source (f : Frame) : (f.content.drop 4).take 6 = bitsOf (BitVec.ofNat 6 f.source) := by
  rw [content_eq, ← List.append_assoc]; exact take_drop_field (by simp) (length_bitsOf _)

theorem content_dest (f : Frame) : (f.content.drop 10).take 7 = bitsOf (BitVec.ofNat 7 f.dest) := by
  rw [content_eq, ← List.append_assoc, ← List.append_assoc]; exact take_drop_field (by simp) (length_bitsOf _)

theorem content_kind (f : Frame) : (f.content.drop 17).take 5 = bitsOf (BitVec.ofNat 5 f.kind) := by
  rw [content_eq, ← List.append_assoc, ← List.append_assoc, ← List.append_assoc]
  exact take_drop_field (by simp) (length_bitsOf _)

theorem content_length (f : Frame) : (f.content.drop 22).take 4 = bitsOf (BitVec.ofNat 4 f.payload.length) := by
  rw [content_eq, ← List.append_assoc, ← List.append_assoc, ← List.append_assoc, ← List.append_assoc]
  exact take_drop_field (by simp) (length_bitsOf _)

theorem content_trailer (f : Frame) : f.content.drop 26 = f.trailer := by
  have split : f.content = (false :: f.header) ++ f.trailer := by simp [Frame.content, Frame.message, Frame.trailer]
  rw [split]; exact List.drop_left' (by simp)

theorem lengthField_content (f : Frame) (h : f.payload.length ≤ 8) : lengthField f.content = f.payload.length := by
  rw [lengthField, content_length, natOfBits_field 4 _ (by omega)]

theorem frameOfContent_content (f : Frame) (cls : f.cls < 8) (source : f.source < 64) (dest : f.dest < 128) (kind : f.kind < 32)
    (length : f.payload.length ≤ 8) : frameOfContent f.content = f := by
  rw [frameOfContent, content_cls, content_source, content_dest, content_kind, content_trailer, lengthField_content f length,
    natOfBits_field 3 _ cls, natOfBits_field 6 _ source, natOfBits_field 7 _ dest, natOfBits_field 5 _ kind, Frame.trailer,
    bytesOfBits_bitsOfBytes]

theorem crc_content (f : Frame) : crc (f.content.drop 1) = 0 := crc_append_crc f.message

/-- Settles O15: removing the inserted transitions, reading the header and checking undo what the sender did. -/
theorem sentFrameIsReceivedIntact : Obligations.SentFrameIsReceivedIntact := by
  intro f cls low high dest kind length
  have field := lengthField_content f length
  rw [judge, unstuff_lineBits]
  simp only [length_content, field, crc_content, frameOfContent_content f cls (by omega) dest kind length]
  rw [if_neg (by omega), if_neg (by omega), if_neg (by simp), if_neg (by simp), if_neg (by omega)]

end Sys2Proof.Machine
end

section
/-! PROOFS. The own frame on the line and the start of a reception: line commands that touch nothing but the Line Unit and the
latch, so that the end of the command changes nothing more. -/

namespace Sys2Proof.Machine

/-! ## The shape of a line command -/

theorem atLastBit_of_due {s s1 : State} {bits : List LineBit} {due : State → Bool} {effect : State → State}
    (read : s.readBits bits = s1) (running : s.inReset = false) (d : due s1 = true) :
    atLastBit s bits due effect = .next (effect s1).finish := by
  simp [atLastBit, read, running, d]

theorem quiet_of_awake {s : State} (h : s.awake = true) : s.quiet = true := by
  simp only [State.awake, Bool.and_eq_true] at h; exact h.2

theorem calm_of_awake {s : State} (h : s.awake = true) : s.calm = true := by
  have q := quiet_of_awake h
  simp only [State.quiet, Bool.and_eq_true] at q; exact q.1

theorem running_of_awake {s : State} (h : s.awake = true) : s.inReset = false := by
  simp only [State.awake, Bool.and_eq_true, Bool.not_eq_true'] at h; exact h.1

/-- A write to the Line Unit that leaves ALLSTOP and the emergency stop ends the command. -/
theorem finish_setLine {s : State} (h : s.awake = true) {x : LineUnit} (allstop : x.allstop = s.line.allstop)
    (estop : x.estop = s.line.estop) : (s.setLine x).finish = s.setLine x :=
  finish_of_quiet ((quiet_congr (s := s) (t := s.setLine x) rfl rfl rfl rfl rfl rfl rfl rfl rfl rfl allstop estop).trans
    (quiet_of_awake h))

/-- So does one to the latch besides. -/
theorem finish_setLine_latch {s : State} (h : s.awake = true) {x : LineUnit} {latch : Option Latch}
    (allstop : x.allstop = s.line.allstop) (estop : x.estop = s.line.estop) :
    ((s.setLine x).setTime { s.time with latch := latch }).finish = (s.setLine x).setTime { s.time with latch := latch } :=
  finish_of_quiet ((quiet_congr (s := s) (t := (s.setLine x).setTime { s.time with latch := latch })
    rfl rfl rfl rfl rfl rfl rfl rfl rfl rfl allstop estop).trans (quiet_of_awake h))

/-! ## Reading a bit -/

@[simp] theorem read_allstop (l : LineUnit) (b : LineBit) : (l.read b).allstop = l.allstop := by
  simp only [LineUnit.read]; split <;> rfl
@[simp] theorem read_estop (l : LineUnit) (b : LineBit) : (l.read b).estop = l.estop := by
  simp only [LineUnit.read]; split <;> rfl
@[simp] theorem read_own (l : LineUnit) (b : LineBit) : (l.read b).own = l.own := by
  simp only [LineUnit.read]; split <;> rfl
@[simp] theorem read_errorOwed (l : LineUnit) (b : LineBit) : (l.read b).errorOwed = l.errorOwed := by
  simp only [LineUnit.read]; split <;> rfl
@[simp] theorem read_refresh (l : LineUnit) (b : LineBit) : (l.read b).refresh = l.refresh := by
  simp only [LineUnit.read]; split <;> rfl
@[simp] theorem read_erratic (l : LineUnit) (b : LineBit) : (l.read b).erratic = l.erratic := by
  simp only [LineUnit.read]; split <;> rfl
theorem read_idleCount_outside {l : LineUnit} (h : l.place = .outside) : (l.read false).idleCount = 0 := by
  simp [LineUnit.read, h]

/-! ## The frame that is offered -/

theorem foldl_lowest (q : List SendFrame) (m : Nat) :
    q.foldl (fun m f => min m f.cls) m ≤ m ∧ (∀ f ∈ q, q.foldl (fun m f => min m f.cls) m ≤ f.cls) ∧
      (q.foldl (fun m f => min m f.cls) m = m ∨ ∃ f ∈ q, f.cls = q.foldl (fun m f => min m f.cls) m) := by
  induction q generalizing m with
  | nil => simp
  | cons g q ih =>
    obtain ⟨low, all, found⟩ := ih (min m g.cls)
    simp only [List.foldl_cons, List.mem_cons, forall_eq_or_imp, exists_eq_or_imp]
    refine ⟨by omega, ⟨by omega, all⟩, ?_⟩
    rcases found with found | found
    · omega
    · exact .inr (.inr found)

theorem lowestClass_le {q : List SendFrame} {f : SendFrame} (h : f ∈ q) : lowestClass q ≤ f.cls := (foldl_lowest q 7).2.1 f h

theorem exists_lowestClass {q : List SendFrame} (nonempty : q ≠ []) (h : ∀ f ∈ q, f.cls ≤ 7) :
    ∃ f ∈ q, f.cls = lowestClass q := by
  rcases (foldl_lowest q 7).2.2 with top | found
  · obtain ⟨f, hf⟩ := List.exists_mem_of_ne_nil q nonempty
    have low : lowestClass q ≤ f.cls := lowestClass_le hf
    have all := h f hf
    have top : lowestClass q = 7 := top
    exact ⟨f, hf, by omega⟩
  · exact found

theorem putOnLine_eq {c : Nat} {q : List SendFrame} (h : ∃ f ∈ q, f.cls = c) :
    ∃ before f after, q = before ++ f :: after ∧ f.cls = c ∧ (∀ g ∈ before, g.cls ≠ c) ∧
      putOnLine c q = before ++ { f with onLine := true } :: after := by
  induction q with
  | nil => simp at h
  | cons g q ih =>
    by_cases here : g.cls = c
    · exact ⟨[], g, q, rfl, here, by simp, by simp [putOnLine, here]⟩
    · obtain ⟨before, f, after, split, cls, none, put⟩ := ih (by simpa [here] using h)
      exact ⟨g :: before, f, after, by simp [split], cls, by simpa [here] using none, by simp [putOnLine, here, put]⟩

/-- Settles O31: a frame or a reception begins by one write to the Line Unit, which leaves nothing to take. -/
theorem framesBegin : Obligations.FramesBegin := by
  intro bits s s1 read running awake
  constructor
  · intro may classes
    have nonempty : s1.line.queue ≠ [] := by
      simp only [State.mayBegin, Bool.and_eq_true, Bool.not_eq_true'] at may
      simpa using may.2
    obtain ⟨before, f, after, split, cls, none, put⟩ := putOnLine_eq (exists_lowestClass nonempty classes)
    have low : ∀ g ∈ s1.line.queue, f.cls ≤ g.cls := fun g hg => cls ▸ lowestClass_le hg
    have ends : s1.beginFrame.finish = s1.beginFrame := finish_setLine awake (read_allstop _ _) (read_estop _ _)
    refine ⟨s1.beginFrame, before, f, after, ?_, split, fun g hg => ?_, fun g hg => low g (by simp [split, hg]), put, rfl, rfl, rfl,
      read_budget _ _, rfl⟩
    · exact (atLastBit_of_due read running may).trans (by rw [ends])
    · exact lt_of_le_of_ne (low g (by simp [split, hg])) (cls ▸ (none g hg).symm)
  · intro idle own decodes
    have ends : s1.startReception.finish = s1.startReception := finish_setLine awake (read_allstop _ _) (read_estop _ _)
    have starts : s1.startsNow false = true := by simp [State.startsNow, idle, own, decodes]
    have outside : s1.line.place = .outside := by
      simp only [State.lineIdle, Bool.and_eq_true, beq_iff_eq] at idle; exact idle.1.1
    refine ⟨s1.startReception, ?_, rfl, rfl, read_idleCount_outside outside, (read_own _ _).trans own, read_queue _ _, rfl⟩
    show execStartBitRead (bits ++ [false]) s = _
    simp [execStartBitRead, read, running, starts, ends]

/-! ## Contention -/

/-- Settles O32: contention ends by one write to the Line Unit, which leaves nothing to take. -/
theorem contentionIsLostOrWon : Obligations.ContentionIsLostOrWon := by
  intro bits s s1 read running awake
  constructor
  · intro loses stays
    have lost : s1.loseContention = s1.setLine { s1.line with own := .none, queue := backToWaiting s1.line.queue } := by
      simp [State.loseContention, stays]
    have ends : s1.loseContention.finish = s1.loseContention := by rw [lost]; exact finish_setLine awake rfl rfl
    refine ⟨s1.loseContention, (atLastBit_of_due read running loses).trans (by rw [ends]), ?_, ?_⟩ <;> rw [lost] <;> rfl
  · intro f found wins
    have won : s1.winContention = s1.setLine { s1.line with
        own := .sending, leaveOnLoss := false,
        queue := if f.cls = 5 then fillOnLine s1.announcePayload s1.line.queue else s1.line.queue } := by
      by_cases five : f.cls = 5 <;> simp [State.winContention, State.ownFrame, found, annCls, five, State.setLine]
    have ends : s1.winContention.finish = s1.winContention := by rw [won]; exact finish_setLine awake rfl rfl
    refine ⟨s1.winContention, (atLastBit_of_due read running wins).trans (by rw [ends]), ?_, ?_, ?_, ?_⟩ <;> rw [won] <;> rfl

/-- Settles O34: the header's end writes the frame on the line or the latch, and leaves nothing to take. -/
theorem headerEndLatchesTheCount : Obligations.HeaderEndLatchesTheCount := by
  intro bits s s1 read running awake due
  constructor
  · intro own
    have latched : s1.latchCount = s1.setLine { s1.line with
        queue := fillOnLine (word16 s1.time.p.toNat ++ word16 s1.phi) s1.line.queue } := by simp [State.latchCount, own]
    have ends : s1.latchCount.finish = s1.latchCount := by rw [latched]; exact finish_setLine awake rfl rfl
    refine ⟨s1.latchCount, (atLastBit_of_due read running due).trans (by rw [ends]), ?_, ?_, ?_⟩ <;> rw [latched] <;> rfl
  · intro own
    have latched : s1.latchCount = (s1.setLine s1.line).setTime { s1.time with
        latch := some { p := s1.time.p, phi := s1.phi, age := 0 } } := by simp [State.latchCount, own]; rfl
    have ends : s1.latchCount.finish = s1.latchCount := by rw [latched]; exact finish_setLine_latch awake rfl rfl
    refine ⟨s1.latchCount, (atLastBit_of_due read running due).trans (by rw [ends]), ?_, ?_, ?_⟩ <;> rw [latched] <;> rfl

/-! ## The acknowledgment slot -/

theorem length_waiting {q : List SendFrame} (h : ∃ f ∈ q, f.onLine = true) : (waiting q).length < q.length := by
  obtain ⟨f, hf, on⟩ := h
  exact List.length_filter_lt_length_iff_exists.2 ⟨f, hf, by simp [on]⟩

theorem leaveLine_of_no_refresh {s : State} (h : s.line.refresh = false) :
    s.leaveLine = s.setLine { s.line with queue := waiting s.line.queue, own := .none, leaveOnLoss := false } := by
  simp [State.leaveLine, h]

theorem offer_of_short_queue {s : State} (f : SendFrame) (sends : s.sends = true) (short : s.line.queue.length < 8) :
    s.offer f = s.setLine { s.line with queue := s.line.queue ++ [f] } :=
  offer_of_room (n := 0) (by simp [State.room, sends]; omega) f

theorem leaveLine_of_refresh {s : State} (refresh : s.line.refresh = true) (sends : s.sends = true)
    (bounded : s.line.queue.length ≤ 8) (announce : ∃ f ∈ s.line.queue, f.onLine = true ∧ f.cls = annCls) :
    s.leaveLine = s.setLine { s.line with
      queue := waiting s.line.queue ++ [announceFrame], own := .none, leaveOnLoss := false, refresh := false } := by
  have was : (s.line.queue.any fun f => f.onLine && f.cls == annCls) = true := by simpa using announce
  have short : (waiting s.line.queue).length < 8 :=
    lt_of_lt_of_le (length_waiting (announce.imp fun f h => ⟨h.1, h.2.1⟩)) bounded
  simp only [State.leaveLine, was, refresh, State.setLine_line, Bool.and_self, if_true]
  rw [offer_of_short_queue announceFrame (by exact sends) (by exact short)]
  rfl

theorem endOwnSlot_of_slot {s : State} (h : s.line.own = .slot) (level : LineBit) :
    s.endOwnSlot level = (if level then s else s.credit).leaveLine := by simp [State.endOwnSlot, h]

/-- The Line Unit after the slot has been read and credited (R9, R15). -/
def State.slotRead (s : State) (level : LineBit) : State :=
  let s1 := s.setLine (s.line.read level)
  if level then s1 else s1.credit

theorem slotRead_eq (s : State) (level : LineBit) : s.slotRead level = s.setLine { s.line.read level with
    budget := if level then s.line.budget else min s.cfg.budget (s.line.budget + 1),
    erratic := s.line.erratic && (level || !(min s.cfg.budget (s.line.budget + 1) == s.cfg.budget)) } := by
  cases level
  · simp [State.slotRead, State.credit, State.setLine, read_budget]
  · simp only [State.slotRead, if_true, Bool.true_or, Bool.and_true]
    rw [← read_erratic s.line true, ← read_budget s.line true]

theorem readBit_of_slot {s : State} {level : LineBit} (own : s.line.own = .slot)
    (none : (s.slotRead level).leaveLine.line.errorOwed = false) : s.readBit level = (s.slotRead level).leaveLine := by
  have slot : (s.setLine (s.line.read level)).line.own = .slot := by simp [own]
  rw [State.readBit, endOwnSlot_of_slot slot, State.countOwedError, ← State.slotRead, none]
  rfl

/-- Settles O35: the slot's end is what `leaveLine` says of a frame with and without a refresh mark. -/
theorem theSlotEndsTheOwnFrame : Obligations.TheSlotEndsTheOwnFrame := by
  refine ⟨fun bits s s1 read running awake whole => ?_, fun level s awake own paid =>
    ⟨fun plain => ?_, fun refresh sends bounded announce => ?_⟩⟩
  · have ends : s1.enterSlot.finish = s1.enterSlot := finish_setLine_latch (x := s1.enterSlot.line) awake rfl rfl
    exact ⟨s1.enterSlot, (atLastBit_of_due read running whole).trans (by rw [ends]), rfl, rfl, rfl, rfl, rfl⟩
  · have left := leaveLine_of_no_refresh (s := s.slotRead level) (by rw [slotRead_eq]; exact (read_refresh _ _).trans plain)
    have bit : s.readBit level = _ := (readBit_of_slot own (by rw [left, slotRead_eq]; exact (read_errorOwed _ _).trans paid)).trans left
    rw [slotRead_eq] at bit
    have ends : (s.readBit level).finish = s.readBit level := by
      rw [bit]; exact finish_setLine awake (read_allstop _ _) (read_estop _ _)
    refine ⟨s.readBit level, (event_of_due (running_of_awake awake) (by simp [own]) _).trans (by rw [ends]),
      ?_, ?_, ?_, ?_, ?_, ?_, ?_⟩ <;> rw [bit]
    · rfl
    · exact congrArg waiting (read_queue _ _)
    · rfl
    · intro h; simp only [State.setLine_line]
      rcases h with rfl | h
      · simp
      · have : min s.cfg.budget (s.line.budget + 1) ≠ s.cfg.budget := by omega
        simp [this]
    · rintro rfl h
      have : min s.cfg.budget (s.line.budget + 1) = s.cfg.budget := by omega
      simp [this]
    · exact read_silence _ _
    · rfl
  · have queue : (s.slotRead level).line.queue = s.line.queue := by rw [slotRead_eq]; exact read_queue _ _
    have left := leaveLine_of_refresh (s := s.slotRead level) (by rw [slotRead_eq]; exact (read_refresh _ _).trans refresh)
      (by rw [slotRead_eq]; exact sends) (by rw [queue]; exact bounded) (by rw [queue]; exact announce)
    rw [queue] at left
    have bit : s.readBit level = _ := (readBit_of_slot own (by rw [left, slotRead_eq]; exact (read_errorOwed _ _).trans paid)).trans left
    rw [slotRead_eq] at bit
    have ends : (s.readBit level).finish = s.readBit level := by
      rw [bit]; exact finish_setLine awake (read_allstop _ _) (read_estop _ _)
    refine ⟨s.readBit level, (event_of_due (running_of_awake awake) (by simp [own]) _).trans (by rw [ends]),
      ?_, ?_, ?_, ?_⟩ <;> rw [bit] <;> rfl

end Sys2Proof.Machine
end

section
/-! PROOFS. What the end of a command makes of the axes and of the alarms reported: an axis at rest stays at rest, one under a
cause that lasts stays held, every report is taken, and an axis at rest follows its hold. -/

namespace Sys2Proof.Machine

/-! ## A hold that lasts -/

/-- A hold cause is present that nothing at the end of a command takes away: not an alarm that is only reported. -/
def State.firmlyHeld (s : State) (ax : Axis) : Prop :=
  s.line.allstop = true ∨ s.line.estop = true ∨ 0 < s.safety.holdOff ∨
    ∃ a : Alarm, a.within (s.axisCfg ax).holdMask = true ∧ s.alarmSet a = true

theorem mem_all (a : Alarm) : a ∈ Alarm.all := by
  cases a with
  | obstruction x | stall x | interlock x | endConflict x => cases x <;> decide
  | clip n => revert n; decide
  | _ => decide

theorem heldNow_iff (s : State) (ax : Axis) : s.heldNow ax = true ↔
    s.line.allstop = true ∨ s.line.estop = true ∨ 0 < s.safety.holdOff ∨
      ∃ a : Alarm, a.within (s.axisCfg ax).holdMask = true ∧ s.alarmCounts a = true := by
  simp only [State.heldNow, State.causes, Causes.any, Bool.or_eq_true, List.any_eq_true, Bool.and_eq_true,
    decide_eq_true_eq, or_assoc]
  have alarms : (∃ x ∈ Alarm.all, x.within (s.axisCfg ax).holdMask = true ∧ s.alarmCounts x = true) ↔
      ∃ a : Alarm, a.within (s.axisCfg ax).holdMask = true ∧ s.alarmCounts a = true :=
    ⟨fun ⟨x, _, h⟩ => ⟨x, h⟩, fun ⟨x, h⟩ => ⟨x, mem_all x, h⟩⟩
  rw [alarms]

theorem alarmCounts_of_set {s : State} {a : Alarm} (h : s.alarmSet a = true) : s.alarmCounts a = true := by
  simp [State.alarmCounts, h]

theorem heldNow_of_firm {s : State} {ax : Axis} (h : s.firmlyHeld ax) : s.heldNow ax = true :=
  (heldNow_iff s ax).2 (h.imp_right (.imp_right (.imp_right fun ⟨a, w, set⟩ => ⟨a, w, alarmCounts_of_set set⟩)))

theorem firm_of_heldNow {s : State} {ax : Axis} (calm : s.calm = true) (h : s.heldNow ax = true) : s.firmlyHeld ax := by
  refine ((heldNow_iff s ax).1 h).imp_right (.imp_right (.imp_right fun ⟨a, w, counts⟩ => ⟨a, w, ?_⟩))
  simpa [State.alarmCounts, ((calm_iff s).1 calm).1] using counts

theorem holdOn_of_firm {s : State} {ax : Axis} (h : s.firmlyHeld ax) : s.holdOn ax = true := by
  simp [State.holdOn, heldNow_of_firm h]

theorem Spares.firm {s t : State} (h : Spares s t) {ax : Axis} (k : s.firmlyHeld ax) : t.firmlyHeld ax := by
  have cfg : t.axisCfg ax = s.axisCfg ax := by simp [State.axisCfg, h.cfg]
  have allstop : t.line.allstop = s.line.allstop := by rw [h.line]
  have estop : t.line.estop = s.line.estop := by rw [h.line]
  rw [State.firmlyHeld, cfg, allstop, estop, h.holdOff]
  exact k.imp_right (.imp_right (.imp_right fun ⟨a, w, set⟩ => ⟨a, w, h.alarms _ set⟩))

/-! ## Axes at rest -/

/-- STOPPED or HELD. -/
def AxisState.rests : AxisState → Bool
  | .stopped | .held => true
  | .disabled | .starting | .running | .stopping | .reversing | .fault => false

/-- What the end of a command makes of an axis that does not move: at rest its state may change between STOPPED and HELD with the
token, under a cause that lasts HELD stands, and in the other states nothing changes. -/
structure Rests (s t : State) : Prop where
  firm : ∀ ax, s.firmlyHeld ax → t.firmlyHeld ax
  still : ∀ ax, (s.axis ax).state.moves = false → (s.axis ax).state.rests = false → t.axis ax = s.axis ax
  rest : ∀ ax, (s.axis ax).state.rests = true → ∃ st token, AxisState.rests st = true ∧
    t.axis ax = { s.axis ax with state := st, token := token }
  held : ∀ ax, s.firmlyHeld ax → (s.axis ax).state = .held → t.axis ax = s.axis ax

theorem moves_of_rests {st : AxisState} (h : st.rests = true) : st.moves = false := by
  cases st <;> simp_all [AxisState.rests, AxisState.moves]
theorem drives_of_rests {st : AxisState} (h : st.rests = true) : st.drives = false := by
  cases st <;> simp_all [AxisState.rests, AxisState.drives]

theorem Rests.of_axis {s t : State} (firm : ∀ ax, s.firmlyHeld ax → t.firmlyHeld ax)
    (h : ∀ ax, (s.axis ax).state.moves = false → t.axis ax = s.axis ax) : Rests s t where
  firm := firm
  still := fun ax m _ => h ax m
  rest := fun ax r => ⟨_, _, r, h ax (moves_of_rests r)⟩
  held := fun ax _ r => h ax (by rw [r]; rfl)

theorem Rests.refl (s : State) : Rests s s := .of_axis (fun _ => id) fun _ _ => rfl

theorem Rests.trans {s t u : State} (h : Rests s t) (k : Rests t u) : Rests s u where
  firm := fun ax => k.firm ax ∘ h.firm ax
  still := fun ax m r => by
    have e := h.still ax m r
    rw [k.still ax (by rw [e]; exact m) (by rw [e]; exact r), e]
  rest := fun ax r => by
    obtain ⟨st, token, rs, e⟩ := h.rest ax r
    obtain ⟨st', token', rs', e'⟩ := k.rest ax (by rw [e]; exact rs)
    exact ⟨st', token', rs', by rw [e', e]⟩
  held := fun ax f r => by
    have e := h.held ax f r
    rw [k.held ax (h.firm ax f) (by rw [e]; exact r), e]

theorem Trails.rests_of_motion {s t : State} (h : Trails s t) (motion : t.motion = s.motion) : Rests s t :=
  .of_axis (fun _ => h.firm) fun ax _ => axis_of_motion motion ax

/-- No axis that drives on at the end of a command is one that did not before. -/
theorem Rests.drives {s t : State} (h : Rests s t) {ax : Axis} (k : (s.axis ax).state.drives = false) :
    (t.axis ax).state.drives = false := by
  cases st : (s.axis ax).state
  case starting | running | reversing => rw [st] at k; exact absurd k (by decide)
  case stopped | held =>
    obtain ⟨st', token, r, e⟩ := h.rest ax (by rw [st]; rfl)
    rw [e]; exact drives_of_rests r
  case disabled | stopping | fault => rw [h.still ax (by rw [st]; rfl) (by rw [st]; rfl), st]; rfl

/-! ## Stops, as the axes see them -/

theorem setReason_axis_ne (s : State) {ax x : Axis} (reason : StopReason) (h : x ≠ ax) :
    (s.setReason ax reason).axis x = s.axis x := State.setAxis_axis_ne _ _ h

theorem rest_axis_ne (s : State) {ax x : Axis} (h : x ≠ ax) : (s.rest ax).axis x = s.axis x := by
  rw [State.rest, enter_axis_ne _ _ h, cut_axis_ne _ h]

theorem restFor_axis_ne (s : State) {ax x : Axis} (reason : StopReason) (h : x ≠ ax) :
    (s.restFor ax reason).axis x = s.axis x := by
  rw [State.restFor, rest_axis_ne _ h, setReason_axis_ne _ _ h]

theorem enterStopping_axis_ne (s : State) {ax x : Axis} (reason : StopReason) (h : x ≠ ax) :
    (s.enterStopping ax reason).axis x = s.axis x := by
  rw [enterStopping_eq]; dsimp only; split
  · rw [rest_axis_ne _ h, State.setAxis_axis_ne _ _ h, toStopping_axis_ne _ _ h]
  · rw [askMotor_axis_ne _ _ _ _ h, toStopping_axis_ne _ _ h]

theorem stopMoving_axis_ne (s : State) {ax x : Axis} (reason : StopReason) (h : x ≠ ax) :
    (s.stopMoving reason ax).axis x = s.axis x := by
  rw [State.stopMoving]; split
  · exact enterStopping_axis_ne s reason h
  · rfl

theorem stopMoving_of_not_moves {s : State} {ax : Axis} (reason : StopReason) (h : (s.axis ax).state.moves = false) :
    s.stopMoving reason ax = s := by simp [State.stopMoving, h]

theorem stopMoving_axis_of_not_moves (s : State) {ax x : Axis} (reason : StopReason) (h : (s.axis x).state.moves = false) :
    (s.stopMoving reason ax).axis x = s.axis x := by
  by_cases e : x = ax
  · subst e; rw [stopMoving_of_not_moves reason h]
  · exact stopMoving_axis_ne s reason e

theorem lineStopAxis_axis_ne (s : State) (action : AxisAction) {ax x : Axis} (h : x ≠ ax) :
    (s.lineStopAxis action ax).axis x = s.axis x := by
  unfold State.lineStopAxis
  split
  · split
    · exact enterStopping_axis_ne s _ h
    · exact restFor_axis_ne s _ h
  · split
    · exact enterStopping_axis_ne s _ h
    · exact restFor_axis_ne s _ h
  · exact restFor_axis_ne s _ h
  all_goals rfl

/-! ## The steps of the end of a command -/

@[simp] theorem setAlarm_motion (s : State) (a : Alarm) : (s.setAlarm a).motion = s.motion := by
  unfold State.setAlarm; dsimp only; split
  · exact offer_motion _ _
  · rfl

theorem newlySet_axis_of_not_moves (s : State) (a : Alarm) (ax : Axis) {x : Axis} (h : (s.axis x).state.moves = false) :
    (s.newlySet a ax).axis x = s.axis x := by
  unfold State.newlySet; split
  · exact stopMoving_axis_of_not_moves s _ h
  · rfl

theorem takeReport_axis_of_not_moves (s : State) (a : Alarm) {x : Axis} (h : (s.axis x).state.moves = false) :
    (s.takeReport a).axis x = s.axis x := by
  unfold State.takeReport; split
  · rfl
  · have set : (s.setAlarm a).axis x = s.axis x := axis_of_motion (setAlarm_motion s a) x
    have first : ((s.setAlarm a).newlySet a .A).axis x = s.axis x := by
      rw [newlySet_axis_of_not_moves _ a .A (by rw [set]; exact h), set]
    rw [newlySet_axis_of_not_moves _ a .B (by rw [first]; exact h), first]

theorem rests_takeReport (s : State) (a : Alarm) : Rests s (s.takeReport a) :=
  .of_axis (fun _ => (trails_takeReport s a).firm) fun _ h => takeReport_axis_of_not_moves s a h

/-- The record of an axis that follows its hold (R141). -/
theorem followHold_axis_self (s : State) (ax : Axis) : (s.followHold ax).axis ax =
    if (s.axisSafety ax).held = s.holdOn ax then s.axis ax
    else if (s.axis ax).state = .stopped ∧ s.holdOn ax = true then
      { s.axis ax with state := .held, token := (s.axis ax).token + 1 }
    else if (s.axis ax).state = .held ∧ s.holdOn ax = false then
      { s.axis ax with state := .stopped, token := (s.axis ax).token + 1 }
    else s.axis ax := by
  unfold State.followHold; dsimp only
  by_cases e : (s.axisSafety ax).held = s.holdOn ax
  · rw [if_pos e, if_pos e]
  · rw [if_neg e, if_neg e]
    cases st : (s.axis ax).state <;> cases now : s.holdOn ax <;>
      simp [st, enter_axis_self]

theorem followHold_axis_ne (s : State) {ax x : Axis} (h : x ≠ ax) : (s.followHold ax).axis x = s.axis x := by
  unfold State.followHold; dsimp only; split
  · rfl
  · split
    · rw [enter_axis_ne _ _ h]; simp
    · rw [enter_axis_ne _ _ h]; simp
    · simp

theorem rests_followHold (s : State) (ax : Axis) : Rests s (s.followHold ax) where
  firm := fun _ => (trails_followHold s ax).firm
  still := fun x _ r => by
    by_cases e : x = ax
    · subst e
      rw [followHold_axis_self, if_neg (fun h : _ ∧ _ => by rw [h.1] at r; exact absurd r (by decide)),
        if_neg (fun h : _ ∧ _ => by rw [h.1] at r; exact absurd r (by decide)), ite_self]
    · exact followHold_axis_ne s e
  rest := fun x r => by
    by_cases e : x = ax
    · subst e
      rw [followHold_axis_self]
      split_ifs
      · exact ⟨_, _, r, rfl⟩
      · exact ⟨_, _, rfl, rfl⟩
      · exact ⟨_, _, rfl, rfl⟩
      · exact ⟨_, _, r, rfl⟩
    · exact ⟨_, _, r, followHold_axis_ne s e⟩
  held := fun x firm st => by
    by_cases e : x = ax
    · subst e
      simp [followHold_axis_self, holdOn_of_firm firm, st]
    · exact followHold_axis_ne s e

theorem rests_syncContent (s : State) : Rests s s.syncContent := (trails_syncContent s).rests_of_motion (syncContent_motion s)

theorem rests_setRaised (s : State) (l : List Alarm) : Rests s (s.setSafety { s.safety with raised := l }) :=
  (trails_setRaised s l).rests_of_motion rfl

theorem rests_settle (n : Nat) (s : State) : Rests s (s.settle n) := by
  induction n generalizing s with
  | zero => exact (trails_seal s).rests_of_motion rfl
  | succ n ih =>
    unfold State.settle; dsimp only; split
    · exact (rests_syncContent s).trans ((rests_setRaised _ _).trans ((rests_takeReport _ _).trans (ih _)))
    · split
      · exact (rests_syncContent s).trans ((rests_followHold _ .A).trans ((rests_followHold _ .B).trans (ih _)))
      · exact rests_syncContent s

theorem rests_settled (s : State) : Rests s s.settled := rests_settle _ s

theorem rests_setWithin (s : State) (b : Bool) : Rests s (s.setWithin b) := .of_axis (fun _ => id) fun _ _ => rfl

theorem rests_finish (s : State) : Rests s s.finish :=
  (rests_setWithin s false).trans ((rests_settled _).trans ((trails_publish _).rests_of_motion (publish_motion _)))

/-! ## Reports -/

/-- The reports that wait, with those of the send queue and of the Ramp Pool that may yet join them. -/
def State.weight (s : State) : Nat :=
  s.safety.raised.length + bit (!s.safety.raised.contains .sendDrop) + bit (!s.safety.raised.contains .rampShort)

/-- Of the Safety Unit only the list of reports changes, and only SEND_DROP and RAMP_SHORT may join it. -/
structure Prompts (s t : State) : Prop where
  safety : t.safety = { s.safety with raised := t.safety.raised }
  keeps : ∀ a ∈ s.safety.raised, a ∈ t.safety.raised
  only : ∀ a ∈ t.safety.raised, a ∈ s.safety.raised ∨ a = .sendDrop ∨ a = .rampShort
  weight : t.weight ≤ s.weight

theorem Prompts.of_safety {s t : State} (h : t.safety = s.safety) : Prompts s t where
  safety := by rw [h]
  keeps := by rw [h]; exact fun _ => id
  only := by rw [h]; exact fun _ => .inl
  weight := by rw [State.weight, h]; exact Nat.le_refl _

theorem Prompts.refl (s : State) : Prompts s s := .of_safety rfl

theorem Prompts.trans {s t u : State} (h : Prompts s t) (k : Prompts t u) : Prompts s u where
  safety := by rw [k.safety, h.safety]
  keeps := fun a ha => k.keeps a (h.keeps a ha)
  only := fun a ha => (k.only a ha).elim (h.only a) .inr
  weight := k.weight.trans h.weight

theorem Prompts.axisSafety {s t : State} (h : Prompts s t) (ax : Axis) : t.axisSafety ax = s.axisSafety ax := by
  cases ax <;> simp only [State.axisSafety] <;> rw [h.safety]

theorem Prompts.alarmSet {s t : State} (h : Prompts s t) (a : Alarm) : t.alarmSet a = s.alarmSet a := by
  rw [State.alarmSet, h.safety]; rfl

theorem raise_raised (s : State) (a : Alarm) :
    (s.raise a).safety.raised = if s.safety.raised.contains a then s.safety.raised else s.safety.raised ++ [a] := by
  unfold State.raise; split <;> rfl

theorem mem_raise (s : State) (a : Alarm) : a ∈ (s.raise a).safety.raised := by
  rw [raise_raised]; split
  · next h => simpa using h
  · simp

theorem raise_keeps (s : State) (a : Alarm) {b : Alarm} (h : b ∈ s.safety.raised) : b ∈ (s.raise a).safety.raised := by
  rw [raise_raised]; split
  · exact h
  · exact List.mem_append_left _ h

theorem prompts_raise (s : State) {a : Alarm} (own : a = .sendDrop ∨ a = .rampShort) : Prompts s (s.raise a) where
  safety := raise_safety s a
  keeps := fun _ => raise_keeps s a
  only := fun b hb => by
    rw [raise_raised] at hb
    split at hb
    · exact .inl hb
    · rcases List.mem_append.1 hb with hb | hb
      · exact .inl hb
      · exact .inr ((List.mem_singleton.1 hb) ▸ own)
  weight := by
    rw [State.weight, State.weight, raise_raised]
    split
    · exact Nat.le_refl _
    · next h =>
      rcases own with rfl | rfl
      · simp_all [bit]
      · simp_all [bit]; omega

theorem weight_raise (s : State) (a : Alarm) : (s.raise a).weight ≤ s.weight + 1 := by
  have grows (b : Alarm) : bit (!(s.safety.raised ++ [a]).contains b) ≤ bit (!s.safety.raised.contains b) := by
    by_cases h : s.safety.raised.contains b = true
    · simp_all [bit]
    · simp only [bit]; split <;> simp_all
  rw [State.weight, State.weight, raise_raised]
  split
  · omega
  · have := grows .sendDrop; have := grows .rampShort
    simp only [List.length_append, List.length_singleton]; omega

theorem prompts_offer (s : State) (f : SendFrame) : Prompts s (s.offer f) := by
  unfold State.offer; split
  · dsimp only; split
    · refine .trans (.of_safety ?_) (prompts_raise _ (.inl rfl)); rfl
    · exact .of_safety rfl
  · exact .refl s

theorem prompts_announceRequest (s : State) : Prompts s s.announceRequest := by
  unfold State.announceRequest; split
  · dsimp only; split
    · refine .trans (.of_safety ?_) (prompts_offer _ _); rfl
    · split <;> exact .of_safety rfl
  · exact .refl s

theorem prompts_announceRequests (n : Nat) (s : State) : Prompts s (State.announceRequests n s) := by
  induction n generalizing s with
  | zero => exact .refl s
  | succ n ih => exact (prompts_announceRequest s).trans (ih _)

theorem prompts_syncContent (s : State) : Prompts s s.syncContent := by
  unfold State.syncContent; split
  · exact .refl s
  · refine .trans (.of_safety ?_) (prompts_announceRequests _ _); rfl

theorem prompts_enter (s : State) (ax : Axis) (st : AxisState) : Prompts s (s.enter ax st) := by
  unfold State.enter; dsimp only; split
  · exact .refl s
  · refine .trans (.of_safety ?_) (prompts_syncContent _)
    split
    · exact State.setAxis_safety _ _ _
    · exact State.setAxis_safety _ _ _

theorem cut_safety (s : State) (ax : Axis) : (s.cut ax).safety = s.safety := by simp [State.cut]

theorem prompts_rest (s : State) (ax : Axis) : Prompts s (s.rest ax) :=
  (Prompts.of_safety (cut_safety s ax)).trans (prompts_enter _ _ _)

theorem prompts_restFor (s : State) (ax : Axis) (reason : StopReason) : Prompts s (s.restFor ax reason) :=
  (Prompts.of_safety (State.setAxis_safety _ _ _)).trans (prompts_rest _ _)

theorem giveMotor_safety (s : State) (ax : Axis) (n a b : Nat) (k : Fin 16) : (s.giveMotor ax n a b k).safety = s.safety := by
  simp [State.giveMotor, State.giveSlot]

theorem prompts_askMotor (s : State) (ax : Axis) (n a b : Nat) : Prompts s (s.askMotor ax n a b) := by
  unfold State.askMotor; split
  · exact .of_safety (giveMotor_safety _ _ _ _ _ _)
  · split
    · refine .trans (.of_safety ?_) (prompts_raise _ (.inr rfl))
      rw [giveMotor_safety, completeLight_safety]
    · exact .refl s

theorem prompts_enterStopping (s : State) (ax : Axis) (reason : StopReason) : Prompts s (s.enterStopping ax reason) := by
  have h : Prompts s (s.toStopping ax reason) :=
    (Prompts.of_safety (by simp)).trans (prompts_enter _ _ _)
  rw [enterStopping_eq]; dsimp only; split
  · exact h.trans ((Prompts.of_safety (State.setAxis_safety _ _ _)).trans (prompts_rest _ _))
  · exact h.trans (prompts_askMotor _ _ _ _ _)

theorem prompts_stopMoving (s : State) (reason : StopReason) (ax : Axis) : Prompts s (s.stopMoving reason ax) := by
  unfold State.stopMoving; split
  · exact prompts_enterStopping s ax reason
  · exact .refl s

theorem prompts_lineStopAxis (s : State) (action : AxisAction) (ax : Axis) : Prompts s (s.lineStopAxis action ax) := by
  unfold State.lineStopAxis; split
  · split
    · exact prompts_enterStopping s ax _
    · exact prompts_restFor s ax _
  · split
    · exact prompts_enterStopping s ax _
    · exact prompts_restFor s ax _
  · exact prompts_restFor s ax _
  all_goals exact .refl s

theorem prompts_lineStop (s : State) : Prompts s s.lineStop :=
  (prompts_lineStopAxis s _ .A).trans (prompts_lineStopAxis _ _ .B)

theorem prompts_newlySet (s : State) (a : Alarm) (ax : Axis) : Prompts s (s.newlySet a ax) := by
  unfold State.newlySet; split
  · exact prompts_stopMoving s _ ax
  · exact .refl s

theorem followHold_axisSafety_ne (s : State) {ax x : Axis} (h : x ≠ ax) : (s.followHold ax).axisSafety x = s.axisSafety x := by
  have write := State.setAxisSafety_axisSafety_ne s { s.axisSafety ax with held := s.holdOn ax } h
  unfold State.followHold; dsimp only; split
  · rfl
  · split
    · rw [(prompts_enter _ _ _).axisSafety]; exact write
    · rw [(prompts_enter _ _ _).axisSafety]; exact write
    · exact write

/-- The state with a clear alarm set, before its notice is offered (R174, R175). -/
def State.withAlarm (s : State) (a : Alarm) : State :=
  s.setSafety { s.safety with alarms := s.safety.alarms ||| a.mask, count := s.safety.count + 1 }

theorem prompts_setAlarm (s : State) (a : Alarm) : Prompts (s.withAlarm a) (s.setAlarm a) := by
  unfold State.setAlarm; dsimp only; split
  · exact prompts_offer _ _
  · exact .refl _

theorem takeReport_of_taken {s : State} {a : Alarm} (h : s.station = .loading ∨ s.alarmSet a = true) :
    s.takeReport a = s := by simp [State.takeReport, h]

theorem takeReport_of_new {s : State} {a : Alarm} (station : s.station ≠ .loading) (clear : s.alarmSet a = false) :
    s.takeReport a = ((s.setAlarm a).newlySet a .A).newlySet a .B := by simp [State.takeReport, station, clear]

theorem prompts_takeReport {s : State} {a : Alarm} (station : s.station ≠ .loading) (clear : s.alarmSet a = false) :
    Prompts (s.withAlarm a) (s.takeReport a) := by
  rw [takeReport_of_new station clear]
  exact (prompts_setAlarm s a).trans ((prompts_newlySet _ a .A).trans (prompts_newlySet _ a .B))

theorem takeReport_axisSafety (s : State) (a : Alarm) (ax : Axis) : (s.takeReport a).axisSafety ax = s.axisSafety ax := by
  by_cases taken : s.station = .loading ∨ s.alarmSet a = true
  · rw [takeReport_of_taken taken]
  · simp only [not_or, Bool.not_eq_true] at taken
    rw [(prompts_takeReport taken.1 taken.2).axisSafety]; cases ax <;> rfl

/-! ## Every report is taken -/

theorem alarm_code_inj {a b : Alarm} (h : a.code = b.code) : a = b := by
  have all : ∀ x ∈ Alarm.all, ∀ y ∈ Alarm.all, x.code = y.code → x = y := by decide
  exact all a (mem_all a) b (mem_all b) h

theorem alarm_code_lt (a : Alarm) : a.code < 23 := by
  have all : ∀ x ∈ Alarm.all, x.code < 23 := by decide
  exact all a (mem_all a)

theorem within_mask (a b : Alarm) : b.within a.mask = decide (b = a) := by
  have low := alarm_code_lt b
  rw [Alarm.within, Alarm.mask, BitVec.getLsbD_shiftLeft, Bool.eq_iff_iff]
  simp only [BitVec.getLsbD_one, Bool.and_eq_true, decide_eq_true_eq, Bool.not_eq_true', decide_eq_false_iff_not]
  constructor
  · intro ⟨⟨_, le⟩, _, eq⟩
    exact alarm_code_inj (by omega)
  · rintro rfl; omega

theorem within_or (a : Alarm) (x y : BitVec 23) : a.within (x ||| y) = (a.within x || a.within y) := by
  simp [Alarm.within]

theorem withAlarm_alarmSet (s : State) (a b : Alarm) : (s.withAlarm a).alarmSet b = (s.alarmSet b || decide (b = a)) := by
  rw [← within_mask]; exact within_or b _ _

/-- How many alarms are clear. -/
def State.clearAlarmCount (s : State) : Nat := (Alarm.all.filter fun a => !s.alarmSet a).length

theorem clearAlarmCount_le (s : State) : s.clearAlarmCount ≤ 23 := List.length_filter_le _ _

theorem Prompts.clearAlarmCount {s t : State} (h : Prompts s t) : t.clearAlarmCount = s.clearAlarmCount := by
  simp [State.clearAlarmCount, h.alarmSet]

theorem clearAlarmCount_withAlarm {s : State} {a : Alarm} (clear : s.alarmSet a = false) :
    (s.withAlarm a).clearAlarmCount < s.clearAlarmCount := by
  have sub : (Alarm.all.filter fun b => !(s.withAlarm a).alarmSet b) =
      (Alarm.all.filter fun b => !s.alarmSet b).filter fun b => !decide (b = a) := by
    rw [List.filter_filter]
    exact List.filter_congr fun b _ => by rw [withAlarm_alarmSet]; simp [Bool.and_comm]
  rw [State.clearAlarmCount, State.clearAlarmCount, sub]
  exact List.length_filter_lt_length_iff_exists.2 ⟨a, List.mem_filter.2 ⟨mem_all a, by simp [clear]⟩, by simp⟩

/-- A bound on the reports still to be taken: each alarm newly set may bring two more. -/
def State.load (s : State) : Nat := 3 * s.clearAlarmCount + s.safety.raised.length

theorem raised_le_weight (s : State) : s.safety.raised.length ≤ s.weight := by rw [State.weight]; omega

theorem weight_le_raised (s : State) : s.weight ≤ s.safety.raised.length + 2 := by
  have one (b : Bool) : bit b ≤ 1 := by cases b <;> decide
  have := one (!s.safety.raised.contains .sendDrop); have := one (!s.safety.raised.contains .rampShort)
  rw [State.weight]; omega

theorem load_syncContent_le (s : State) : s.syncContent.load ≤ 69 + s.weight := by
  have := clearAlarmCount_le s.syncContent
  have := raised_le_weight s.syncContent
  have := (prompts_syncContent s).weight
  rw [State.load]; omega

/-- The content held is the one that stands. -/
def State.synced (s : State) : Prop := s.contentNow = s.peer.content

theorem syncContent_of_synced {s : State} (h : s.synced) : s.syncContent = s := by
  exact if_pos h

theorem contentNow_congr {s t : State} (pins : t.pins = s.pins) (cfg : t.cfg = s.cfg) (keys : t.cmd.keys = s.cmd.keys)
    (sense : ∀ c : Fin 4, (t.sense[c]).flag = (s.sense[c]).flag) (motion : t.motion = s.motion) (lock : t.time.lock = s.time.lock)
    (engine : t.time.engine = s.time.engine) (estop : t.line.estop = s.line.estop) : t.contentNow = s.contentNow := by
  have axes : ∀ ax, t.axis ax = s.axis ax := axis_of_motion motion
  have axesCfg : ∀ ax, t.axisCfg ax = s.axisCfg ax := by intro ax; simp [State.axisCfg, cfg]
  have switches : ∀ ax d, t.switchRead ax d = s.switchRead ax d := by
    intro ax d; cases ax <;> cases d <;> simp [State.switchRead, State.switchPin, axesCfg, pins]
  have flags : t.flagValue = s.flagValue := by
    funext f; cases f <;> simp [State.flagValue, keys, switches, axes, estop]
    exact sense _
  have demand : t.demandNow = s.demandNow := by simp [State.demandNow, State.axisDemand, axes, axesCfg]
  simp [State.contentNow, State.flagsNow, flags, cfg, demand, motion, lock, engine]

theorem Trails.contentNow {s t : State} (h : Trails s t) (motion : t.motion = s.motion) : t.contentNow = s.contentNow := by
  refine contentNow_congr h.pins h.cfg (by rw [h.cmd]) (fun c => ?_) motion (by rw [h.time]) (by rw [h.time]) (by rw [h.line])
  rw [h.sense]

theorem offer_content (s : State) (f : SendFrame) : (s.offer f).peer = s.peer := by
  unfold State.offer; split
  · dsimp only; split
    · rw [raise_peer]; rfl
    · rfl
  · rfl

theorem announceRequest_content (s : State) : s.announceRequest.peer.content = s.peer.content := by
  unfold State.announceRequest; split
  · dsimp only; split
    · rw [offer_content]; rfl
    · split <;> rfl
  · rfl

theorem announceRequests_content (n : Nat) (s : State) : (State.announceRequests n s).peer.content = s.peer.content := by
  induction n generalizing s with
  | zero => rfl
  | succ n ih => exact (ih _).trans (announceRequest_content s)

theorem synced_syncContent (s : State) : s.syncContent.synced := by
  have now := (trails_syncContent s).contentNow (syncContent_motion s)
  rw [State.synced, now, State.syncContent]
  split
  · next h => exact h
  · rw [announceRequests_content]; rfl

/-- One report is taken: what remains is less. -/
theorem load_takeReport {s : State} {a : Alarm} {rest : List Alarm} (synced : s.synced) (raised : s.safety.raised = a :: rest) :
    ((s.setSafety { s.safety with raised := rest }).takeReport a).syncContent.load < s.load := by
  generalize e : s.setSafety { s.safety with raised := rest } = u
  have raisedU : u.safety.raised = rest := by rw [← e]; rfl
  have clearU : u.clearAlarmCount = s.clearAlarmCount := by rw [← e]; rfl
  have loadS : s.load = 3 * s.clearAlarmCount + (rest.length + 1) := by rw [State.load, raised]; rfl
  by_cases taken : u.station = .loading ∨ u.alarmSet a = true
  · have syncedU : u.synced := by rw [← e]; exact synced
    rw [takeReport_of_taken taken, syncContent_of_synced syncedU, loadS, State.load, raisedU, clearU]; omega
  · simp only [not_or, Bool.not_eq_true] at taken
    have h := (prompts_takeReport taken.1 taken.2).trans (prompts_syncContent _)
    have fewer := clearAlarmCount_withAlarm taken.2
    have weights : (u.withAlarm a).weight ≤ rest.length + 2 := by rw [← raisedU]; exact weight_le_raised _
    have := h.weight; have := raised_le_weight (u.takeReport a).syncContent
    rw [loadS, State.load, h.clearAlarmCount]; omega

theorem takeReport_mem {s : State} {a b : Alarm} (h : b ∈ s.safety.raised) : b ∈ (s.takeReport a).safety.raised := by
  by_cases taken : s.station = .loading ∨ s.alarmSet a = true
  · rw [takeReport_of_taken taken]; exact h
  · simp only [not_or, Bool.not_eq_true] at taken
    exact (prompts_takeReport taken.1 taken.2).keeps b h

theorem takeReport_alarmSet {s : State} (a : Alarm) (station : s.station ≠ .loading) : (s.takeReport a).alarmSet a = true := by
  by_cases set : s.alarmSet a = true
  · rw [takeReport_of_taken (.inr set)]; exact set
  · rw [(prompts_takeReport station (by simpa using set)).alarmSet, withAlarm_alarmSet]; simp

theorem Trails.station {s t : State} (h : Trails s t) : t.station = s.station := by rw [State.station, h.loader]; rfl

/-- Every alarm reported comes to stand set (R174). -/
theorem alarmSet_settle {n : Nat} {s : State} {a : Alarm} (station : s.station ≠ .loading) (reported : a ∈ s.safety.raised)
    (enough : s.syncContent.load ≤ n) : (s.settle n).alarmSet a = true := by
  induction n generalizing s with
  | zero =>
    have some : 0 < s.syncContent.safety.raised.length := List.length_pos_of_mem ((prompts_syncContent s).keeps a reported)
    rw [State.load] at enough; omega
  | succ n ih =>
    have mem : a ∈ s.syncContent.safety.raised := (prompts_syncContent s).keeps a reported
    have stationS : s.syncContent.station ≠ .loading := by rw [(trails_syncContent s).station]; exact station
    unfold State.settle; dsimp only; split
    · next b rest raised =>
      have less := load_takeReport (synced_syncContent s) raised
      rcases List.mem_cons.1 (raised ▸ mem) with rfl | inRest
      · exact (trails_settle n _).alarms _ (takeReport_alarmSet a (by exact stationS))
      · refine ih ?_ (takeReport_mem inRest) (Nat.le_of_lt_succ (less.trans_le enough))
        rw [(trails_takeReport _ b).station]; exact stationS
    · next none => rw [none] at mem; simp at mem

/-- An axis in STOPPED whose hold is not yet reported enters HELD under a cause that lasts (R141). -/
theorem settle_axis_of_newly_held {n : Nat} {s : State} {ax : Axis} (stopped : (s.axis ax).state = .stopped)
    (unreported : (s.axisSafety ax).held = false) (firm : s.firmlyHeld ax) (enough : s.syncContent.load < n) :
    (s.settle n).axis ax = { s.axis ax with state := .held, token := (s.axis ax).token + 1 } := by
  induction n generalizing s with
  | zero => omega
  | succ n ih =>
    have axisS : s.syncContent.axis ax = s.axis ax := syncContent_axis s ax
    have safetyS : (s.syncContent.axisSafety ax).held = false := by rw [(prompts_syncContent s).axisSafety]; exact unreported
    have firmS := (trails_syncContent s).firm firm
    unfold State.settle; dsimp only; split
    · next b rest raised =>
      have less := load_takeReport (synced_syncContent s) raised
      have kept : ((s.syncContent.setSafety { s.syncContent.safety with raised := rest }).takeReport b).axis ax = s.axis ax := by
        rw [takeReport_axis_of_not_moves _ b (by simp [stopped, AxisState.moves])]; simp
      rw [ih (by rw [kept]; exact stopped) ?_ ?_ (less.trans_le (Nat.le_of_lt_succ enough)), kept]
      · rw [takeReport_axisSafety]; cases ax <;> exact safetyS
      · exact (trails_takeReport _ b).firm firmS
    · have on : s.syncContent.holdOn ax = true := holdOn_of_firm firmS
      have stale : (s.syncContent.holdStale .A || s.syncContent.holdStale .B) = true := by
        have here : s.syncContent.holdStale ax = true := by simp [State.holdStale, safetyS, on]
        cases ax <;> simp [here]
      rw [if_pos stale]
      have turned {x : State} (axisX : x.axis ax = s.axis ax) (heldX : (x.axisSafety ax).held = false) (firmX : x.firmlyHeld ax) :
          (x.followHold ax).axis ax = { s.axis ax with state := .held, token := (s.axis ax).token + 1 } := by
        rw [followHold_axis_self, heldX, holdOn_of_firm firmX, if_neg (by simp), if_pos ⟨by rw [axisX]; exact stopped, rfl⟩, axisX]
      have followed : ((s.syncContent.followHold .A).followHold .B).axis ax =
          { s.axis ax with state := .held, token := (s.axis ax).token + 1 } := by
        cases ax with
        | A => rw [followHold_axis_ne _ (by decide)]; exact turned axisS safetyS firmS
        | B =>
          refine turned ?_ ?_ ((trails_followHold _ .A).firm firmS)
          · rw [followHold_axis_ne _ (by decide)]; exact axisS
          · rw [followHold_axisSafety_ne _ (by decide)]; exact safetyS
      rw [(rests_settle n _).held ax ((trails_followHold _ .B).firm ((trails_followHold _ .A).firm firmS)) (by rw [followed]), followed]

end Sys2Proof.Machine
end

section
/-! PROOFS. What the orders of the line conditions leave: a line stop order, a row of the trigger table and the alert scene, each
seen after the end of its command. -/

namespace Sys2Proof.Machine

/-! ## Levels given at once -/

/-- Of the station only the light channels and the Ramp Pool may differ. -/
def Relit (s t : State) : Prop :=
  ∃ channels pool, t = { s with light := { s.light with channels := channels }, pool := pool }

theorem Relit.refl (s : State) : Relit s s := ⟨_, _, rfl⟩

theorem Relit.trans {s t u : State} (h : Relit s t) (k : Relit t u) : Relit s u := by
  obtain ⟨_, _, rfl⟩ := h
  obtain ⟨c, p, rfl⟩ := k
  exact ⟨c, p, rfl⟩

theorem Relit.line {s t : State} (h : Relit s t) : t.line = s.line := by obtain ⟨_, _, rfl⟩ := h; rfl
theorem Relit.cfg {s t : State} (h : Relit s t) : t.cfg = s.cfg := by obtain ⟨_, _, rfl⟩ := h; rfl
theorem Relit.motion {s t : State} (h : Relit s t) : t.motion = s.motion := by obtain ⟨_, _, rfl⟩ := h; rfl
theorem Relit.safety {s t : State} (h : Relit s t) : t.safety = s.safety := by obtain ⟨_, _, rfl⟩ := h; rfl
theorem Relit.loader {s t : State} (h : Relit s t) : t.loader = s.loader := by obtain ⟨_, _, rfl⟩ := h; rfl
theorem Relit.keeps {s t : State} (h : Relit s t) : Keeps s t := by
  obtain ⟨_, _, rfl⟩ := h; exact ⟨rfl, rfl, rfl, rfl, rfl, rfl, rfl⟩
theorem Relit.light {s t : State} (h : Relit s t) : t.light = { s.light with channels := t.light.channels } := by
  obtain ⟨_, _, rfl⟩ := h; rfl
theorem Relit.firm {s t : State} (h : Relit s t) {ax : Axis} (k : s.firmlyHeld ax) : t.firmlyHeld ax := by
  obtain ⟨_, _, rfl⟩ := h; exact k

theorem relit_leaveFades (s : State) (sel : Fin 24 → Bool) : Relit s (s.leaveFades sel) := ⟨_, _, rfl⟩
theorem relit_takeLevels (s : State) (aims : Fin 24 → Option Nat) : Relit s (s.takeLevels aims) := ⟨_, _, rfl⟩
theorem relit_markScene (s : State) (aims : Fin 24 → Option Nat) (scene : Option (Fin 8)) : Relit s (s.markScene aims scene) :=
  ⟨_, _, rfl⟩

theorem changeLevels_now (s : State) (aims : Fin 24 → Option Nat) : s.changeLevels aims 0 =
    if goalCount aims = 0 then s else (s.leaveFades fun i => (aims i).isSome).takeLevels aims := by
  simp [State.changeLevels]

theorem relit_changeLevels_now (s : State) (aims : Fin 24 → Option Nat) : Relit s (s.changeLevels aims 0) := by
  rw [changeLevels_now]; split
  · exact .refl s
  · exact (relit_leaveFades s _).trans (relit_takeLevels _ aims)

theorem aims_of_no_goal {aims : Fin 24 → Option Nat} (h : goalCount aims = 0) (i : Fin 24) : aims i = none := by
  simp only [goalCount, List.length_eq_zero_iff, List.filter_eq_nil_iff] at h
  simpa using h i (List.mem_finRange i)

/-- A channel with a goal has it at once, and no fade (R81, R107). -/
theorem changeLevels_now_channel (s : State) (aims : Fin 24 → Option Nat) (i : Fin 24) :
    (s.changeLevels aims 0).light.channels[i] = match aims i with
      | some g => { s.light.channels[i] with level := g, fade := none }
      | none => s.light.channels[i] := by
  rw [changeLevels_now]; split
  · next h => rw [aims_of_no_goal h i]
  · cases h : aims i <;> simp [State.takeLevels, State.leaveFades, h, Channel.take]

theorem markScene_channel (s : State) (aims : Fin 24 → Option Nat) (scene : Option (Fin 8)) (i : Fin 24) :
    (s.markScene aims scene).light.channels[i] =
      if (aims i).isSome then { s.light.channels[i] with lastScene := scene } else s.light.channels[i] := by
  simp [State.markScene]

theorem relit_recallAlert (s : State) : Relit s s.recallAlert := by
  unfold State.recallAlert; split
  · exact (relit_changeLevels_now s _).trans (relit_markScene _ _ _)
  · exact .refl s

/-- The alert scene gives each channel with a level in it that level (R97). -/
theorem recallAlert_channel {s : State} {x : Fin 8} {i : Fin 24} {level : Nat} (scene : s.cfg.alertScene = some x)
    (goal : s.light.scenes[x].levels[i] = some level) : s.recallAlert.light.channels[i] =
      { s.light.channels[i] with level := level, fade := none, lastScene := some x } := by
  have aim : s.sceneGoals x (fun _ => true) i = some level := by simpa [State.sceneGoals] using goal
  simp only [State.recallAlert, scene, State.recallScene, Option.getD_some]
  rw [markScene_channel, changeLevels_now_channel, aim]
  rfl

theorem settledTo_of_no_fade {c d : Channel} (h : c.settledTo d) (fadeless : c.fade = none) : d = c := by
  rcases h with h | ⟨f, hf, -⟩
  · exact h
  · rw [fadeless] at hf; exact absurd hf (by simp)

theorem settledTo_given {c d : Channel} (h : c.settledTo d) (level : Nat) (scene : Option (Fin 8)) :
    { d with level := level, fade := none, lastScene := scene } = { c with level := level, fade := none, lastScene := scene } := by
  rcases h with rfl | ⟨f, -, rfl⟩ <;> rfl

theorem settledTo_lastScene {c d : Channel} (h : c.settledTo d) : d.lastScene = c.lastScene := by
  rcases h with rfl | ⟨f, -, rfl⟩ <;> rfl

/-- The alert scene stands on the channels, whatever the axes ask of the Ramp Pool before and after (R97, R99, R113). -/
theorem alertGiven_of {s w t : State} (cfg : w.cfg.alertScene = s.cfg.alertScene) (scenes : w.light.scenes = s.light.scenes)
    (before : ∀ i : Fin 24, s.light.channels[i].settledTo w.light.channels[i])
    (after : ∀ i : Fin 24, w.recallAlert.light.channels[i].settledTo t.light.channels[i]) : s.alertGiven t := by
  intro x i level scene goal
  have given := recallAlert_channel (s := w) (cfg.trans scene) (i := i) (level := level) (by rw [scenes]; exact goal)
  rw [settledTo_of_no_fade (after i) (by rw [given]), given]
  exact settledTo_given (before i) level (some x)

/-! ## The records that stops leave -/

/-- The record of an axis that has come to rest (R140). -/
theorem rest_axis_self (s : State) (ax : Axis) (moved : (s.axis ax).state.rests = false) : (s.rest ax).axis ax =
    { s.axis ax with
      state := if (s.cut ax).heldNow ax then .held else .stopped, token := (s.axis ax).token + 1,
      slot := none, duty := 0, lease := none, stallCount := 0, blanking := 0, backOff := 0 } := by
  have new (st : AxisState) (r : st.rests = true) : (s.axis ax).state ≠ st := fun e => by rw [e, r] at moved; simp at moved
  rw [State.rest, enter_axis_self, cut_axis_self]
  cases (s.cut ax).heldNow ax
  · exact if_neg (new .stopped rfl)
  · exact if_neg (new .held rfl)

theorem restFor_axis_self (s : State) (ax : Axis) (reason : StopReason) (moved : (s.axis ax).state.rests = false) :
    (s.restFor ax reason).axis ax = { s.axis ax with
      state := if ((s.setReason ax reason).cut ax).heldNow ax then .held else .stopped, token := (s.axis ax).token + 1,
      slot := none, duty := 0, lease := none, stallCount := 0, blanking := 0, backOff := 0, reason := reason } := by
  rw [State.restFor, rest_axis_self _ ax (by simpa using moved)]; simp [State.setReason]

theorem restFor_held {s : State} {ax : Axis} (reason : StopReason) (moved : (s.axis ax).state.rests = false)
    (firm : s.firmlyHeld ax) : (s.restFor ax reason).axis ax = { s.axis ax with
      state := .held, token := (s.axis ax).token + 1, slot := none, duty := 0, lease := none, stallCount := 0, blanking := 0,
      backOff := 0, reason := reason } := by
  have on : ((s.setReason ax reason).cut ax).heldNow ax = true :=
    heldNow_of_firm ((trails_cut _ ax).firm ((trails_setReason s ax reason).firm firm))
  rw [restFor_axis_self s ax reason moved, on]; rfl

theorem toStopping_axisCfg (s : State) (ax : Axis) (reason : StopReason) (formed : (s.axis ax).state ≠ .disabled) :
    (s.toStopping ax reason).axisCfg ax = s.axisCfg ax := by
  rw [State.axisCfg, (trails_toStopping s ax reason formed).cfg]; rfl

/-- An axis that stops by its ramp is in STOPPING (R145). -/
theorem enterStopping_ramp {s : State} {ax : Axis} (reason : StopReason) (moving : (s.axis ax).state.moves = true)
    (ramp : (s.axisCfg ax).rampDown ≠ 0) : ∃ slot duty, (s.enterStopping ax reason).axis ax = { s.axis ax with
      state := .stopping, token := (s.axis ax).token + 1, slot := slot, reason := reason, lease := none, stallCount := 0,
      duty := duty } := by
  have fresh : (s.axis ax).state ≠ .stopping := fun e => by rw [e] at moving; exact absurd moving (by decide)
  have record := toStopping_axis_self s ax reason fresh
  have sameCfg := toStopping_axisCfg s ax reason (not_disabled_of_moves moving)
  rw [enterStopping_eq]; dsimp only; rw [sameCfg, if_neg ramp]
  rcases askMotor_axis_self (s.toStopping ax reason) ax (s.axisCfg ax).rampDown ((s.toStopping ax reason).axis ax).duty 0
    with h | ⟨k, h⟩
  · exact ⟨_, _, by rw [h, record]⟩
  · exact ⟨some k, _, by rw [h, record]⟩

/-- Without a ramp-down it is at rest at once (R145). -/
theorem enterStopping_at_once {s : State} {ax : Axis} (reason : StopReason) (moving : (s.axis ax).state.moves = true)
    (ramp : (s.axisCfg ax).rampDown = 0) : ∃ st token, AxisState.rests st = true ∧ (s.firmlyHeld ax → st = .held) ∧
      (s.enterStopping ax reason).axis ax = { s.axis ax with
        state := st, token := token, slot := none, reason := reason, lease := none, stallCount := 0, duty := 0,
        blanking := 0, backOff := 0 } := by
  have fresh : (s.axis ax).state ≠ .stopping := fun e => by rw [e] at moving; exact absurd moving (by decide)
  have formed := not_disabled_of_moves moving
  have record := toStopping_axis_self s ax reason fresh
  have sameCfg := toStopping_axisCfg s ax reason formed
  rw [enterStopping_eq]; dsimp only; rw [sameCfg, if_pos ramp, rest_axis_self _ ax (by simp [record, AxisState.rests])]
  generalize e : (s.toStopping ax reason).setAxis ax { (s.toStopping ax reason).axis ax with duty := 0 } = u
  have axisU : u.axis ax = { s.axis ax with
      state := .stopping, token := (s.axis ax).token + 1, slot := none, reason := reason, lease := none, stallCount := 0,
      duty := 0 } := by rw [← e]; simp [record]
  have firmU (k : s.firmlyHeld ax) : (u.cut ax).heldNow ax = true := by
    refine heldNow_of_firm ((trails_cut u ax).firm ?_)
    rw [← e]
    have zeroed := trails_setAxis_same (s.toStopping ax reason) ax
      (r := { (s.toStopping ax reason).axis ax with duty := 0 }) rfl rfl rfl
    exact zeroed.firm ((trails_toStopping s ax reason formed).firm k)
  refine ⟨if (u.cut ax).heldNow ax then .held else .stopped, _, ?_, fun k => by rw [firmU k]; rfl, by rw [axisU]⟩
  split <;> rfl

theorem rests_of_moves {st : AxisState} (h : st.moves = true) : st.rests = false := by
  cases st <;> simp_all [AxisState.rests, AxisState.moves]

/-! ## A line stop order -/

/-- What a line stop order does to an axis that a line condition holds (R157). -/
theorem lineStopAxis_axis_self {s : State} {action : AxisAction} {ax : Axis} (firm : s.firmlyHeld ax) :
    let r := (s.lineStopAxis action ax).axis ax
    ((s.axis ax).state.moves = true → action = .stopRamp → (s.axisCfg ax).rampDown ≠ 0 →
      r.state = .stopping ∧ r.reason = .allstop ∧ r.lease = none ∧ r.token = (s.axis ax).token + 1) ∧
    ((s.axis ax).state.moves = true → action ≠ .stopRamp ∨ (s.axisCfg ax).rampDown = 0 →
      r.state = .held ∧ r.reason = .allstop ∧ r.lease = none ∧ r.duty = 0) ∧
    ((s.axis ax).state = .reversing →
      r.state = .held ∧ r.reason = .allstop ∧ r.duty = 0 ∧ r.token = (s.axis ax).token + 1) ∧
    ((s.axis ax).state.drives = false → r = s.axis ax) := by
  have moving (m : (s.axis ax).state.moves = true) :
      s.lineStopAxis action ax = if action = .stopRamp then s.enterStopping ax .allstop else s.restFor ax .allstop := by
    unfold State.lineStopAxis
    cases st : (s.axis ax).state
    case starting | running => rfl
    all_goals rw [st] at m; exact absurd m (by decide)
  dsimp only
  refine ⟨fun m stop ramp => ?_, fun m cut => ?_, fun rev => ?_, fun still => ?_⟩
  · obtain ⟨slot, duty, record⟩ := enterStopping_ramp .allstop m ramp
    rw [moving m, if_pos stop, record]; exact ⟨rfl, rfl, rfl, rfl⟩
  · rw [moving m]
    split
    · next stop =>
      obtain ⟨st, token, -, held, record⟩ := enterStopping_at_once .allstop m (cut.resolve_left (not_not_intro stop))
      rw [record, held firm]; exact ⟨rfl, rfl, rfl, rfl⟩
    · rw [restFor_held .allstop (rests_of_moves m) firm]; exact ⟨rfl, rfl, rfl, rfl⟩
  · have order : s.lineStopAxis action ax = s.restFor ax .allstop := by simp [State.lineStopAxis, rev]
    rw [order, restFor_held .allstop (by rw [rev]; rfl) firm]; exact ⟨rfl, rfl, rfl, rfl⟩
  · cases st : (s.axis ax).state
    case starting | running | reversing => rw [st] at still; exact absurd still (by decide)
    all_goals simp [State.lineStopAxis, st]

/-- Each axis takes the order from a state in which its record is the one before the order. -/
theorem lineStop_axis (s : State) (ax : Axis) : ∃ x, Trails s x ∧ x.axis ax = s.axis ax ∧
    s.lineStop.axis ax = (x.lineStopAxis s.cfg.trigger.allstop.axisAction ax).axis ax := by
  cases ax with
  | A => exact ⟨s, .refl s, rfl, lineStopAxis_axis_ne _ _ (by decide)⟩
  | B => exact ⟨_, trails_lineStopAxis s _ .A, lineStopAxis_axis_ne _ _ (by decide), rfl⟩

theorem lineStop_drives {s : State} {ax : Axis} (firm : s.firmlyHeld ax) : (s.lineStop.axis ax).state.drives = false := by
  obtain ⟨x, trails, same, order⟩ := lineStop_axis s ax
  obtain ⟨ramp, cut, rev, still⟩ := lineStopAxis_axis_self (action := s.cfg.trigger.allstop.axisAction) (trails.firm firm)
  rw [order]
  by_cases drives : (x.axis ax).state.drives = false
  · rw [still drives]; exact drives
  · cases st : (x.axis ax).state
    case reversing => rw [(rev st).1]; rfl
    case starting | running =>
      have m : (x.axis ax).state.moves = true := by rw [st]; rfl
      by_cases stop : s.cfg.trigger.allstop.axisAction = .stopRamp ∧ (x.axisCfg ax).rampDown ≠ 0
      · rw [(ramp m stop.1 stop.2).1]; rfl
      · rw [(cut m (by tauto)).1]; rfl
    all_goals rw [st] at drives; exact absurd rfl drives

theorem held_of_calm {s : State} (calm : s.calm = true) (ax : Axis) : (s.axisSafety ax).held = s.heldNow ax := by
  obtain ⟨-, within, -, a, b⟩ := (calm_iff s).1 calm
  have stale : s.holdStale ax = false := by cases ax <;> assumption
  simpa [State.holdStale, State.holdOn, within] using stale

theorem finish_axis (s : State) (ax : Axis) : s.finish.axis ax = ((s.setWithin false).settle 128).axis ax := publish_axis _ ax

theorem setWithin_syncContent_load (s : State) (b : Bool) : (s.setWithin b).syncContent.load ≤ 69 + s.weight :=
  load_syncContent_le (s.setWithin b)

/-- A line stop order, and with it the hold that the line condition is, reach every axis of a station that was between two
commands (R157, R141). -/
theorem lineStopped_finish {s u v : State} (calm : s.calm = true) (motion : u.motion = s.motion) (cfg : u.cfg = s.cfg)
    (after : v.motion = u.lineStop.motion) (safety : ∀ ax, v.axisSafety ax = s.axisSafety ax)
    (firmU : ∀ ax, u.firmlyHeld ax) (firmV : ∀ ax, v.firmlyHeld ax) (few : v.weight ≤ 50) (ax : Axis) :
    s.lineStopped v.finish ax := by
  obtain ⟨x, trails, same, order⟩ := lineStop_axis u ax
  have axisX : x.axis ax = s.axis ax := same.trans (axis_of_motion motion ax)
  have axisV : v.axis ax = (x.lineStopAxis s.cfg.trigger.allstop.axisAction ax).axis ax := by
    rw [axis_of_motion after, order, cfg]
  have cfgX : x.axisCfg ax = s.axisCfg ax := by simp [State.axisCfg, trails.cfg, cfg]
  obtain ⟨ramp, cut, rev, still⟩ := lineStopAxis_axis_self (action := s.cfg.trigger.allstop.axisAction) (trails.firm (firmU ax))
  rw [← axisV, axisX, cfgX] at ramp cut
  rw [← axisV, axisX] at rev still
  have settles := rests_finish v
  have stays (st : (v.axis ax).state = .stopping ∨ (v.axis ax).state = .held ∨ (v.axis ax).state = .fault ∨
      (v.axis ax).state = .disabled) : v.finish.axis ax = v.axis ax := by
    rcases st with st | st | st | st
    · exact settles.still ax (by rw [st]; rfl) (by rw [st]; rfl)
    · exact settles.held ax (firmV ax) st
    · exact settles.still ax (by rw [st]; rfl) (by rw [st]; rfl)
    · exact settles.still ax (by rw [st]; rfl) (by rw [st]; rfl)
  refine ⟨fun m stop down => ?_, fun m other => ?_, fun st => ?_, fun st free => ?_, fun st => ?_⟩
  · have r := ramp m stop down
    rw [stays (.inl r.1)]; exact r
  · have r := cut m other
    rw [stays (.inr (.inl r.1))]; exact r
  · have r := rev st
    rw [stays (.inr (.inl r.1))]; exact r
  · have same := still (by rw [st]; rfl)
    have held : (v.axisSafety ax).held = false := by rw [safety, held_of_calm calm, free]
    have load := setWithin_syncContent_load v false
    rw [finish_axis, settle_axis_of_newly_held (s := v.setWithin false) (same ▸ st) (by cases ax <;> exact held) (firmV ax)
      (by omega)]
    exact congrArg (fun r : AxisRecord => { r with state := .held, token := r.token + 1 }) same
  · have same := still (by rcases st with st | st | st | st <;> rw [st] <;> rfl)
    rw [stays (by rw [same]; exact st), same]

/-! ## Reports that hold no axis -/

theorem offer_reports (s : State) (f : SendFrame) {a : Alarm} (h : a ∈ (s.offer f).safety.raised) :
    a ∈ s.safety.raised ∨ a = .sendDrop := by
  unfold State.offer at h; split at h
  · dsimp only at h; split at h
    · rw [raise_raised] at h
      split at h
      · exact .inl h
      · exact (List.mem_append.1 h).imp id List.mem_singleton.1
    · exact .inl h
  · exact .inl h

theorem announceRequest_reports (s : State) {a : Alarm} (h : a ∈ s.announceRequest.safety.raised) :
    a ∈ s.safety.raised ∨ a = .sendDrop := by
  unfold State.announceRequest at h; split at h
  · dsimp only at h; split at h
    · have h := offer_reports _ _ h; exact h
    · split at h <;> exact .inl h
  · exact .inl h

theorem announceRequests_reports (n : Nat) (s : State) {a : Alarm} (h : a ∈ (State.announceRequests n s).safety.raised) :
    a ∈ s.safety.raised ∨ a = .sendDrop := by
  induction n generalizing s with
  | zero => exact .inl h
  | succ n ih => exact (ih _ h).elim (announceRequest_reports s) .inr

theorem syncContent_reports (s : State) {a : Alarm} (h : a ∈ s.syncContent.safety.raised) :
    a ∈ s.safety.raised ∨ a = .sendDrop := by
  unfold State.syncContent at h; split at h
  · exact .inl h
  · have h := announceRequests_reports _ _ h; exact h

theorem setAlarm_reports (s : State) (b : Alarm) {a : Alarm} (h : a ∈ (s.setAlarm b).safety.raised) :
    a ∈ s.safety.raised ∨ a = .sendDrop := by
  unfold State.setAlarm at h; dsimp only at h; split at h
  · exact offer_reports (s.withAlarm b) _ h
  · exact .inl h

/-- No report that waits, and no SEND_DROP, is in a hold mask, and the holds are as they are reported. -/
structure Harmless (s : State) : Prop where
  drop : ∀ ax, Alarm.sendDrop.within (s.axisCfg ax).holdMask = false
  raised : ∀ a ∈ s.safety.raised, ∀ ax, a.within (s.axisCfg ax).holdMask = false
  held : ∀ ax, (s.axisSafety ax).held = s.holdOn ax

/-- A step that keeps the holds' causes, their reports and what waits keeps it harmless. -/
theorem Harmless.step {s t : State} (h : Harmless s) (trails : Trails s t)
    (raised : ∀ a ∈ t.safety.raised, a ∈ s.safety.raised ∨ a = .sendDrop) (same : ∀ ax, t.axisSafety ax = s.axisSafety ax)
    (alarms : ∀ a ax, a.within (s.axisCfg ax).holdMask = true → t.alarmSet a = s.alarmSet a) : Harmless t := by
  have cfg (ax : Axis) : t.axisCfg ax = s.axisCfg ax := by simp [State.axisCfg, trails.cfg]
  have drop : ∀ ax, Alarm.sendDrop.within (t.axisCfg ax).holdMask = false := fun ax => by rw [cfg]; exact h.drop ax
  have waits : ∀ a ∈ t.safety.raised, ∀ ax, a.within (t.axisCfg ax).holdMask = false := fun a ha ax => by
    rw [cfg]
    rcases raised a ha with ha | rfl
    · exact h.raised a ha ax
    · exact h.drop ax
  have now (ax : Axis) : t.heldNow ax = s.heldNow ax := by
    have counts (a : Alarm) (w : a.within (s.axisCfg ax).holdMask = true) : t.alarmCounts a = s.alarmCounts a := by
      have clear {u : State} (none : ∀ a ∈ u.safety.raised, ∀ ax, a.within (s.axisCfg ax).holdMask = false) :
          u.alarmCounts a = u.alarmSet a := by
        have : u.safety.raised.contains a = false := by
          by_contra in_
          have := none a (by simpa using in_) ax
          rw [w] at this; simp at this
        rw [State.alarmCounts, this, Bool.or_false]
      rw [clear (by simpa only [cfg] using waits), clear h.raised, alarms a ax w]
    have line : t.line.allstop = s.line.allstop ∧ t.line.estop = s.line.estop := by rw [trails.line]; exact ⟨rfl, rfl⟩
    rw [Bool.eq_iff_iff, heldNow_iff, heldNow_iff, cfg, line.1, line.2, trails.holdOff]
    refine or_congr Iff.rfl (or_congr Iff.rfl (or_congr Iff.rfl (exists_congr fun a => and_congr_right fun w => ?_)))
    rw [counts a w]
  refine ⟨drop, waits, fun ax => ?_⟩
  rw [same, h.held ax, State.holdOn, State.holdOn, now, same, trails.within]

theorem takeReport_of_harmless {s : State} {a : Alarm} (station : s.station ≠ .loading) (clear : s.alarmSet a = false)
    (inert : ∀ ax, a.within (s.axisCfg ax).holdMask = false) : s.takeReport a = s.setAlarm a := by
  have cfg (ax : Axis) : (s.setAlarm a).axisCfg ax = s.axisCfg ax := by simp [State.axisCfg, (trails_setAlarm s a).cfg]
  have none (ax : Axis) : (s.setAlarm a).newlySet a ax = s.setAlarm a := by simp [State.newlySet, cfg, inert]
  rw [takeReport_of_new station clear, none, none]

theorem Harmless.pop {s : State} (h : Harmless s) {l : List Alarm} (sub : ∀ a ∈ l, a ∈ s.safety.raised) :
    Harmless (s.setSafety { s.safety with raised := l }) :=
  h.step (trails_setRaised s l) (fun a ha => .inl (sub a ha)) (fun ax => by cases ax <;> rfl) (fun _ _ _ => rfl)

theorem Harmless.report {s : State} {a : Alarm} (h : Harmless s) (inert : ∀ ax, a.within (s.axisCfg ax).holdMask = false) :
    Harmless (s.takeReport a) := by
  by_cases taken : s.station = .loading ∨ s.alarmSet a = true
  · rw [takeReport_of_taken taken]; exact h
  · simp only [not_or, Bool.not_eq_true] at taken
    have prompts := prompts_setAlarm s a
    rw [takeReport_of_harmless taken.1 taken.2 inert]
    refine h.step (trails_setAlarm s a) (fun b => setAlarm_reports s a) (fun ax => ?_) (fun b ax w => ?_)
    · rw [prompts.axisSafety]; cases ax <;> rfl
    · rw [prompts.alarmSet, withAlarm_alarmSet]
      have other : b ≠ a := by rintro rfl; rw [inert ax] at w; simp at w
      simp [other]

theorem report_motion {s : State} {a : Alarm} (inert : ∀ ax, a.within (s.axisCfg ax).holdMask = false) :
    (s.takeReport a).motion = s.motion := by
  by_cases taken : s.station = .loading ∨ s.alarmSet a = true
  · rw [takeReport_of_taken taken]
  · simp only [not_or, Bool.not_eq_true] at taken
    rw [takeReport_of_harmless taken.1 taken.2 inert, setAlarm_motion]

/-- Reports that hold no axis leave the axes where they are. -/
theorem settle_motion_of_harmless {n : Nat} {s : State} (h : Harmless s) : (s.settle n).motion = s.motion := by
  induction n generalizing s with
  | zero => rfl
  | succ n ih =>
    have synced : Harmless s.syncContent := h.step (trails_syncContent s) (fun a => syncContent_reports s)
      (prompts_syncContent s).axisSafety (fun a _ _ => (prompts_syncContent s).alarmSet a)
    have motion := syncContent_motion s
    unfold State.settle; dsimp only
    generalize s.syncContent = v at *
    split
    · next b rest raised =>
      have member : b ∈ v.safety.raised := by rw [raised]; exact List.mem_cons_self
      have inert := synced.raised b member
      have popped := synced.pop (l := rest) fun a ha => by rw [raised]; exact List.mem_cons_of_mem b ha
      have moved := report_motion (s := v.setSafety { v.safety with raised := rest }) (a := b) inert
      exact (ih (popped.report inert)).trans (moved.trans motion)
    · have fits (ax : Axis) : v.holdStale ax = false := by simp [State.holdStale, synced.held ax]
      simp only [fits, Bool.or_self, Bool.false_eq_true, if_false, motion]

end Sys2Proof.Machine
end

section
/-! PROOFS. The rows of SILENT and of ERRATIC, and the noise budget. -/

namespace Sys2Proof.Machine

/-! ## What a row is applied to -/

/-- What the orders of a line condition read is the same in both states. -/
structure Alike (s u : State) : Prop where
  motion : u.motion = s.motion
  light : u.light = s.light
  cfg : u.cfg = s.cfg
  loader : u.loader = s.loader
  safety : ∀ ax, u.axisSafety ax = s.axisSafety ax
  holdOff : u.safety.holdOff = s.safety.holdOff
  allstop : u.line.allstop = s.line.allstop
  estop : u.line.estop = s.line.estop

theorem Alike.refl (s : State) : Alike s s := ⟨rfl, rfl, rfl, rfl, fun _ => rfl, rfl, rfl, rfl⟩

theorem Alike.trans {s t u : State} (h : Alike s t) (k : Alike t u) : Alike s u where
  motion := k.motion.trans h.motion
  light := k.light.trans h.light
  cfg := k.cfg.trans h.cfg
  loader := k.loader.trans h.loader
  safety := fun ax => (k.safety ax).trans (h.safety ax)
  holdOff := k.holdOff.trans h.holdOff
  allstop := k.allstop.trans h.allstop
  estop := k.estop.trans h.estop

theorem alike_setLine (s : State) {x : LineUnit} (allstop : x.allstop = s.line.allstop) (estop : x.estop = s.line.estop) :
    Alike s (s.setLine x) := ⟨rfl, rfl, rfl, rfl, fun ax => by cases ax <;> rfl, rfl, allstop, estop⟩

theorem alike_raise (s : State) (a : Alarm) : Alike s (s.raise a) where
  motion := raise_motion s a
  light := raise_light s a
  cfg := raise_cfg s a
  loader := raise_loader s a
  safety := fun ax => by cases ax <;> simp only [State.axisSafety] <;> rw [raise_safety]
  holdOff := by rw [raise_safety]
  allstop := by rw [raise_line]
  estop := by rw [raise_line]

theorem alike_offer (s : State) (f : SendFrame) : Alike s (s.offer f) where
  motion := offer_motion s f
  light := by
    unfold State.offer; split
    · dsimp only; split
      · rw [raise_light]; rfl
      · rfl
    · rfl
  cfg := (keeps_offer s f).cfg
  loader := (keeps_offer s f).loader
  safety := (prompts_offer s f).axisSafety
  holdOff := (trails_offer s f).holdOff
  allstop := by rw [(trails_offer s f).line]
  estop := by rw [(trails_offer s f).line]

theorem alike_endFrame (s : State) (place : LinePlace) : Alike s (s.endFrame place) :=
  ⟨rfl, rfl, rfl, rfl, fun ax => by cases ax <;> rfl, rfl, rfl, rfl⟩

/-- A frame leaves the line without a new ANNOUNCE, or with one where the refresh mark was set (R9, R21). -/
theorem leaveLine_cases (s : State) :
    s.leaveLine = s.setLine { s.line with queue := waiting s.line.queue, own := .none, leaveOnLoss := false } ∨
    s.leaveLine = (s.setLine { s.line with
      queue := waiting s.line.queue, own := .none, leaveOnLoss := false, refresh := false }).offer announceFrame := by
  unfold State.leaveLine; dsimp only; split
  · exact .inr rfl
  · exact .inl rfl

theorem alike_leaveLine (s : State) : Alike s s.leaveLine := by
  rcases leaveLine_cases s with h | h <;> rw [h]
  · exact alike_setLine s rfl rfl
  · refine .trans (alike_setLine s ?_ ?_) (alike_offer _ _) <;> rfl

theorem alike_disown (s : State) (o : Owed) : Alike s (s.disown o) :=
  ⟨rfl, rfl, rfl, rfl, fun ax => by cases ax <;> rfl, rfl, rfl, rfl⟩

theorem prompts_leaveLine (s : State) : Prompts s s.leaveLine := by
  rcases leaveLine_cases s with h | h <;> rw [h]
  · exact .of_safety rfl
  · refine .trans (.of_safety ?_) (prompts_offer _ _); rfl

theorem leaveLine_line (s : State) : s.leaveLine.line = { s.line with
    queue := s.leaveLine.line.queue, own := .none, leaveOnLoss := false, refresh := s.leaveLine.line.refresh } := by
  rcases leaveLine_cases s with h | h <;> rw [h]
  · rfl
  · rw [(trails_offer _ _).line]; rfl

theorem keeps_leaveLine (s : State) : Keeps s s.leaveLine := by
  rcases leaveLine_cases s with h | h <;> rw [h]
  · exact keeps_setLine s _
  · exact (keeps_setLine s _).trans (keeps_offer _ _)

/-- Where its hold mask is empty, an axis is held by the line conditions and the hold-off alone. -/
theorem heldNow_of_no_mask {s u : State} {ax : Axis} (none : (s.axisCfg ax).holdMask = 0) (cfg : u.cfg = s.cfg)
    (allstop : u.line.allstop = s.line.allstop) (estop : u.line.estop = s.line.estop)
    (holdOff : u.safety.holdOff = s.safety.holdOff) : u.heldNow ax = s.heldNow ax := by
  have cfg : u.axisCfg ax = s.axisCfg ax := by simp [State.axisCfg, cfg]
  rw [Bool.eq_iff_iff, heldNow_iff, heldNow_iff, allstop, estop, holdOff, cfg, none]
  simp [Alarm.within]

/-! ## The two parts of a row -/

/-- The axes' part of a row (R158). -/
def State.rowStops (s : State) (row : TriggerRow) (reason : StopReason) : State :=
  if row.axisAction = .stopRamp then (s.stopMoving reason .A).stopMoving reason .B else s

theorem applyRow_eq (s : State) (row : TriggerRow) (reason : StopReason) : s.applyRow row reason =
    if row.lightAction = .recall then (s.rowStops row reason).recallAlert else s.rowStops row reason := rfl

theorem trails_rowStops (s : State) (row : TriggerRow) (reason : StopReason) : Trails s (s.rowStops row reason) := by
  unfold State.rowStops; split
  · exact (trails_stopMoving s _ .A).trans (trails_stopMoving _ _ .B)
  · exact .refl s

theorem prompts_rowStops (s : State) (row : TriggerRow) (reason : StopReason) : Prompts s (s.rowStops row reason) := by
  unfold State.rowStops; split
  · exact (prompts_stopMoving s _ .A).trans (prompts_stopMoving _ _ .B)
  · exact .refl s

theorem relit_applyRow (s : State) (row : TriggerRow) (reason : StopReason) :
    Relit (s.rowStops row reason) (s.applyRow row reason) := by
  rw [applyRow_eq]; split
  · exact relit_recallAlert _
  · exact .refl _

theorem keeps_applyRow (s : State) (row : TriggerRow) (reason : StopReason) : Keeps s (s.applyRow row reason) :=
  (trails_rowStops s row reason).toKeeps.trans (relit_applyRow s row reason).keeps

theorem prompts_applyRow (s : State) (row : TriggerRow) (reason : StopReason) : Prompts s (s.applyRow row reason) :=
  (prompts_rowStops s row reason).trans (.of_safety (relit_applyRow s row reason).safety)

theorem applyRow_line (s : State) (row : TriggerRow) (reason : StopReason) : (s.applyRow row reason).line =
    { s.line with queue := (s.applyRow row reason).line.queue, refresh := (s.applyRow row reason).line.refresh } := by
  rw [(relit_applyRow s row reason).line]; exact (trails_rowStops s row reason).line

/-- An axis takes a row's order from a state in which its record is the one before the order. -/
theorem rowStops_axis {s : State} {row : TriggerRow} (reason : StopReason) (stop : row.axisAction = .stopRamp) (ax : Axis) :
    ∃ x, Trails s x ∧ x.axis ax = s.axis ax ∧ (s.rowStops row reason).axis ax = (x.stopMoving reason ax).axis ax := by
  rw [State.rowStops, if_pos stop]
  cases ax with
  | A => exact ⟨s, .refl s, rfl, stopMoving_axis_ne _ _ (by decide)⟩
  | B => exact ⟨_, trails_stopMoving s reason .A, stopMoving_axis_ne _ _ (by decide), rfl⟩

theorem finish_line (s : State) : s.finish.line = { s.line with
    queue := s.finish.line.queue, refresh := s.finish.line.refresh } := (trails_finish s).line

theorem finish_channel (s : State) (i : Fin 24) : s.light.channels[i].settledTo s.finish.light.channels[i] :=
  (trails_finish s).channels i

theorem finish_motion_of_harmless {s : State} (h : Harmless (s.setWithin false)) : s.finish.motion = s.motion := by
  rw [State.finish, publish_motion]; exact settle_motion_of_harmless h

@[simp] theorem setWithin_axisSafety (s : State) (b : Bool) (ax : Axis) : (s.setWithin b).axisSafety ax = s.axisSafety ax := by
  cases ax <;> rfl

theorem setWithin_holdOn (s : State) (ax : Axis) : (s.setWithin false).holdOn ax = s.heldNow ax := by
  have open_ : (s.setWithin false).safety.within = false := rfl
  rw [State.holdOn, setWithin_heldNow, open_, Bool.false_and, Bool.or_false]

/-- A row applied at the entry of its condition has its effect at the end of the command (R158, R99). -/
theorem rowApplied_finish {s u : State} (calm : s.calm = true) (alike : Alike s u) (row : TriggerRow) (reason : StopReason) :
    s.rowApplied (u.applyRow row reason).finish row reason := by
  have relit := relit_applyRow u row reason
  have trails := trails_rowStops u row reason
  have settles := rests_finish (u.applyRow row reason)
  refine ⟨fun stop ax moving => ?_, fun none masks => ?_, fun alert => ?_, fun none i => ?_⟩
  · obtain ⟨x, trailsX, sameX, order⟩ := rowStops_axis (s := u) reason stop ax
    have axisX : x.axis ax = s.axis ax := sameX.trans (axis_of_motion alike.motion ax)
    have cfgX : x.axisCfg ax = s.axisCfg ax := by simp [State.axisCfg, trailsX.cfg, alike.cfg]
    have movingX : (x.axis ax).state.moves = true := by rw [axisX]; exact moving
    have stopped : x.stopMoving reason ax = x.enterStopping ax reason := by simp [State.stopMoving, movingX]
    have axisV : (u.applyRow row reason).axis ax = (x.enterStopping ax reason).axis ax := by
      rw [axis_of_motion relit.motion, order, stopped]
    by_cases ramp : (s.axisCfg ax).rampDown = 0
    · obtain ⟨st, token, r, -, record⟩ := enterStopping_at_once reason movingX (by rw [cfgX]; exact ramp)
      obtain ⟨st', token', r', last⟩ := settles.rest ax (by rw [axisV, record]; exact r)
      rw [last, axisV, record]
      exact ⟨rfl, rfl, fun n => absurd ramp n, fun _ => by cases st' <;> simp_all [AxisState.rests]⟩
    · obtain ⟨slot, duty, record⟩ := enterStopping_ramp reason movingX (by rw [cfgX]; exact ramp)
      have last := settles.still ax (by rw [axisV, record]; rfl) (by rw [axisV, record]; rfl)
      rw [last, axisV, record, axisX]
      exact ⟨rfl, rfl, fun _ => ⟨rfl, rfl⟩, fun z => absurd z ramp⟩
  · have stays : u.rowStops row reason = u := by simp [State.rowStops, none]
    rw [stays] at relit
    have empty (a : Alarm) (ax : Axis) : a.within ((u.applyRow row reason).axisCfg ax).holdMask = false := by
      rw [State.axisCfg, relit.cfg, alike.cfg]
      have := masks ax
      rw [State.axisCfg] at this
      rw [this]; simp [Alarm.within]
    have safety (ax : Axis) : (u.applyRow row reason).axisSafety ax = s.axisSafety ax :=
      (axisSafety_of_safety relit.safety ax).trans (alike.safety ax)
    have held (ax : Axis) : (u.applyRow row reason).heldNow ax = s.heldNow ax :=
      heldNow_of_no_mask (masks ax) (by rw [relit.cfg, alike.cfg]) (by rw [relit.line, alike.allstop])
        (by rw [relit.line, alike.estop]) (by rw [relit.safety, alike.holdOff])
    have harmless : Harmless ((u.applyRow row reason).setWithin false) :=
      { drop := empty _, raised := fun a _ => empty a
        held := fun ax => by
          rw [setWithin_axisSafety, setWithin_holdOn, held, safety]; exact held_of_calm calm ax }
    rw [finish_motion_of_harmless harmless, relit.motion, alike.motion]
  · have applied : u.applyRow row reason = (u.rowStops row reason).recallAlert := by simp [applyRow_eq, alert]
    rw [applied]
    refine alertGiven_of (w := u.rowStops row reason) (by rw [trails.cfg, alike.cfg]) ?_ (fun i => ?_) (finish_channel _)
    · rw [trails.light, alike.light]
    · rw [← alike.light]; exact trails.channels i
  · have applied : u.applyRow row reason = u.rowStops row reason := by simp [applyRow_eq, none]
    rw [settledTo_lastScene (finish_channel _ i), applied, settledTo_lastScene (trails.channels i), alike.light]

/-! ## SILENT -/

theorem weight_of_calm {s : State} (calm : s.calm = true) : s.weight = 2 := by
  rw [State.weight, ((calm_iff s).1 calm).1]; rfl

/-- A report made before the end of the command stands set after it (R174). -/
theorem alarmSet_finish {s : State} {a : Alarm} (station : s.station ≠ .loading) (reported : a ∈ s.safety.raised)
    (few : s.weight ≤ 50) : s.finish.alarmSet a = true := by
  have load := setWithin_syncContent_load s false
  have set : ((s.setWithin false).settle 128).alarmSet a = true :=
    alarmSet_settle (s := s.setWithin false) station reported (by omega)
  rw [State.finish, State.settled, State.alarmSet, publish_safety]; exact set

/-- The entry of SILENT, before its row (R16). -/
def State.turnSilent (s : State) : State :=
  (s.setLine { s.line with silence := s.cfg.silentTime, silent := true }).raise .silentSeen

theorem silenceStep_of_last {s : State} (station : s.station ≠ .loading) (last : s.line.silence + 1 = s.cfg.silentTime) :
    s.silenceStep = s.turnSilent.applyRow s.cfg.trigger.silent .silent := by
  have below : ¬s.cfg.silentTime ≤ s.line.silence := by omega
  have atEnd : ¬s.line.silence + 1 < s.cfg.silentTime := by omega
  rw [State.silenceStep, if_neg (not_or.2 ⟨station, below⟩), if_neg atEnd]; rfl

theorem alike_turnSilent (s : State) : Alike s s.turnSilent := by
  refine .trans (alike_setLine s ?_ ?_) (alike_raise _ _) <;> rfl

theorem turnSilent_line (s : State) : s.turnSilent.line = { s.line with silence := s.cfg.silentTime, silent := true } :=
  raise_line _ _

theorem keeps_turnSilent (s : State) : Keeps s s.turnSilent := (keeps_setLine s _).trans (keeps_raise _ _)

theorem turnSilent_weight (s : State) : s.turnSilent.weight ≤ s.weight + 1 := weight_raise _ _

theorem turnSilent_reports (s : State) : Alarm.silentSeen ∈ s.turnSilent.safety.raised := mem_raise _ _

/-- Settles O29: the last silent interval turns the station SILENT, and its row is applied before its alarm acts. -/
theorem silentEntryAppliesItsRow : Obligations.SilentEntryAppliesItsRow := by
  intro s awake owed station last
  have calm := calm_of_awake awake
  have step := silenceStep_of_last (s := s.disown .silentEntry) station last
  have alike : Alike s (s.disown .silentEntry).turnSilent := (alike_disown s _).trans (alike_turnSilent _)
  have line := turnSilent_line (s.disown .silentEntry)
  have keeps : Keeps s (s.disown .silentEntry).turnSilent := (keeps_disown s _).trans (keeps_turnSilent _)
  have few : (s.disown .silentEntry).turnSilent.weight ≤ s.weight + 1 := turnSilent_weight _
  have reported := turnSilent_reports (s.disown .silentEntry)
  generalize (s.disown .silentEntry).turnSilent = u at *
  have prompts := prompts_applyRow u s.cfg.trigger.silent .silent
  have keepsRow := keeps.trans (keeps_applyRow u s.cfg.trigger.silent .silent)
  refine ⟨(u.applyRow s.cfg.trigger.silent .silent).finish, ?_, ?_, ?_, ?_, ?_, ?_, ?_, rowApplied_finish calm alike _ _⟩
  · exact (event_of_due (running_of_awake awake) (by simpa using owed) _).trans (by rw [step]; rfl)
  · rw [finish_line, applyRow_line, line]
  · rw [finish_line, applyRow_line, line]; rfl
  · rw [finish_line, applyRow_line, line]; rfl
  · refine alarmSet_finish ?_ (prompts.keeps _ reported) ?_
    · rw [State.station, keepsRow.loader]; exact station
    · have := prompts.weight; have := weight_of_calm calm; omega
  · rw [finish_time, keepsRow.time]
  · rw [finish_cmd, keepsRow.cmd]

/-! ## The noise budget and ERRATIC -/

/-- The entry of ERRATIC, before its row (R15). -/
def State.turnErratic (s : State) : State :=
  (s.setLine { s.line with budget := s.line.budget - 1, erratic := true }).raise .erraticSeen

theorem countError_of_last {s : State} (last : s.line.budget = 1) :
    s.countError = s.turnErratic.applyRow s.cfg.trigger.erratic .erratic := by
  simp [State.countError, last, State.turnErratic, State.setLine]

theorem countError_of_more {s : State} (more : s.line.budget ≠ 1) :
    s.countError = s.setLine { s.line with budget := s.line.budget - 1 } := by
  simp [State.countError, more]

theorem turnErratic_line (s : State) : s.turnErratic.line = { s.line with budget := s.line.budget - 1, erratic := true } :=
  raise_line _ _

/-- An error costs one of the budget, and of the Line Unit ERRATIC may begin; the rest is the send queue's. -/
theorem countError_line (s : State) : s.countError.line = { s.line with
    budget := s.line.budget - 1, erratic := s.line.erratic || s.line.budget == 1,
    queue := s.countError.line.queue, refresh := s.countError.line.refresh } := by
  by_cases last : s.line.budget = 1
  · rw [countError_of_last last, applyRow_line, turnErratic_line]; simp [last]
  · rw [countError_of_more last]; simp [last]

theorem keeps_countError (s : State) : Keeps s s.countError := by
  by_cases last : s.line.budget = 1
  · rw [countError_of_last last]
    exact ((keeps_setLine s _).trans (keeps_raise _ _)).trans (keeps_applyRow _ _ _)
  · rw [countError_of_more last]; exact keeps_setLine s _

/-- The error that takes the last of the budget has entered ERRATIC at the end of the command (R15, R158, R99). -/
theorem erraticEntered_finish {s u : State} (calm : s.calm = true) (alike : Alike s u) (raised : u.safety.raised = [])
    (last : u.line.budget = 1) : s.erraticEntered u.countError.finish := by
  have entered : Alike s u.turnErratic := by
    refine alike.trans (.trans (alike_setLine u ?_ ?_) (alike_raise _ _)) <;> rfl
  have prompts := prompts_applyRow u.turnErratic s.cfg.trigger.erratic .erratic
  have few : u.turnErratic.weight ≤ 3 := by
    have now : u.weight = 2 := by rw [State.weight, raised]; rfl
    exact (weight_raise _ _).trans (Nat.succ_le_succ now.le)
  rw [countError_of_last last, alike.cfg]
  refine ⟨?_, fun station => ?_, rowApplied_finish calm entered _ _⟩
  · rw [finish_line, applyRow_line, turnErratic_line]
  · refine alarmSet_finish ?_ (prompts.keeps _ (mem_raise _ _)) (by have := prompts.weight; omega)
    rw [State.station, (keeps_applyRow _ _ _).loader, entered.loader]; exact station

/-- A command that leaves the blocks named here only has its own effect. -/
theorem finish_same {s t : State} (awake : s.awake = true) (pins : t.pins = s.pins) (cfg : t.cfg = s.cfg)
    (keys : t.cmd.keys = s.cmd.keys) (peer : t.peer = s.peer) (light : t.light = s.light) (sense : t.sense = s.sense)
    (motion : t.motion = s.motion) (safety : t.safety = s.safety) (lock : t.time.lock = s.time.lock)
    (engine : t.time.engine = s.time.engine) (allstop : t.line.allstop = s.line.allstop)
    (estop : t.line.estop = s.line.estop) : t.finish = t :=
  finish_of_quiet ((quiet_congr pins cfg keys peer light sense motion safety lock engine allstop estop).trans
    (quiet_of_awake awake))

/-- Settles O33: the frame leaves, and the error is counted at once or owed. -/
theorem bitErrorRemovesTheFrame : Obligations.BitErrorRemovesTheFrame := by
  intro bits s s1 read running awake plain level found
  have calm := calm_of_awake awake
  have due : s1.errorLevel.isSome = true := by rw [found]; rfl
  have answers : exec (.bitError bits) s = .next s1.bitErrorNow.finish :=
    atLastBit_of_due (due := fun s => s.errorLevel.isSome) (effect := State.bitErrorNow) read running due
  have left := leaveLine_of_no_refresh (s := s1.endFrame .outside) plain
  have alike : Alike s1 (s1.endFrame .outside).leaveLine := (alike_endFrame s1 _).trans (alike_leaveLine _)
  generalize e : (s1.endFrame .outside).leaveLine = u at left alike
  have raised : u.safety.raised = [] := by rw [left]; exact ((calm_iff s1).1 calm).1
  constructor
  · rintro rfl
    have effect : s1.bitErrorNow = u.setLine { u.line with errorOwed := true } := by simp [State.bitErrorNow, found, e]
    have ends : s1.bitErrorNow.finish = s1.bitErrorNow := by
      rw [effect, left]; exact finish_same (s := s1) awake rfl rfl rfl rfl rfl rfl rfl rfl rfl rfl rfl rfl
    refine ⟨s1.bitErrorNow, answers.trans (by rw [ends]), ?_, ?_, ?_, ?_, ?_, ?_⟩ <;>
      rw [effect, left] <;> rfl
  · rintro rfl
    have effect : s1.bitErrorNow = u.countError := by simp [State.bitErrorNow, found, e]
    have line := countError_line u
    refine ⟨s1.bitErrorNow.finish, answers, ?_, ?_, ?_, fun last => ?_, fun more => ?_⟩
    · rw [finish_line, effect, line, left]; rfl
    · rw [finish_line, effect, line, left]; rfl
    · rw [finish_line, effect, line, left]; rfl
    · rw [effect]; exact erraticEntered_finish calm alike raised (by rw [left]; exact last)
    · have counted : s1.bitErrorNow = u.setLine { u.line with budget := u.line.budget - 1 } := by
        rw [effect]; exact countError_of_more (by rw [left]; exact more)
      have ends : s1.bitErrorNow.finish = s1.bitErrorNow := by
        rw [counted, left]; exact finish_same (s := s1) awake rfl rfl rfl rfl rfl rfl rfl rfl rfl rfl rfl rfl
      rw [ends, counted, left]; exact ⟨rfl, rfl⟩

/-- What an error counted in a state made from `s` leaves. -/
theorem errorCounted {s u : State} (alike : Alike s u) (raised : u.safety.raised = s.safety.raised)
    (budget : u.line.budget = s.line.budget) (cmd : u.cmd = s.cmd) :
    u.countError.finish.line.place = u.line.place ∧ u.countError.finish.line.ackDrive = u.line.ackDrive ∧
      u.countError.finish.line.errorOwed = u.line.errorOwed ∧
      u.countError.finish.line.budget = s.line.budget - 1 ∧
      (s.line.budget = 1 → u.countError.finish.line.erratic = true ∧ (s.awake = true → s.erraticEntered u.countError.finish)) ∧
      u.countError.finish.cmd = s.cmd := by
  refine ⟨?_, ?_, ?_, ?_, fun last => ⟨?_, fun awake => ?_⟩, ?_⟩
  · rw [finish_line, countError_line]
  · rw [finish_line, countError_line]
  · rw [finish_line, countError_line]
  · rw [finish_line, countError_line, budget]
  · rw [finish_line, countError_line]; simp [budget, last]
  · have calm := calm_of_awake awake
    exact erraticEntered_finish calm alike (raised.trans ((calm_iff s).1 calm).1) (budget.trans last)
  · rw [finish_cmd, (keeps_countError u).cmd, cmd]

/-- Settles O37: each verdict of the check ends the frame and counts or owes its error. -/
theorem receiveErrorsAreCounted : Obligations.ReceiveErrorsAreCounted := by
  intro bits s s1 read running
  have ended (place : LinePlace) := errorCounted (alike_endFrame s1 place) rfl rfl rfl
  refine ⟨fun found => ?_, fun found => ?_, fun found => ?_, fun found => ?_, fun owed own => ?_⟩
  · have due : s1.receiveErrs = true := by rcases found with h | h <;> simp [State.receiveErrs, h]
    have effect : s1.receiveError = (s1.endFrame .outside).countError := by
      rcases found with h | h <;> simp [State.receiveError, h]
    obtain ⟨place, -, -, budget, erratic, cmd⟩ := ended .outside
    exact ⟨_, (atLastBit_of_due read running due).trans (by rw [effect]), place, budget, erratic, cmd⟩
  · have due : s1.receiveErrs = true := by simp [State.receiveErrs, found]
    have effect : s1.receiveError = (s1.endFrame .outside).setLine { (s1.endFrame .outside).line with errorOwed := true } := by
      simp [State.receiveError, found]
    refine ⟨s1.receiveError.finish, atLastBit_of_due read running due, ?_, ?_, ?_, ?_⟩
    · rw [finish_line, effect]; rfl
    · rw [finish_line, effect]; rfl
    · rw [finish_line, effect]; rfl
    · rw [finish_cmd, effect]; rfl
  · have due : s1.receiveErrs = true := by simp [State.receiveErrs, found]
    have effect : s1.receiveError = (s1.endFrame .slot).countError := by simp [State.receiveError, found]
    obtain ⟨place, drive, -, budget, erratic, cmd⟩ := ended .slot
    exact ⟨_, (atLastBit_of_due read running due).trans (by rw [effect]), place, drive, budget, erratic, cmd⟩
  · refine ⟨(s1.endFrame .slot).finish,
      atLastBit_of_due (due := fun s => s.verdict == .badSource) (effect := fun s => s.endFrame .slot) read running (by simp [found]),
      ?_, ?_, ?_, ?_⟩
    · rw [finish_line]; rfl
    · rw [finish_line]; rfl
    · rw [finish_line]; rfl
    · rw [finish_cmd]; rfl
  · have readOwn : (s.setLine (s.line.read true)).line.own ≠ .slot := by simpa using own
    have effect : s.readBits [true] = (s.setLine { s.line.read true with errorOwed := false }).countError := by
      show s.readBit true = _
      rw [State.readBit, State.endOwnSlot, if_neg readOwn]
      simp [State.countOwedError, owed, State.setLine]
    have alike : Alike s (s.setLine { s.line.read true with errorOwed := false }) :=
      alike_setLine s (read_allstop _ _) (read_estop _ _)
    obtain ⟨-, -, paid, budget, erratic, cmd⟩ := errorCounted alike rfl (read_budget _ _) rfl
    refine ⟨_, (event_of_due running rfl _).trans (by rw [effect]), paid, budget, erratic, cmd⟩

end Sys2Proof.Machine
end

section
/-! PROOFS. ALLSTOP and the local emergency stop. -/

namespace Sys2Proof.Machine

/-! ## What is on the line is discarded -/

theorem alike_loseContention (s : State) : Alike s s.loseContention := by
  unfold State.loseContention; split
  · exact alike_leaveLine s
  · exact alike_setLine s rfl rfl

theorem prompts_loseContention (s : State) : Prompts s s.loseContention := by
  unfold State.loseContention; split
  · exact prompts_leaveLine s
  · exact .of_safety rfl

theorem loseContention_line (s : State) : s.loseContention.line = { s.line with
    queue := s.loseContention.line.queue, own := .none, leaveOnLoss := s.loseContention.line.leaveOnLoss,
    refresh := s.loseContention.line.refresh } := by
  unfold State.loseContention; split
  · rw [leaveLine_line]
  · rfl

theorem alike_discardFrame (s : State) : Alike s s.discardFrame := by
  have ended := alike_endFrame s .outside
  unfold State.discardFrame; dsimp only; split
  · exact ended
  · exact ended.trans (alike_loseContention _)
  all_goals exact ended.trans (alike_leaveLine _)

theorem prompts_discardFrame (s : State) : Prompts s s.discardFrame := by
  have ended : Prompts s (s.endFrame .outside) := .of_safety rfl
  unfold State.discardFrame; dsimp only; split
  · exact ended
  · exact ended.trans (prompts_loseContention _)
  all_goals exact ended.trans (prompts_leaveLine _)

theorem discardFrame_line (s : State) : s.discardFrame.line = { s.line with
    place := .outside, bits := [], idleCount := 0, ackDrive := false, queue := s.discardFrame.line.queue, own := .none,
    leaveOnLoss := s.discardFrame.line.leaveOnLoss, refresh := s.discardFrame.line.refresh } := by
  unfold State.discardFrame; dsimp only; split
  · next own => show (s.endFrame .outside).line = { (s.endFrame .outside).line with own := .none, .. }; rw [← own]; rfl
  · rw [loseContention_line]; rfl
  all_goals rw [leaveLine_line]; rfl

theorem alike_cutFrame (s : State) : Alike s s.cutFrame := by
  have ended := alike_endFrame s .outside
  unfold State.cutFrame; split
  · exact ended.trans (alike_leaveLine _)
  · exact ended.trans (alike_leaveLine _)
  · exact alike_leaveLine s
  · exact ended
  all_goals exact .refl s

theorem prompts_cutFrame (s : State) : Prompts s s.cutFrame := by
  have ended : Prompts s (s.endFrame .outside) := .of_safety rfl
  unfold State.cutFrame; split
  · exact ended.trans (prompts_leaveLine _)
  · exact ended.trans (prompts_leaveLine _)
  · exact prompts_leaveLine s
  · exact ended
  all_goals exact .refl s

/-- The cut leaves no own frame; the counts of the line stand (R18). -/
theorem cutFrame_line (s : State) : s.cutFrame.line.own = .none ∧ s.cutFrame.line.budget = s.line.budget ∧
    s.cutFrame.line.releaseCount = s.line.releaseCount := by
  unfold State.cutFrame; split
  · rw [leaveLine_line]; exact ⟨rfl, rfl, rfl⟩
  · rw [leaveLine_line]; exact ⟨rfl, rfl, rfl⟩
  · rw [leaveLine_line]; exact ⟨rfl, rfl, rfl⟩
  · next own _ => exact ⟨own, rfl, rfl⟩
  · next own _ => exact ⟨own, rfl, rfl⟩
  · next own _ => exact ⟨own, rfl, rfl⟩

theorem cutFrame_kept (s : State) : s.cutFrame.time.p = s.time.p ∧ s.cutFrame.cmd = s.cmd ∧ s.cutFrame.inReset = s.inReset := by
  have left (u : State) : u.leaveLine.time.p = u.time.p ∧ u.leaveLine.cmd = u.cmd ∧ u.leaveLine.inReset = u.inReset := by
    have keeps := keeps_leaveLine u
    exact ⟨by rw [keeps.time], keeps.cmd, keeps.inReset⟩
  unfold State.cutFrame; split
  · exact left _
  · exact left _
  · exact left s
  all_goals exact ⟨rfl, rfl, rfl⟩

/-! ## ALLSTOP -/

/-- The station as it enters ALLSTOP, before the orders (R17, R166). -/
def State.underAllstop (s : State) : State :=
  let s1 := s.discardFrame
  let s2 := (s1.setLine { s1.line with allstop := true, errorOwed := false }).raise .allstopSeen
  (s2.setSafety { s2.safety with holdOff := 0 }).disown .holdOffEnd

theorem enterAllstop_eq (s : State) : s.enterAllstop =
    if s.underAllstop.lineStop.cfg.trigger.allstop.lightAction = .recall then s.underAllstop.lineStop.beginOverride
    else s.underAllstop.lineStop := rfl

theorem underAllstop_line (s : State) : s.underAllstop.line = { s.discardFrame.line with allstop := true, errorOwed := false } :=
  raise_line _ _

theorem underAllstop_motion (s : State) : s.underAllstop.motion = s.motion :=
  (raise_motion _ _).trans (alike_discardFrame s).motion
theorem underAllstop_light (s : State) : s.underAllstop.light = s.light :=
  (raise_light _ _).trans (alike_discardFrame s).light
theorem underAllstop_cfg (s : State) : s.underAllstop.cfg = s.cfg := (raise_cfg _ _).trans (alike_discardFrame s).cfg
theorem underAllstop_loader (s : State) : s.underAllstop.loader = s.loader :=
  (raise_loader _ _).trans (alike_discardFrame s).loader

theorem underAllstop_safety (s : State) (ax : Axis) : s.underAllstop.axisSafety ax = s.axisSafety ax := by
  have raised := (alike_raise (s.discardFrame.setLine { s.discardFrame.line with allstop := true, errorOwed := false })
    .allstopSeen).safety ax
  have before : (s.discardFrame.setLine { s.discardFrame.line with allstop := true, errorOwed := false }).axisSafety ax =
      s.discardFrame.axisSafety ax := axisSafety_of_safety rfl ax
  rw [← (alike_discardFrame s).safety ax, ← before, ← raised]
  cases ax <;> rfl

theorem underAllstop_weight (s : State) : s.underAllstop.weight ≤ s.weight + 1 :=
  (weight_raise _ _).trans (Nat.succ_le_succ (prompts_discardFrame s).weight)

theorem underAllstop_firm (s : State) (ax : Axis) : s.underAllstop.firmlyHeld ax := .inl (by rw [underAllstop_line])

/-- The override and the alert scene, where the row recalls it (R97). -/
theorem beginOverride_relit (s : State) :
    Relit (s.setLight { s.light with override := true }).stopRun s.beginOverride := relit_recallAlert _

theorem beginOverride_line (s : State) : s.beginOverride.line = s.line := (beginOverride_relit s).line
theorem beginOverride_motion (s : State) : s.beginOverride.motion = s.motion := (beginOverride_relit s).motion
theorem beginOverride_safety (s : State) : s.beginOverride.safety = s.safety := (beginOverride_relit s).safety
theorem beginOverride_loader (s : State) : s.beginOverride.loader = s.loader := (beginOverride_relit s).loader
theorem beginOverride_cfg (s : State) : s.beginOverride.cfg = s.cfg := (beginOverride_relit s).cfg

/-- What the entry of ALLSTOP leaves beside the lights and the Ramp Pool. -/
structure AllstopEntered (s t : State) : Prop where
  line : t.line = { s.line with
    place := .outside, bits := [], idleCount := 0, ackDrive := false, own := .none, allstop := true, errorOwed := false
    queue := t.line.queue, leaveOnLoss := t.line.leaveOnLoss, refresh := t.line.refresh }
  motion : t.motion = s.underAllstop.lineStop.motion
  safety : t.safety = s.underAllstop.lineStop.safety
  loader : t.loader = s.loader
  cfg : t.cfg = s.cfg

theorem allstopEntered (s : State) : AllstopEntered s s.enterAllstop := by
  have stop := trails_lineStop s.underAllstop
  have line : s.underAllstop.lineStop.line = { s.line with
      place := .outside, bits := [], idleCount := 0, ackDrive := false, own := .none, allstop := true, errorOwed := false
      queue := s.underAllstop.lineStop.line.queue, leaveOnLoss := s.underAllstop.lineStop.line.leaveOnLoss
      refresh := s.underAllstop.lineStop.line.refresh } := by
    rw [stop.line, underAllstop_line, discardFrame_line]
  have stopped : AllstopEntered s s.underAllstop.lineStop :=
    ⟨line, rfl, rfl, stop.loader.trans (underAllstop_loader s), stop.cfg.trans (underAllstop_cfg s)⟩
  rw [enterAllstop_eq]; split
  · exact ⟨by rw [beginOverride_line]; exact line, beginOverride_motion _, beginOverride_safety _,
      (beginOverride_loader _).trans stopped.loader, (beginOverride_cfg _).trans stopped.cfg⟩
  · exact stopped

theorem AllstopEntered.firm {s t : State} (h : AllstopEntered s t) (ax : Axis) : t.firmlyHeld ax := .inl (by rw [h.line])

/-- ALLSTOP is entered, with the order to every axis, at the end of the command (R17, R166, R157). -/
theorem lineStopped_allstop {s : State} (calm : s.calm = true) (ax : Axis) : s.lineStopped s.enterAllstop.finish ax := by
  have entered := allstopEntered s
  have prompts := prompts_lineStop s.underAllstop
  refine lineStopped_finish (u := s.underAllstop) calm (underAllstop_motion s) (underAllstop_cfg s) entered.motion (fun x => ?_)
    (underAllstop_firm s) entered.firm ?_ ax
  · rw [axisSafety_of_safety entered.safety, prompts.axisSafety, underAllstop_safety]
  · have same : s.enterAllstop.weight = s.underAllstop.lineStop.weight := by rw [State.weight, entered.safety]; rfl
    have := prompts.weight; have := underAllstop_weight s; have := weight_of_calm calm
    omega

theorem enterAllstop_drives (s : State) (ax : Axis) : (s.enterAllstop.finish.axis ax).state.drives = false := by
  refine (rests_finish _).drives ?_
  rw [axis_of_motion (allstopEntered s).motion]
  exact lineStop_drives (underAllstop_firm s ax)

theorem finish_light (s : State) : s.finish.light = { s.light with
    channels := s.finish.light.channels, outputs := s.finish.light.outputs } := (trails_finish s).light

theorem finish_holdOff (s : State) : s.finish.safety.holdOff = s.safety.holdOff := (trails_finish s).holdOff

/-- Under RECALL the alert scene stands, the run is stopped and the override is in force (R97). -/
theorem enterAllstop_recall {s : State} (row : s.cfg.trigger.allstop.lightAction = .recall) :
    let t := s.enterAllstop.finish
    t.light.override = true ∧ t.light.stepping = false ∧ t.light.offset = 0 ∧ s.alertGiven t := by
  have stop := trails_lineStop s.underAllstop
  have cfg : s.underAllstop.lineStop.cfg = s.cfg := stop.cfg.trans (underAllstop_cfg s)
  have effect : s.enterAllstop = s.underAllstop.lineStop.beginOverride := by rw [enterAllstop_eq, if_pos (by rw [cfg]; exact row)]
  have relit := beginOverride_relit s.underAllstop.lineStop
  have light := finish_light s.enterAllstop
  rw [effect] at light ⊢
  dsimp only
  refine ⟨?_, ?_, ?_, ?_⟩
  · rw [light, relit.light]; rfl
  · rw [light, relit.light]; rfl
  · rw [light, relit.light]; rfl
  · refine alertGiven_of (w := (s.underAllstop.lineStop.setLight { s.underAllstop.lineStop.light with override := true }).stopRun)
      (congrArg Configuration.alertScene cfg) ?_ (fun i => ?_) (finish_channel _)
    · show s.underAllstop.lineStop.light.scenes = _
      rw [stop.light, underAllstop_light]
    · rw [← underAllstop_light s]; exact stop.channels i

theorem enterAllstop_keeps_override {s : State} (row : s.cfg.trigger.allstop.lightAction = .none) :
    s.enterAllstop.finish.light.override = s.light.override := by
  have stop := trails_lineStop s.underAllstop
  have cfg : s.underAllstop.lineStop.cfg = s.cfg := stop.cfg.trans (underAllstop_cfg s)
  have effect : s.enterAllstop = s.underAllstop.lineStop := by
    rw [enterAllstop_eq, if_neg (by rw [cfg, row]; decide)]
  rw [finish_light, effect, stop.light, underAllstop_light]

theorem enterAllstop_holdOff (s : State) : s.enterAllstop.finish.safety.holdOff = 0 := by
  rw [finish_holdOff, (allstopEntered s).safety, (trails_lineStop _).holdOff]; rfl

theorem enterAllstop_alarm {s : State} (calm : s.calm = true) (station : s.station ≠ .loading) :
    s.enterAllstop.finish.alarmSet .allstopSeen = true := by
  have entered := allstopEntered s
  have prompts := prompts_lineStop s.underAllstop
  refine alarmSet_finish (by rw [State.station, entered.loader]; exact station) ?_ ?_
  · rw [entered.safety]; exact prompts.keeps _ (mem_raise _ _)
  · have same : s.enterAllstop.weight = s.underAllstop.lineStop.weight := by rw [State.weight, entered.safety]; rfl
    have := prompts.weight; have := underAllstop_weight s; have := weight_of_calm calm
    omega

/-- Settles O40: the line stop order reaches each axis before ALLSTOP_SEEN acts, and holds it to the end of the command. -/
theorem allstopEntersAndEnds : Obligations.AllstopEntersAndEnds := by
  intro bits s s1 read running awake
  have calm := calm_of_awake awake
  constructor
  · intro due
    have line := finish_line s1.enterAllstop
    have entered := allstopEntered s1
    refine ⟨s1.enterAllstop.finish, atLastBit_of_due read running due, ?_, ?_, ?_, ?_, enterAllstop_holdOff s1,
      enterAllstop_alarm calm, fun ax => ⟨enterAllstop_drives s1 ax, lineStopped_allstop calm ax⟩, enterAllstop_recall,
      enterAllstop_keeps_override⟩ <;> rw [line, entered.line]
  · intro due free
    have taken : s1.exitAllstop.foresee.oneInstant = s1.exitAllstop.setWithin false := oneInstant_of_not_heldAgain free
    refine ⟨(s1.exitAllstop.setWithin false).finish,
      (atLastBit_of_due (due := State.allstopOver) (effect := fun s => s.exitAllstop.foresee.oneInstant) read running due).trans
        (by rw [taken]), ?_, ?_, ?_, ?_, fun i => ?_⟩
    · rw [finish_line]; rfl
    · rw [finish_holdOff]; rfl
    · rw [finish_light]; rfl
    · have grows := (trails_finish (s1.exitAllstop.setWithin false)).alarms
      ext i
      rw [BitVec.getElem_and]
      cases set : s1.safety.alarms[i]
      · simp
      · have := grows i (by rw [BitVec.getLsbD_eq_getElem (by assumption)]; exact set)
        rw [BitVec.getLsbD_eq_getElem (by assumption)] at this
        simpa using this
    · exact settledTo_lastScene (finish_channel (s1.exitAllstop.setWithin false) i)

/-! ## The local emergency stop -/

/-- The station as the emergency stop becomes asserted, before the line stop order (R18, R167). -/
def State.underEstop (s : State) : State :=
  s.sampleAsserted.cutFrame.setLine { s.sampleAsserted.cutFrame.line with estop := true }

theorem assertEstop_of_released {s : State} (h : s.line.estop = false) : s.assertEstop = s.underEstop.lineStop := by
  simp [State.assertEstop, h, State.underEstop]

theorem assertEstop_of_asserted {s : State} (h : s.line.estop = true) : s.assertEstop = s.sampleAsserted := by
  simp [State.assertEstop, h]

theorem underEstop_firm (s : State) (ax : Axis) : s.underEstop.firmlyHeld ax := .inr (.inl rfl)

theorem underEstop_motion (s : State) : s.underEstop.motion = s.motion := (alike_cutFrame s.sampleAsserted).motion
theorem underEstop_cfg (s : State) : s.underEstop.cfg = s.cfg := (alike_cutFrame s.sampleAsserted).cfg
theorem underEstop_safety (s : State) (ax : Axis) : s.underEstop.axisSafety ax = s.axisSafety ax := by
  have cut := (alike_cutFrame s.sampleAsserted).safety ax
  have sampled : s.sampleAsserted.axisSafety ax = s.axisSafety ax := axisSafety_of_safety rfl ax
  rw [← sampled, ← cut]; exact axisSafety_of_safety rfl ax

theorem underEstop_weight (s : State) : s.underEstop.weight ≤ s.weight := (prompts_cutFrame s.sampleAsserted).weight

theorem lineStopped_estop {s : State} (calm : s.calm = true) (released : s.line.estop = false) (ax : Axis) :
    s.lineStopped s.assertEstop.finish ax := by
  have prompts := prompts_lineStop s.underEstop
  rw [assertEstop_of_released released]
  refine lineStopped_finish (u := s.underEstop) calm (underEstop_motion s) (underEstop_cfg s) rfl (fun x => ?_)
    (underEstop_firm s) (fun x => (trails_lineStop _).firm (underEstop_firm s x)) ?_ ax
  · rw [prompts.axisSafety, underEstop_safety]
  · have := prompts.weight; have := underEstop_weight s; have := weight_of_calm calm
    omega

theorem assertEstop_line (s : State) : s.assertEstop.line.estop = true ∧ s.assertEstop.line.releaseCount = 0 ∧
    s.assertEstop.line.budget = s.line.budget ∧ (s.line.estop = false → s.assertEstop.line.own = .none) := by
  cases h : s.line.estop
  · obtain ⟨own, budget, release⟩ := cutFrame_line s.sampleAsserted
    rw [assertEstop_of_released h, (trails_lineStop _).line]
    exact ⟨rfl, release, budget, fun _ => own⟩
  · rw [assertEstop_of_asserted h]; exact ⟨h, rfl, rfl, nofun⟩

theorem assertEstop_kept (s : State) : s.assertEstop.time.p = s.time.p ∧ s.assertEstop.cmd = s.cmd ∧
    s.assertEstop.inReset = s.inReset := by
  cases h : s.line.estop
  · have keeps := (trails_lineStop s.underEstop).toKeeps
    rw [assertEstop_of_released h, keeps.time, keeps.cmd, keeps.inReset]
    exact cutFrame_kept s.sampleAsserted
  · rw [assertEstop_of_asserted h]; exact ⟨rfl, rfl, rfl⟩

/-- Settles O30: the assertion cuts the frame and gives the line stop order; the release ends the drive alone. -/
theorem emergencyStopIsAssertedAndReleased : Obligations.EmergencyStopIsAssertedAndReleased := by
  intro s running
  constructor
  · obtain ⟨estop, release, budget, own⟩ := assertEstop_line s
    obtain ⟨p, cmd, inReset⟩ := assertEstop_kept s
    have line := finish_line s.assertEstop
    have driven : s.assertEstop.finish.line.estop = true := by rw [line]; exact estop
    refine ⟨s.assertEstop.finish, event_of_due running rfl _, driven, ?_, ?_, ?_, ?_, ?_, fun released => ⟨?_, fun ax => ?_,
      fun awake => lineStopped_estop (calm_of_awake awake) released⟩⟩
    · rw [line]; exact release
    · simp [State.lineDrive, driven, inReset, running]
    · rw [line]; exact budget
    · rw [finish_time]; exact p
    · rw [finish_cmd]; exact cmd
    · rw [line]; exact own released
    · refine (rests_finish _).drives ?_
      rw [assertEstop_of_released released]; exact lineStop_drives (underEstop_firm s ax)
  · intro owed asserted two free
    have effect : (s.disown .estopRelease).releaseEstop =
        (s.disown .estopRelease).setLine { s.line with estop := false, releaseCount := 3 } := by
      simp [State.releaseEstop, asserted, two]
    have taken := oneInstant_of_not_heldAgain free
    refine ⟨((s.disown .estopRelease).releaseEstop.setWithin false).finish,
      (event_of_due running (by simpa using owed) _).trans (by rw [taken]), ?_, ?_, ?_, ?_, ?_, ?_⟩
    · rw [finish_line, effect]; rfl
    · rw [finish_line, effect]; rfl
    · rw [finish_line, effect]; rfl
    · rw [finish_line, effect]; rfl
    · rw [finish_time, effect]; rfl
    · rw [finish_cmd, effect]; rfl

end Sys2Proof.Machine
end

section
/-! PROOFS. An intact frame is acknowledged, counted and routed. -/

namespace Sys2Proof.Machine

/-- The station as an intact frame is acknowledged and counted, before it is routed (R11, R15, R16). -/
def State.acknowledged (s : State) : State := (((s.endFrame .slot).acknowledge).credit).endSilence

theorem receive_eq (s : State) (f : Frame) : s.receive f =
    if s.loader.address = some f.source then s.acknowledged.raise .addressClash else s.acknowledged.route f s.latchOf := rfl

theorem acknowledged_line (s : State) : s.acknowledged.line = { s.line with
    place := .slot, bits := [], idleCount := 0, ackDrive := s.station != .listenOnly, silence := 0, silent := false
    budget := min s.cfg.budget (s.line.budget + 1)
    erratic := s.line.erratic && !(min s.cfg.budget (s.line.budget + 1) == s.cfg.budget) } := rfl

theorem acknowledged_quiet {s : State} (h : s.quiet = true) : s.acknowledged.quiet = true :=
  (quiet_congr (s := s) (t := s.acknowledged) rfl rfl rfl rfl rfl rfl rfl rfl rfl rfl rfl rfl).trans h

theorem quiet_owe (s : State) (o : Owed) : (s.owe o).quiet = s.quiet :=
  quiet_congr (s := s) (t := s.owe o) rfl rfl rfl rfl rfl rfl rfl rfl rfl rfl rfl rfl

/-- Where a frame of a command class goes (R12, R13). -/
theorem route_command {s : State} {f : Frame} {latch : Latch} (cls : f.cls = 1 ∨ f.cls = 3 ∨ f.cls = 4 ∨ f.cls = 6) :
    s.route f latch = s.intake f := by
  rcases cls with h | h | h | h <;> simp [State.route, h]

theorem intake_of_unaddressed {s : State} {f : Frame} (h : s.addressed f.dest = false) : s.intake f = s := by
  simp [State.intake, h]

theorem intake_of_room {s : State} {f : Frame} (h : s.addressed f.dest = true) (room : s.cmd.intake.length < 8) :
    s.intake f = s.setCmd { s.cmd with intake := s.cmd.intake ++
      [{ cls := f.cls, source := f.source, dest := f.dest, kind := f.kind, payload := f.payload }] } := by
  simp [State.intake, h, room]

theorem intake_of_full {s : State} {f : Frame} (h : s.addressed f.dest = true) (full : 8 ≤ s.cmd.intake.length) :
    s.intake f = s.raise .intakeFull := by
  simp [State.intake, h, Nat.not_lt.2 full]

theorem route_elsewhere {s : State} {f : Frame} {latch : Latch} (cls : f.cls = 0 ∨ f.cls = 7) : s.route f latch = s := by
  rcases cls with h | h <;> simp [State.route, h]

theorem route_beacon {s : State} {f : Frame} {latch : Latch} (cls : f.cls = 2) (kind : f.kind = 1)
    (length : f.payload.length = 4) : s.route f latch =
      s.owe (.beacon f.source (BitVec.ofNat 16 (nat16At f.payload 0)) (nat16At f.payload 2) latch) := by
  simp [State.route, cls, kind, length]

theorem route_announce {s : State} {f : Frame} {latch : Latch} (cls : f.cls = 5) (kind : f.kind = 1)
    (length : f.payload.length = 8) : s.route f latch = s.owe (.announce f.source f.payload) := by
  simp [State.route, cls, kind, length]

theorem intake_line (s : State) (f : Frame) : (s.intake f).line = s.line := by
  unfold State.intake; split
  · rfl
  · split
    · rfl
    · exact raise_line _ _

theorem route_line (s : State) (f : Frame) (latch : Latch) : (s.route f latch).line = s.line := by
  unfold State.route; split
  iterate 4 exact intake_line s f
  · split <;> rfl
  · split <;> rfl
  · rfl

theorem receive_line (s : State) (f : Frame) : (s.receive f).line = s.acknowledged.line := by
  rw [receive_eq]; split
  · exact raise_line _ _
  · exact route_line _ _ _

theorem decodes_of_intact {s : State} {f : Frame} (h : s.intactFrame = some f) : s.station ≠ .loading := by
  intro loading
  simp [State.intactFrame, State.verdict, State.decodes, loading] at h

/-- Settles O36: an intact frame is acknowledged, counted and handed on by its class. -/
theorem intactFrameIsRouted : Obligations.IntactFrameIsRouted := by
  intro bits s s1 read running awake f found
  have station := decodes_of_intact found
  have answers : exec (.frameReceiveIntact bits) s = .next (s1.receive f).finish := by
    refine (atLastBit_of_due (due := fun s => s.intactFrame.isSome) (effect := fun s =>
      match s.intactFrame with
      | some f => s.receive f
      | none => s) read running (by rw [found]; rfl)).trans ?_
    simp only [found]
  have line : (s1.receive f).finish.line = { s1.acknowledged.line with
      queue := (s1.receive f).finish.line.queue, refresh := (s1.receive f).finish.line.refresh } := by
    rw [finish_line, receive_line]
  have few (a : Alarm) : (s1.acknowledged.raise a).weight ≤ 50 := by
    have := weight_raise s1.acknowledged a
    have : s1.acknowledged.weight = s1.weight := rfl
    have := weight_of_calm (calm_of_awake awake)
    omega
  have reported (a : Alarm) : (s1.acknowledged.raise a).finish.alarmSet a = true :=
    alarmSet_finish (by rw [State.station, raise_loader]; exact station) (mem_raise _ _) (few a)
  refine ⟨_, answers, ?_, ?_, ?_, fun below => ?_, fun reached => ?_, ?_, ?_, fun own => ?_, fun other => ?_⟩
  · rw [line]; rfl
  · rw [line]; rfl
  · rw [line]; rfl
  · have : min s1.cfg.budget (s1.line.budget + 1) ≠ s1.cfg.budget := by omega
    rw [line, acknowledged_line]; simp [this]
  · have : min s1.cfg.budget (s1.line.budget + 1) = s1.cfg.budget := by omega
    rw [line, acknowledged_line]; simp [this]
  · rw [line]; rfl
  · rw [line, acknowledged_line]; simp
  · rw [receive_eq, if_pos own]
    refine ⟨reported _, ?_, fun o ho => ?_⟩
    · rw [finish_cmd, raise_cmd]; rfl
    · have was : o ∈ (s1.acknowledged.raise .addressClash).owed := (trails_finish _).owed.1.subset ho
      rw [raise_owed] at was; exact was
  · rw [receive_eq, if_neg other]
    have quiet := acknowledged_quiet (quiet_of_awake awake)
    have kept : s1.acknowledged.finish = s1.acknowledged := finish_of_quiet quiet
    have owes (o : Owed) : (s1.acknowledged.owe o).finish = s1.acknowledged.owe o :=
      finish_of_quiet ((quiet_owe _ o).trans quiet)
    refine ⟨fun cls addressed => ⟨fun room => ?_, fun full => ?_⟩, fun cls unaddressed => ?_, fun cls => ?_,
      fun cls kind length => ?_, fun cls kind length => ?_⟩
    · rw [route_command cls, intake_of_room (s := s1.acknowledged) addressed room, finish_cmd]; rfl
    · rw [route_command cls, intake_of_full (s := s1.acknowledged) addressed full]
      exact ⟨by rw [finish_cmd, raise_cmd]; rfl, reported _⟩
    · rw [route_command cls, intake_of_unaddressed (s := s1.acknowledged) unaddressed, finish_cmd]; rfl
    · rw [route_elsewhere cls, kept]; exact ⟨rfl, rfl, rfl⟩
    · rw [route_beacon cls kind length, owes]; rfl
    · rw [route_announce cls kind length, owes]; rfl

end Sys2Proof.Machine
end

section
/-! PROOFS. BEACON_OFFER and ANNOUNCE_EXPIRY at the send queue. -/

namespace Sys2Proof.Machine

/-! ## The send queue -/

theorem joinQueue_of_full_kept {q : List SendFrame} {f : SendFrame} (full : ¬q.length < 8)
    (none : ∀ g ∈ q, g.onLine = true ∨ g.cls ≤ f.cls) : joinQueue q f = (q, true) := by
  have low : largestClass (waiting q) ≤ f.cls := by
    by_contra above
    obtain ⟨g, hg, cls⟩ := exists_largestClass (q := waiting q) (by omega)
    obtain ⟨mem, waits⟩ := List.mem_filter.1 hg
    rcases none g mem with on | le
    · simp [on] at waits
    · omega
  simp [joinQueue, full, low]

theorem displace_split {c : Nat} {before after : List SendFrame} {f : SendFrame} (waits : f.onLine = false) (cls : f.cls = c)
    (newest : ∀ g ∈ after, g.onLine = true ∨ g.cls ≠ c) : displace c (before ++ f :: after) = before ++ after := by
  have none : ∀ g ∈ after.reverse, ¬((!g.onLine && g.cls == c) = true) := by
    intro g hg
    rcases newest g (List.mem_reverse.1 hg) with h | h <;> simp [h]
  rw [displace, List.reverse_append, List.reverse_cons, List.append_assoc, List.eraseP_append_right _ none,
    List.singleton_append, List.eraseP_cons_of_pos (by simp [waits, cls])]
  simp

theorem joinQueue_of_full_displaced {before after : List SendFrame} {f g : SendFrame}
    (full : ¬(before ++ g :: after).length < 8) (waits : g.onLine = false) (larger : f.cls < g.cls)
    (older : ∀ x ∈ before, x.onLine = true ∨ x.cls ≤ g.cls) (newer : ∀ x ∈ after, x.onLine = true ∨ x.cls < g.cls) :
    joinQueue (before ++ g :: after) f = (before ++ after ++ [f], true) := by
  have mem : g ∈ waiting (before ++ g :: after) := List.mem_filter.2 ⟨by simp, by simp [waits]⟩
  have least : g.cls ≤ largestClass (waiting (before ++ g :: after)) := cls_le_largestClass mem
  have most : largestClass (waiting (before ++ g :: after)) ≤ g.cls := by
    obtain ⟨x, hx, cls⟩ := exists_largestClass (q := waiting (before ++ g :: after)) (by omega)
    obtain ⟨inQ, xWaits⟩ := List.mem_filter.1 hx
    have off : x.onLine = false := by simpa using xWaits
    rcases List.mem_append.1 inQ with h | h
    · have := (older x h).resolve_left (by simp [off]); omega
    · rcases List.mem_cons.1 h with rfl | h
      · omega
      · have := (newer x h).resolve_left (by simp [off]); omega
  have largest : largestClass (waiting (before ++ g :: after)) = g.cls := Nat.le_antisymm most least
  have some : (waiting (before ++ g :: after)).isEmpty = false := by
    rw [List.isEmpty_eq_false_iff]; exact List.ne_nil_of_mem mem
  have split := displace_split (before := before) waits rfl fun x hx => (newer x hx).imp id Nat.ne_of_lt
  simp only [joinQueue, largest, some, split]
  rw [if_neg full, if_neg (by simpa using larger)]

theorem offer_of_joined {s : State} {f : SendFrame} {q : List SendFrame} (sends : s.sends = true)
    (joined : joinQueue s.line.queue f = (q, true)) : s.offer f = (s.setLine { s.line with queue := q }).raise .sendDrop := by
  simp [State.offer, sends, joined]

/-! ## One report at the end of a command -/

theorem harmless_of_calm {s : State} (calm : s.calm = true)
    (drop : ∀ ax, Alarm.sendDrop.within (s.axisCfg ax).holdMask = false) : Harmless s where
  drop := drop
  raised := by rw [((calm_iff s).1 calm).1]; nofun
  held := fun ax => by rw [held_of_calm calm, State.holdOn, ((calm_iff s).1 calm).2.1, Bool.false_and, Bool.or_false]

theorem raise_of_calm {s : State} (calm : s.calm = true) (a : Alarm) :
    s.raise a = s.setSafety { s.safety with raised := [a] } := by
  have none := ((calm_iff s).1 calm).1
  simp [State.raise, none]

theorem settle_of_report {n : Nat} {s : State} {a : Alarm} {rest : List Alarm} (synced : s.synced)
    (raised : s.safety.raised = a :: rest) :
    s.settle (n + 1) = ((s.setSafety { s.safety with raised := rest }).takeReport a).settle n := by
  conv_lhs => unfold State.settle
  simp only [syncContent_of_synced synced, raised]

/-- A SEND_DROP that holds no axis and makes no notice is taken, and nothing else (R20, R174). -/
theorem sendDrop_settled {s : State} (calm : s.calm = true) (notice : s.cfg.reportMask = 0)
    (drop : ∀ ax, Alarm.sendDrop.within (s.axisCfg ax).holdMask = false) :
    ∃ x : SafetyUnit, (s.raise .sendDrop).finish = (s.setSafety x).publish := by
  obtain ⟨none, within, synced, -, -⟩ := (calm_iff s).1 calm
  have closed : (s.setSafety { s.safety with raised := [.sendDrop] }).setWithin false =
      s.setSafety { s.safety with raised := [.sendDrop] } := by
    have now : s.safety.within = false := within
    simp only [State.setWithin, State.setSafety_safety]
    rw [← now]; rfl
  have popped : (s.setSafety { s.safety with raised := [.sendDrop] }).setSafety
      { (s.setSafety { s.safety with raised := [.sendDrop] }).safety with raised := [] } = s := by
    have same : s.safety = { s.safety with raised := [] } := by rw [← none]
    show s.setSafety { s.safety with raised := [] } = s
    rw [← same]; rfl
  have one : (s.raise .sendDrop).finish = ((s.takeReport .sendDrop).settle 127).publish := by
    rw [raise_of_calm calm, State.finish, closed, State.settled,
      settle_of_report (n := 127) (s := s.setSafety { s.safety with raised := [.sendDrop] }) synced rfl, popped]
  rw [one]
  by_cases taken : s.station = .loading ∨ s.alarmSet .sendDrop = true
  · rw [takeReport_of_taken taken, settle_of_calm 126 calm]
    exact ⟨s.safety, rfl⟩
  · simp only [not_or, Bool.not_eq_true] at taken
    have quiet : s.setAlarm .sendDrop = s.withAlarm .sendDrop := by
      have out : Alarm.sendDrop.within s.cfg.reportMask = false := by rw [notice]; rfl
      simp [State.setAlarm, out, State.withAlarm]
    have report := (harmless_of_calm calm drop).report drop
    rw [takeReport_of_harmless taken.1 taken.2 drop, quiet] at report ⊢
    have still : (s.withAlarm .sendDrop).calm = true :=
      (calm_iff _).2 ⟨none, within, synced, by simp [State.holdStale, report.held], by simp [State.holdStale, report.held]⟩
    rw [settle_of_calm 126 still]
    exact ⟨_, rfl⟩

/-! ## The announcement -/

theorem quiet_setCounter (s : State) (n : Nat) : (s.setPeer { s.peer with counter := n }).quiet = s.quiet := by
  rw [Bool.eq_iff_iff]
  simp only [State.quiet, Bool.and_eq_true, calm_iff, published_iff]
  exact Iff.rfl

/-- A write to the send queue and to the announce down-counter ends the command. -/
theorem finish_queue_counter {s : State} (awake : s.awake = true) {x : LineUnit} {n : Nat}
    (allstop : x.allstop = s.line.allstop) (estop : x.estop = s.line.estop) (o : List Owed) :
    (((s.setOwed o).setPeer { s.peer with counter := n }).setLine x).finish =
      ((s.setOwed o).setPeer { s.peer with counter := n }).setLine x :=
  finish_of_quiet ((quiet_congr (s := s.setPeer { s.peer with counter := n })
    (t := ((s.setOwed o).setPeer { s.peer with counter := n }).setLine x)
    rfl rfl rfl rfl rfl rfl rfl rfl rfl rfl allstop estop).trans ((quiet_setCounter s n).trans (quiet_of_awake awake)))

theorem announceRequest_of_none {s : State} (sends : s.sends = true) (none : ∀ f ∈ s.line.queue, f.cls ≠ annCls) :
    s.announceRequest = (s.setPeer { s.peer with counter := s.cfg.interval }).offer announceFrame := by
  have find : (s.line.queue.find? fun f => f.cls == annCls) = .none := List.find?_eq_none.2 fun f hf => by simpa using none f hf
  simp [State.announceRequest, sends, find]

theorem announceRequest_of_some {s : State} {f : SendFrame} (sends : s.sends = true)
    (found : (s.line.queue.find? fun f => f.cls == annCls) = some f) : s.announceRequest =
      if f.onLine && (s.line.own == .sending || s.line.own == .slot) then
        (s.setPeer { s.peer with counter := s.cfg.interval }).setLine { s.line with refresh := true }
      else s.setPeer { s.peer with counter := s.cfg.interval } := by
  simp [State.announceRequest, sends, found]

/-! ## BEACON_OFFER and ANNOUNCE_EXPIRY -/

theorem beaconOffer_answers {s : State} (running : s.inReset = false) (owed : Owed.beaconOffer ∈ s.owed)
    (before : Owed.silenceTimerExpiry ∉ s.owed) :
    exec .beaconOffer s = .next (s.disown .beaconOffer).offerBeacon.finish :=
  event_of_due running (by simpa using ⟨owed, before⟩) _

theorem announceExpiry_answers {s : State} (running : s.inReset = false) (owed : Owed.announceExpiry ∈ s.owed)
    (sends : s.sends = true) (last : s.peer.counter ≤ 1) :
    exec .announceExpiry s = .next (s.disown .announceExpiry).announceRequest.finish := by
  have step : (s.disown .announceExpiry).announceCountStep = (s.disown .announceExpiry).announceRequest := by
    have low : ¬1 < (s.disown .announceExpiry).peer.counter := Nat.not_lt.2 last
    have sends : (s.disown .announceExpiry).sends = true := sends
    simp only [State.announceCountStep, sends, low, if_false, Bool.not_true, Bool.false_eq_true]
  exact (event_of_due running (by simpa using owed) _).trans (by rw [step])

theorem offerBeacon_of_none {s : State} (keeper : s.time.engine = .timekeeper) (none : ∀ f ∈ s.line.queue, f.cls ≠ 2) :
    s.offerBeacon = s.offer beaconFrame := by
  have out : (s.line.queue.any fun f => f.cls == beaconCls) = false := by
    simpa [beaconCls] using fun f hf => none f hf
  simp [State.offerBeacon, keeper, out]

/-- Settles O22: what joins the send queue, what it displaces there, and what an ANNOUNCE that is already queued takes in. -/
theorem beaconAndAnnounceJoinTheQueue : Obligations.BeaconAndAnnounceJoinTheQueue := by
  intro s awake
  have running := running_of_awake awake
  constructor
  · intro owed before keeper
    have answers := beaconOffer_answers running owed before
    refine ⟨fun none room => ?_, fun some => ?_, fun none full sends notice drop => ⟨?_, ?_⟩⟩
    · have effect : (s.disown .beaconOffer).offerBeacon = (s.disown .beaconOffer).withFrame beaconFrame :=
        (offerBeacon_of_none (s := s.disown .beaconOffer) keeper none).trans (offer_of_room (n := 0) (s := s.disown .beaconOffer) room _)
      have ends : ((s.disown .beaconOffer).withFrame beaconFrame).finish = (s.disown .beaconOffer).withFrame beaconFrame :=
        finish_same awake rfl rfl rfl rfl rfl rfl rfl rfl rfl rfl rfl rfl
      exact ⟨(s.disown .beaconOffer).withFrame beaconFrame, answers.trans (by rw [effect, ends]), rfl, rfl, rfl, rfl⟩
    · have effect : (s.disown .beaconOffer).offerBeacon = s.disown .beaconOffer := by
        have has : ((s.disown .beaconOffer).line.queue.any fun f => f.cls == beaconCls) = true := by
          simpa [beaconCls] using some
        rw [State.offerBeacon, has]; simp
      have ends : (s.disown .beaconOffer).finish = s.disown .beaconOffer :=
        finish_same awake rfl rfl rfl rfl rfl rfl rfl rfl rfl rfl rfl rfl
      exact ⟨s.disown .beaconOffer, answers.trans (by rw [effect, ends]), rfl, rfl, rfl⟩
    all_goals
      have effect := offerBeacon_of_none (s := s.disown .beaconOffer) keeper none
      have dropped {q : List SendFrame} (joined : joinQueue s.line.queue beaconFrame = (q, true)) :
          ∃ t, exec .beaconOffer s = .next t ∧ t.alarmSet .sendDrop = true ∧ t.line.queue = q ∧ t.motion = s.motion := by
        have step : (s.disown .beaconOffer).offerBeacon =
            ((s.disown .beaconOffer).setLine { s.line with queue := q }).raise .sendDrop :=
          effect.trans (offer_of_joined (s := s.disown .beaconOffer) sends joined)
        generalize e : (s.disown .beaconOffer).setLine { s.line with queue := q } = v at step
        have quiet : v.quiet = true := by
          rw [← e]
          exact (quiet_congr (s := s) (t := (s.disown .beaconOffer).setLine { s.line with queue := q }) rfl rfl
            rfl rfl rfl rfl rfl rfl rfl rfl rfl rfl).trans (quiet_of_awake awake)
        have calm : v.calm = true := by simp only [State.quiet, Bool.and_eq_true] at quiet; exact quiet.1
        have queue : v.line.queue = q ∧ v.motion = s.motion ∧ v.station = s.station ∧ v.cfg = s.cfg := by
          rw [← e]; exact ⟨rfl, rfl, rfl, rfl⟩
        obtain ⟨queue, motion, station, cfg⟩ := queue
        obtain ⟨x, settled⟩ := sendDrop_settled calm (by rw [cfg]; exact notice)
          (fun ax => by rw [State.axisCfg, cfg]; exact drop ax)
        refine ⟨_, answers.trans (by rw [step]), ?_, ?_, ?_⟩
        · refine alarmSet_finish ?_ (mem_raise _ _) ?_
          · rw [State.station, raise_loader]
            intro loading
            have : s.station = .loading := station ▸ loading
            simp [State.sends, this] at sends
          · have := weight_raise v .sendDrop; have := weight_of_calm calm; omega
        · rw [settled, publish_line]; exact queue
        · rw [settled, publish_motion]; exact motion
    · intro before f after split waits larger older newer
      have nine : ¬(before ++ f :: after).length < 8 := by rw [← split, full]; omega
      obtain ⟨t, step, set, queue, motion⟩ := dropped (by
        rw [split]; exact joinQueue_of_full_displaced (f := beaconFrame) nine waits larger older newer)
      exact ⟨t, step, set, motion, queue⟩
    · intro small
      obtain ⟨t, step, set, queue, motion⟩ := dropped (joinQueue_of_full_kept (f := beaconFrame) (by omega) small)
      exact ⟨t, step, set, queue, motion⟩
  · intro owed last
    refine ⟨fun none room => ?_, fun f found sends => ⟨fun takesIn => ?_, fun on past => ?_⟩⟩
    · have sends : s.sends = true := by simp only [State.room, Bool.and_eq_true] at room; exact room.1
      have effect : (s.disown .announceExpiry).announceRequest =
          ((s.setOwed (s.owed.erase .announceExpiry)).setPeer { s.peer with counter := s.cfg.interval }).setLine
            { s.line with queue := s.line.queue ++ [announceFrame] } :=
        (announceRequest_of_none (s := s.disown .announceExpiry) sends none).trans
          (offer_of_room (n := 0) (s := (s.disown .announceExpiry).setPeer { s.peer with counter := s.cfg.interval }) room _)
      have answers := announceExpiry_answers running owed sends last
      rw [effect, finish_queue_counter awake (by rfl) (by rfl)] at answers
      exact ⟨_, answers, rfl, rfl, rfl, rfl, rfl⟩
    · have keep : (f.onLine && (s.line.own == .sending || s.line.own == .slot)) = false := by
        rcases takesIn with h | h <;> simp [h]
      have effect : (s.disown .announceExpiry).announceRequest =
          ((s.setOwed (s.owed.erase .announceExpiry)).setPeer { s.peer with counter := s.cfg.interval }).setLine s.line :=
        (announceRequest_of_some (s := s.disown .announceExpiry) sends found).trans (by
          show (if (f.onLine && (s.line.own == .sending || s.line.own == .slot)) = true then _ else _) = _
          rw [keep]; rfl)
      have answers := announceExpiry_answers running owed sends last
      rw [effect, finish_queue_counter awake (by rfl) (by rfl)] at answers
      exact ⟨_, answers, rfl, rfl, rfl⟩
    · have marks : (f.onLine && (s.line.own == .sending || s.line.own == .slot)) = true := by
        rcases past with h | h <;> simp [h, on]
      have effect : (s.disown .announceExpiry).announceRequest =
          ((s.setOwed (s.owed.erase .announceExpiry)).setPeer { s.peer with counter := s.cfg.interval }).setLine
            { s.line with refresh := true } :=
        (announceRequest_of_some (s := s.disown .announceExpiry) sends found).trans (by
          show (if (f.onLine && (s.line.own == .sending || s.line.own == .slot)) = true then _ else _) = _
          rw [marks]; rfl)
      have answers := announceExpiry_answers running owed sends last
      rw [effect, finish_queue_counter awake (by rfl) (by rfl)] at answers
      exact ⟨_, answers, rfl, rfl, rfl⟩

end Sys2Proof.Machine
end

section
/-! PROOFS. The ends of a boundary's counts: the run's step, the blanking and the hold-off. -/

namespace Sys2Proof.Machine

/-! ## What a state announces -/

/-- The content depends on the axes by their states alone. -/
theorem contentNow_of_states {s t : State} (pins : t.pins = s.pins) (cfg : t.cfg = s.cfg) (cmd : t.cmd = s.cmd)
    (sense : ∀ c : Fin 4, (t.sense[c]).flag = (s.sense[c]).flag) (states : ∀ ax, (t.axis ax).state = (s.axis ax).state)
    (time : t.time = s.time) (estop : t.line.estop = s.line.estop) : t.contentNow = s.contentNow := by
  have axesCfg : ∀ ax, t.axisCfg ax = s.axisCfg ax := by intro ax; simp [State.axisCfg, cfg]
  have switches : ∀ ax d, t.switchRead ax d = s.switchRead ax d := by
    intro ax d; cases ax <;> cases d <;> simp [State.switchRead, State.switchPin, axesCfg, pins]
  have flags : t.flagValue = s.flagValue := by
    funext f; cases f <;> simp [State.flagValue, cmd, switches, states, estop]
    exact sense _
  have demand : t.demandNow = s.demandNow := by simp [State.demandNow, State.axisDemand, states, axesCfg]
  have stateA : t.motion.a.state = s.motion.a.state := states .A
  have stateB : t.motion.b.state = s.motion.b.state := states .B
  simp [State.contentNow, State.flagsNow, flags, cfg, demand, stateA, stateB, time]

theorem setAxis_quiet {s : State} {ax : Axis} {r : AxisRecord} (state : r.state = (s.axis ax).state) (h : s.quiet = true) :
    (s.setAxis ax r).quiet = true := by
  have states (x : Axis) : ((s.setAxis ax r).axis x).state = (s.axis x).state := by
    rw [setAxis_axis_eq]; split
    · next e => rw [e, state]
    · rfl
  have content : (s.setAxis ax r).contentNow = s.contentNow :=
    contentNow_of_states (by simp) (by simp) (by simp) (by simp) states (by simp) (by simp)
  have demand : (s.setAxis ax r).demandNow = s.demandNow := congrArg Content.demand content
  have holds (x : Axis) : (s.setAxis ax r).holdStale x = s.holdStale x := by
    have now : (s.setAxis ax r).heldNow x = s.heldNow x := by
      simp [State.heldNow, State.causes, State.alarmCounts, State.alarmSet, State.axisCfg]
    simp [State.holdStale, State.holdOn, now]
  have shed : (s.setAxis ax r).shedNow = s.shedNow := by simp [State.shedNow, demand]
  simp only [State.quiet, Bool.and_eq_true, calm_iff, published_iff, content, holds, shed, State.setAxis_safety,
    State.setAxis_peer, State.setAxis_light] at h ⊢
  exact h

/-! ## A hold that is kept -/

/-- The axis is held by a cause that lasts, or its hold is not reported as ended yet (R181). -/
def State.keptHeld (s : State) (ax : Axis) : Prop :=
  s.firmlyHeld ax ∨ s.safety.within = true ∧ (s.axisSafety ax).held = true

theorem holdOn_of_kept {s : State} {ax : Axis} (h : s.keptHeld ax) : s.holdOn ax = true := by
  rcases h with firm | ⟨within, held⟩
  · exact holdOn_of_firm firm
  · simp [State.holdOn, within, held]

/-- An axis in HELD whose hold is kept stays as it is, and its hold stays kept. -/
def Stays (ax : Axis) (s t : State) : Prop :=
  s.keptHeld ax → (s.axis ax).state = .held → t.keptHeld ax ∧ t.axis ax = s.axis ax

theorem Stays.refl (ax : Axis) (s : State) : Stays ax s s := fun kept _ => ⟨kept, rfl⟩

theorem Stays.trans {ax : Axis} {s t u : State} (h : Stays ax s t) (k : Stays ax t u) : Stays ax s u := fun kept st => by
  obtain ⟨keptT, same⟩ := h kept st
  obtain ⟨keptU, last⟩ := k keptT (by rw [same]; exact st)
  exact ⟨keptU, last.trans same⟩

theorem Trails.stays {s t : State} {ax : Axis} (h : Trails s t) (safety : t.axisSafety ax = s.axisSafety ax)
    (axis : (s.axis ax).state = .held → t.axis ax = s.axis ax) : Stays ax s t := fun kept st =>
  ⟨kept.imp h.firm fun ⟨within, held⟩ => ⟨h.within.trans within, by rw [safety]; exact held⟩, axis st⟩

theorem followHold_held (s : State) (ax : Axis) : ((s.followHold ax).axisSafety ax).held = s.holdOn ax := by
  have write : ((s.setAxisSafety ax { s.axisSafety ax with held := s.holdOn ax }).axisSafety ax).held = s.holdOn ax := by simp
  unfold State.followHold; dsimp only; split
  · next same => exact same
  · split
    · rw [(prompts_enter _ _ _).axisSafety]; exact write
    · rw [(prompts_enter _ _ _).axisSafety]; exact write
    · exact write

theorem stays_followHold (s : State) (ax x : Axis) : Stays ax s (s.followHold x) := fun kept st => by
  have trails := trails_followHold s x
  by_cases e : ax = x
  · subst e
    have on := holdOn_of_kept kept
    refine ⟨kept.imp trails.firm fun ⟨within, _⟩ => ⟨trails.within.trans within, (followHold_held s ax).trans on⟩, ?_⟩
    simp [followHold_axis_self, on, st]
  · exact trails.stays (followHold_axisSafety_ne s e) (fun _ => followHold_axis_ne s e) kept st

theorem seal_held (s : State) (ax : Axis) (h : s.keptHeld ax) : s.seal.keptHeld ax := by
  have trails := trails_seal s
  refine h.imp trails.firm fun ⟨within, held⟩ => ⟨trails.within.trans within, ?_⟩
  cases ax
  · show (State.holdOn _ .A) = true
    have w : s.safety.within = true := within
    have a : s.safety.a.held = true := held
    simp [State.holdOn, State.axisSafety, w, a]
  · show (State.holdOn _ .B) = true
    have w : s.safety.within = true := within
    have b : s.safety.b.held = true := held
    simp [State.holdOn, State.axisSafety, w, b]

theorem stays_syncContent (s : State) (ax : Axis) : Stays ax s s.syncContent :=
  (trails_syncContent s).stays ((prompts_syncContent s).axisSafety ax) fun _ => syncContent_axis s ax

theorem stays_takeReport (s : State) (a : Alarm) (ax : Axis) : Stays ax s (s.takeReport a) :=
  (trails_takeReport s a).stays (takeReport_axisSafety s a ax) fun st =>
    takeReport_axis_of_not_moves s a (by rw [st]; rfl)

theorem stays_setRaised (s : State) (l : List Alarm) (ax : Axis) : Stays ax s (s.setSafety { s.safety with raised := l }) :=
  (trails_setRaised s l).stays (by cases ax <;> rfl) fun _ => rfl

theorem stays_settle (n : Nat) (s : State) (ax : Axis) : Stays ax s (s.settle n) := by
  induction n generalizing s with
  | zero => exact fun kept _ => ⟨seal_held s ax kept, rfl⟩
  | succ n ih =>
    unfold State.settle; dsimp only; split
    · exact (stays_syncContent s ax).trans ((stays_setRaised _ _ ax).trans ((stays_takeReport _ _ ax).trans (ih _)))
    · split
      · exact (stays_syncContent s ax).trans ((stays_followHold _ ax .A).trans ((stays_followHold _ ax .B).trans (ih _)))
      · exact stays_syncContent s ax

theorem raise_keptHeld {s : State} {ax : Axis} (a : Alarm) (h : s.keptHeld ax) : (s.raise a).keptHeld ax :=
  h.imp (trails_raise s a).firm fun ⟨within, held⟩ =>
    ⟨(trails_raise s a).within.trans within, by rw [(alike_raise s a).safety]; exact held⟩

theorem stays_applyRow (s : State) (row : TriggerRow) (reason : StopReason) (ax : Axis) : Stays ax s (s.applyRow row reason) := by
  have relit := relit_applyRow s row reason
  have rows : Stays ax s (s.rowStops row reason) :=
    (trails_rowStops s row reason).stays ((prompts_rowStops s row reason).axisSafety ax) fun st => by
      by_cases stop : row.axisAction = .stopRamp
      · obtain ⟨x, -, same, order⟩ := rowStops_axis (s := s) reason stop ax
        rw [order, stopMoving_of_not_moves reason (by rw [same, st]; rfl), same]
      · rw [State.rowStops, if_neg stop]
  refine rows.trans fun kept st => ⟨kept.imp relit.firm fun ⟨within, held⟩ => ?_, axis_of_motion relit.motion ax⟩
  rw [relit.safety, axisSafety_of_safety relit.safety]; exact ⟨within, held⟩

theorem lineStopAxis_of_held {s : State} {ax : Axis} (action : AxisAction) (h : (s.axis ax).state = .held) :
    s.lineStopAxis action ax = s := by simp [State.lineStopAxis, h]

theorem lineStop_axis_of_held {s : State} {ax : Axis} (h : (s.axis ax).state = .held) : s.lineStop.axis ax = s.axis ax := by
  obtain ⟨x, -, same, order⟩ := lineStop_axis s ax
  rw [order, lineStopAxis_of_held _ (by rw [same]; exact h), same]

/-- An emergency stop leaves an axis in HELD as it is (R157). -/
theorem assertEstop_axis_of_held {s : State} {ax : Axis} (h : (s.axis ax).state = .held) : s.assertEstop.axis ax = s.axis ax := by
  cases e : s.line.estop
  · rw [assertEstop_of_released e, lineStop_axis_of_held (by rw [axis_of_motion (underEstop_motion s)]; exact h)]
    exact axis_of_motion (underEstop_motion s) ax
  · rw [assertEstop_of_asserted e]; rfl

theorem assertEstop_firm (s : State) (ax : Axis) : s.assertEstop.firmlyHeld ax := .inr (.inl (assertEstop_line s).1)

/-! ## The end of a command, for an axis in HELD -/

theorem finish_of_firm {s : State} {ax : Axis} (firm : s.firmlyHeld ax) (st : (s.axis ax).state = .held) :
    s.finish.axis ax = s.axis ax ∧ s.finish.firmlyHeld ax :=
  ⟨(rests_finish s).held ax firm st, (rests_finish s).firm ax firm⟩

/-- Nothing waits that could be reported, and an announcement finds room or one that waits (R20, R21). -/
def State.roomy (s : State) : Prop :=
  s.sends = true → s.line.queue.length < 8 ∨ ∃ f, (s.line.queue.find? fun f => f.cls == annCls) = some f

theorem find_announceFrame (q : List SendFrame) : ∃ f, ((q ++ [announceFrame]).find? fun f => f.cls == annCls) = some f := by
  rw [← Option.isSome_iff_exists, List.find?_isSome]
  exact ⟨announceFrame, by simp, rfl⟩

theorem announceRequest_of_roomy {s : State} (h : s.roomy) : s.announceRequest.safety = s.safety ∧ s.announceRequest.roomy := by
  by_cases sends : s.sends = true
  · have sendsAfter (t : State) (loader : t.loader = s.loader) : t.sends = true := by
      simpa [State.sends, State.station, loader] using sends
    cases found : s.line.queue.find? fun f => f.cls == annCls with
    | some f =>
      rw [announceRequest_of_some sends found]
      split
      · exact ⟨rfl, fun _ => .inr ⟨f, found⟩⟩
      · exact ⟨rfl, fun _ => .inr ⟨f, found⟩⟩
    | none =>
      have none : ∀ f ∈ s.line.queue, f.cls ≠ annCls := fun f hf => by simpa using List.find?_eq_none.1 found f hf
      have short := (h sends).resolve_right (by rintro ⟨f, hf⟩; rw [found] at hf; cases hf)
      rw [announceRequest_of_none sends none,
        offer_of_short_queue (s := s.setPeer { s.peer with counter := s.cfg.interval }) announceFrame sends short]
      exact ⟨rfl, fun _ => .inr (find_announceFrame s.line.queue)⟩
  · have same : s.announceRequest = s := by simp [State.announceRequest, sends]
    rw [same]; exact ⟨rfl, h⟩

theorem announceRequests_of_roomy {n : Nat} {s : State} (h : s.roomy) :
    (State.announceRequests n s).safety = s.safety ∧ (State.announceRequests n s).roomy := by
  induction n generalizing s with
  | zero => exact ⟨rfl, h⟩
  | succ n ih =>
    obtain ⟨safety, roomy⟩ := announceRequest_of_roomy h
    obtain ⟨last, after⟩ := ih roomy
    exact ⟨last.trans safety, after⟩

theorem syncContent_of_roomy {s : State} (h : s.roomy) : s.syncContent.safety = s.safety ∧ s.syncContent.roomy := by
  unfold State.syncContent; split
  · exact ⟨rfl, h⟩
  · exact announceRequests_of_roomy (s := s.setPeer { s.peer with content := s.contentNow }) h

theorem enter_of_roomy {s : State} (h : s.roomy) (ax : Axis) (st : AxisState) :
    (s.enter ax st).safety = s.safety ∧ (s.enter ax st).roomy := by
  have start {u : State} (loader : u.loader = s.loader) (line : u.line = s.line) (safety : u.safety = s.safety) :
      u.syncContent.safety = s.safety ∧ u.syncContent.roomy := by
    have roomy : u.roomy := by rw [State.roomy, State.sends, State.station, loader, line]; exact h
    obtain ⟨same, after⟩ := syncContent_of_roomy roomy
    exact ⟨same.trans safety, after⟩
  unfold State.enter; dsimp only; split
  · exact ⟨rfl, h⟩
  · split
    · exact start (by simp [State.clearObstruction]) (by simp [State.clearObstruction]) (by simp [State.clearObstruction])
    · exact start (by simp) (by simp) (by simp)

/-- A hold that is followed changes of the Safety Unit what is reported of it, where an announcement finds room. -/
theorem followHold_of_roomy {s : State} (h : s.roomy) (ax : Axis) :
    (s.followHold ax).safety = (s.setAxisSafety ax { s.axisSafety ax with held := s.holdOn ax }).safety ∧
      (s.followHold ax).roomy := by
  have roomy : (s.setAxisSafety ax { s.axisSafety ax with held := s.holdOn ax }).roomy := by
    simpa [State.roomy, State.sends, State.station] using h
  unfold State.followHold; dsimp only; split
  · next same =>
    refine ⟨?_, h⟩
    rw [← same]
    cases ax <;> rfl
  · split
    · exact enter_of_roomy roomy ax _
    · exact enter_of_roomy roomy ax _
    · exact ⟨rfl, roomy⟩

/-- Nothing is left to take but an announcement, which finds room. -/
structure Nearly (s : State) : Prop where
  raised : s.safety.raised = []
  roomy : s.roomy
  held : ∀ ax, (s.axisSafety ax).held = s.holdOn ax

theorem holdOn_congr {s t : State} (cfg : t.cfg = s.cfg) (safety : t.safety = s.safety) (allstop : t.line.allstop = s.line.allstop)
    (estop : t.line.estop = s.line.estop) (ax : Axis) : t.holdOn ax = s.holdOn ax := by
  have now : t.heldNow ax = s.heldNow ax := by
    simp [State.heldNow, State.causes, State.alarmCounts, State.alarmSet, State.axisCfg, cfg, safety, allstop, estop]
  cases ax <;> simp [State.holdOn, State.axisSafety, now, safety]

theorem Nearly.settle {s : State} (h : Nearly s) (n : Nat) : s.settle (n + 1) = s.syncContent := by
  obtain ⟨safety, -⟩ := syncContent_of_roomy h.roomy
  have trails := trails_syncContent s
  have raised : s.syncContent.safety.raised = [] := by rw [safety]; exact h.raised
  have fits (ax : Axis) : s.syncContent.holdStale ax = false := by
    have on := holdOn_congr trails.cfg safety (by rw [trails.line]) (by rw [trails.line]) ax
    simp [State.holdStale, on, axisSafety_of_safety safety, h.held]
  unfold State.settle
  simp only [raised, fits, Bool.or_self, Bool.false_eq_true, if_false]

end Sys2Proof.Machine
end

section
/-! PROOFS. The end of the hold-off with what else its boundary brings. -/

namespace Sys2Proof.Machine

/-! ## A hold that ends -/

theorem firm_of_no_reports {s : State} {ax : Axis} (none : s.safety.raised = []) (h : s.heldNow ax = true) : s.firmlyHeld ax := by
  refine ((heldNow_iff s ax).1 h).imp_right (.imp_right (.imp_right fun ⟨a, w, counts⟩ => ⟨a, w, ?_⟩))
  simpa [State.alarmCounts, none] using counts

/-- What follows both holds: axis A before axis B. -/
def State.followHolds (s : State) : State := (s.followHold .A).followHold .B

theorem followHold_of_fit {s : State} {ax : Axis} (h : s.holdStale ax = false) : s.followHold ax = s := by
  have same : (s.axisSafety ax).held = s.holdOn ax := by simpa [State.holdStale] using h
  simp [State.followHold, same]

theorem heldNow_congr {s t : State} (cfg : t.cfg = s.cfg) (alarms : t.safety.alarms = s.safety.alarms)
    (raised : t.safety.raised = s.safety.raised) (holdOff : t.safety.holdOff = s.safety.holdOff)
    (allstop : t.line.allstop = s.line.allstop) (estop : t.line.estop = s.line.estop) (ax : Axis) : t.heldNow ax = s.heldNow ax := by
  simp [State.heldNow, State.causes, State.alarmCounts, State.alarmSet, State.axisCfg, cfg, alarms, raised, holdOff, allstop, estop]

theorem holdOn_of_not_within {s : State} (h : s.safety.within = false) (ax : Axis) : s.holdOn ax = s.heldNow ax := by
  simp [State.holdOn, h]

/-- A state in which nothing waits but the holds' changes. -/
structure Open (s : State) : Prop where
  raised : s.safety.raised = []
  within : s.safety.within = false
  roomy : s.roomy

theorem Open.followHold {s : State} (h : Open s) (ax : Axis) : Open (s.followHold ax) ∧
    (s.followHold ax).safety.alarms = s.safety.alarms ∧ (s.followHold ax).safety.count = s.safety.count ∧
    ∀ x, (s.followHold ax).heldNow x = s.heldNow x := by
  obtain ⟨safety, roomy⟩ := followHold_of_roomy h.roomy ax
  have trails := trails_followHold s ax
  have parts : (s.followHold ax).safety.raised = [] ∧ (s.followHold ax).safety.within = false ∧
      (s.followHold ax).safety.alarms = s.safety.alarms ∧ (s.followHold ax).safety.count = s.safety.count := by
    rw [safety]; cases ax <;> exact ⟨h.raised, h.within, rfl, rfl⟩
  obtain ⟨raised, within, alarms, count⟩ := parts
  exact ⟨⟨raised, within, roomy⟩, alarms, count, heldNow_congr trails.cfg alarms (raised.trans h.raised.symm) trails.holdOff
    (by rw [trails.line]) (by rw [trails.line])⟩

theorem Open.followHolds {s : State} (h : Open s) : Nearly s.followHolds ∧
    s.followHolds.safety.alarms = s.safety.alarms ∧ s.followHolds.safety.count = s.safety.count := by
  obtain ⟨first, alarms, count, held⟩ := h.followHold .A
  obtain ⟨second, alarmsB, countB, heldB⟩ := first.followHold .B
  have fitA : (s.followHold .A).holdOn .A = s.holdOn .A := by
    rw [holdOn_of_not_within first.within, holdOn_of_not_within h.within, held]
  have fit (ax : Axis) : (s.followHolds.axisSafety ax).held = s.followHolds.holdOn ax := by
    have now : s.followHolds.holdOn ax = (s.followHold .A).holdOn ax := by
      rw [State.followHolds, holdOn_of_not_within second.within, holdOn_of_not_within first.within, heldB]
    rw [now]
    cases ax with
    | A =>
      have same : s.followHolds.axisSafety .A = (s.followHold .A).axisSafety .A := followHold_axisSafety_ne _ (by decide)
      rw [same, followHold_held, fitA]
    | B => exact followHold_held _ .B
  exact ⟨⟨second.raised, second.roomy, fit⟩, alarmsB.trans alarms, countB.trans count⟩

/-- With nothing else to take the holds are followed, and the announcement that this asks for is taken. -/
theorem Open.settle {s : State} (h : Open s) (synced : s.synced) (n : Nat) : s.settle (n + 2) = s.followHolds.syncContent := by
  have same := syncContent_of_synced synced
  obtain ⟨nearly, -⟩ := h.followHolds
  by_cases stale : (s.holdStale .A || s.holdStale .B) = true
  · have step : s.settle (n + 2) = s.followHolds.settle (n + 1) := by
      conv_lhs => unfold State.settle
      simp only [same, h.raised, stale, if_true]; rfl
    rw [step, nearly.settle]
  · simp only [Bool.or_eq_true, not_or, Bool.not_eq_true] at stale
    have stays : s.followHolds = s := by
      rw [State.followHolds, followHold_of_fit stale.1, followHold_of_fit stale.2]
    rw [stays, same, settle_of_calm (n + 1) ((calm_iff s).2 ⟨h.raised, h.within, synced, stale.1, stale.2⟩)]

theorem Open.finish {s : State} (h : Open s) (synced : s.synced) : s.finish = s.followHolds.syncContent.publish := by
  have shut : s.setWithin false = s := by
    have same : s.safety = { s.safety with within := false } := by rw [← h.within]
    rw [State.setWithin, ← same]; rfl
  rw [State.finish, shut, State.settled, h.settle synced]

theorem Open.followHolds_axis {s : State} (h : Open s) (ax : Axis) : s.followHolds.axis ax =
    if (s.axisSafety ax).held = s.heldNow ax then s.axis ax
    else if (s.axis ax).state = .stopped ∧ s.heldNow ax = true then
      { s.axis ax with state := .held, token := (s.axis ax).token + 1 }
    else if (s.axis ax).state = .held ∧ s.heldNow ax = false then
      { s.axis ax with state := .stopped, token := (s.axis ax).token + 1 }
    else s.axis ax := by
  have on := holdOn_of_not_within h.within ax
  cases ax with
  | A => rw [State.followHolds, followHold_axis_ne _ (by decide), followHold_axis_self, on]
  | B =>
    obtain ⟨first, -, -, held⟩ := h.followHold .A
    have same : (s.followHold .A).axis .B = s.axis .B := followHold_axis_ne _ (by decide)
    rw [State.followHolds, followHold_axis_self, holdOn_of_not_within first.within, held, same,
      followHold_axisSafety_ne _ (by decide)]

/-! ## The hold-off's last step -/

/-- The hold-off after its step, with its end no longer owed (R170). -/
def State.offStepped (s : State) : State := (s.disown .holdOffEnd).holdOffStep

theorem endHoldOff_of_not_reached {s : State} (h : s.allstopReached = false) : s.endHoldOff = s.offStepped := by
  have same : s.offStepped.allstopReached = s.allstopReached := rfl
  show (if s.offStepped.allstopReached then s.offStepped.enterAllstop else s.offStepped) = _
  rw [same, h]; rfl

theorem endHoldOff_of_reached {s : State} (h : s.allstopReached = true) : s.endHoldOff = s.offStepped.enterAllstop := by
  have same : s.offStepped.allstopReached = s.allstopReached := rfl
  show (if s.offStepped.allstopReached then s.offStepped.enterAllstop else s.offStepped) = _
  rw [same, h]; rfl

theorem holdOffEnd_answers {s : State} (running : s.inReset = false) (owed : Owed.holdOffEnd ∈ s.owed) :
    exec .holdOffEnd s = .next s.endHoldOff.foresee.oneInstant.finish :=
  event_of_due running (by simpa using owed) _

theorem setWithin_axisHeldAgain (s : State) (b : Bool) (ax : Axis) : (s.setWithin b).axisHeldAgain ax = s.axisHeldAgain ax := by
  cases ax <;> rfl

theorem not_heldAgain_of_heldNow {s : State} {ax : Axis} (h : s.heldNow ax = true) : s.axisHeldAgain ax = false := by
  simp [State.axisHeldAgain, h]

theorem not_heldAgain_of_firm {s : State} (h : ∀ ax, s.firmlyHeld ax) : s.heldAgain = false := by
  simp [State.heldAgain, not_heldAgain_of_heldNow (heldNow_of_firm (h _))]

/-- An emergency stop that is shown is what holds the axis again (R18, R181). -/
theorem oneInstant_of_shown {s : State} (reached : s.allstopReached = false) (shown : s.estopShown = true)
    (again : s.heldAgain = true) : s.foresee.oneInstant = (s.setWithin true).assertEstop := by
  have takes (ax : Axis) : (s.setWithin true).takeHolders ax =
      if s.axisHeldAgain ax then (s.setWithin true).assertEstop else s.setWithin true := by
    have reachedW : (s.setWithin true).allstopReached = false := reached
    have shownW : (s.setWithin true).estopShown = true := shown
    rw [State.takeHolders, setWithin_axisHeldAgain, reachedW, shownW]
    cases s.axisHeldAgain ax <;> rfl
  have done : (s.setWithin true).assertEstop.takeHolders .B = (s.setWithin true).assertEstop := by
    rw [State.takeHolders, not_heldAgain_of_heldNow (heldNow_of_firm (assertEstop_firm _ _))]; rfl
  have start : s.foresee.oneInstant = ((s.setWithin true).takeHolders .A).takeHolders .B := by
    rw [State.foresee, again]; rfl
  rw [start, takes .A]
  cases a : s.axisHeldAgain .A
  · have b : s.axisHeldAgain .B = true := by simpa [State.heldAgain, a] using again
    rw [if_neg (by simp), takes .B, b]; rfl
  · rw [if_pos rfl, done]

theorem assertEstop_holdOff (s : State) : s.assertEstop.safety.holdOff = s.safety.holdOff := by
  cases h : s.line.estop
  · rw [assertEstop_of_released h, (trails_lineStop _).holdOff]
    exact (alike_cutFrame s.sampleAsserted).holdOff
  · rw [assertEstop_of_asserted h]; rfl

/-- What a state that takes the end of the hold-off has done for an axis in HELD that is held on. -/
structure HeldOn (s w : State) (ax : Axis) : Prop where
  firm : w.firmlyHeld ax
  axis : w.axis ax = s.axis ax
  holdOff : w.safety.holdOff = 0
  inReset : w.inReset = s.inReset

theorem HeldOn.finish {s w : State} {ax : Axis} (h : HeldOn s w ax) (held : (s.axis ax).state = .held) :
    w.finish.safety.holdOff = 0 ∧ w.finish.axis ax = s.axis ax ∧ w.finish.heldNow ax = true ∧
      w.finish.inReset = s.inReset := by
  obtain ⟨same, firm⟩ := finish_of_firm h.firm (by rw [h.axis]; exact held)
  exact ⟨(finish_holdOff w).trans h.holdOff, same.trans h.axis, heldNow_of_firm firm, (keeps_finish w).inReset.trans h.inReset⟩

/-- A hold that lasts keeps the axis through the end of the hold-off, whatever else is shown. -/
theorem heldOn_of_firm {s : State} {ax : Axis} (held : (s.axis ax).state = .held) (zero : s.safety.holdOff = 0)
    (firm : s.firmlyHeld ax) (reached : s.allstopReached = false) (again : s.estopShown = false → s.heldAgain = false) :
    HeldOn s s.foresee.oneInstant ax := by
  cases h : s.heldAgain
  · rw [oneInstant_of_not_heldAgain h]; exact ⟨firm, rfl, zero, rfl⟩
  · have shown : s.estopShown = true := by
      by_contra off
      rw [again (by simpa using off)] at h; simp at h
    rw [oneInstant_of_shown reached shown h]
    exact ⟨assertEstop_firm _ ax, assertEstop_axis_of_held held, (assertEstop_holdOff _).trans zero, (assertEstop_kept _).2.2⟩

/-- An emergency stop that is shown keeps the axis in HELD through the end of the hold-off (R18, R181). -/
theorem heldOn_of_shown {s : State} {ax : Axis} (none : s.safety.raised = []) (held : (s.axis ax).state = .held)
    (reported : (s.axisSafety ax).held = true) (zero : s.safety.holdOff = 0) (reached : s.allstopReached = false)
    (shown : s.estopShown = true) : HeldOn s s.foresee.oneInstant ax := by
  cases h : s.heldAgain
  · have now : s.heldNow ax = true := by
      by_contra off
      have free : s.heldNow ax = false := by simpa using off
      have again : s.axisHeldAgain ax = true := by simp [State.axisHeldAgain, held, reported, free, shown]
      have : s.heldAgain = true := by cases ax <;> simp [State.heldAgain, again]
      rw [h] at this; simp at this
    rw [oneInstant_of_not_heldAgain h]; exact ⟨firm_of_no_reports none now, rfl, zero, rfl⟩
  · rw [oneInstant_of_shown reached shown h]
    exact ⟨assertEstop_firm _ ax, assertEstop_axis_of_held held, (assertEstop_holdOff _).trans zero, (assertEstop_kept _).2.2⟩

/-! ## SILENT at the same boundary -/

/-- SILENT_ENTRY as it is carried out within the end of the hold-off. -/
theorem carryTogether_silent {s : State} (owed : Owed.silentEntry ∈ s.owed) : s.carryTogether [.silentEntry] =
    ((((s.setWithin true).disown .silentEntry).silenceStep).settled).setWithin false := by
  have due : (s.setWithin true).owed.contains .silentEntry = true := by simpa [State.setWithin] using owed
  show ((s.setWithin true).carryOwed .silentEntry).setWithin false = _
  rw [State.carryOwed, due]; rfl

/-- Where no step of a slot is owed, nothing that is owed is taken away. -/
theorem Spares.owed_eq {s t : State} (h : Spares s t) (none : ∀ o ∈ s.owed, isSlotStep o = false) : t.owed = s.owed := by
  obtain ⟨sub, same⟩ := h.owed
  have all : s.owed.filter (fun o => !isSlotStep o) = s.owed :=
    List.filter_eq_self.2 fun o ho => by simp [none o ho]
  have whole : s.owed.Sublist t.owed := by rw [← all, ← same]; exact List.filter_sublist
  exact sub.antisymm whole

theorem silenceStep_raised {s : State} (station : s.station ≠ .loading) (last : s.line.silence + 1 = s.cfg.silentTime) :
    Alarm.silentSeen ∈ s.silenceStep.safety.raised ∧ s.silenceStep.weight ≤ s.weight + 1 := by
  have prompts := prompts_applyRow s.turnSilent s.cfg.trigger.silent .silent
  rw [silenceStep_of_last station last]
  exact ⟨prompts.keeps _ (turnSilent_reports s), prompts.weight.trans (turnSilent_weight s)⟩

theorem silenceStep_kept {s : State} (station : s.station ≠ .loading) (last : s.line.silence + 1 = s.cfg.silentTime) :
    Keeps s s.silenceStep ∧ s.silenceStep.safety.holdOff = s.safety.holdOff ∧
      s.silenceStep.line = { s.line with
        silence := s.cfg.silentTime, silent := true,
        queue := s.silenceStep.line.queue, refresh := s.silenceStep.line.refresh } := by
  have row := trails_rowStops s.turnSilent s.cfg.trigger.silent .silent
  have relit := relit_applyRow s.turnSilent s.cfg.trigger.silent .silent
  rw [silenceStep_of_last station last]
  refine ⟨(keeps_turnSilent s).trans (keeps_applyRow _ _ _), ?_, ?_⟩
  · rw [relit.safety, row.holdOff, (alike_turnSilent s).holdOff]
  · rw [applyRow_line, turnSilent_line]

theorem stays_silenceStep {s : State} {ax : Axis} (station : s.station ≠ .loading)
    (last : s.line.silence + 1 = s.cfg.silentTime) : Stays ax s s.silenceStep := by
  rw [silenceStep_of_last station last]
  refine Stays.trans (t := s.turnSilent) (fun kept st => ⟨?_, axis_of_motion (alike_turnSilent s).motion ax⟩) (stays_applyRow _ _ _ ax)
  exact raise_keptHeld _ (kept.imp (fun firm => firm) fun w => w)

theorem relit_owed {s t : State} (h : Relit s t) : t.owed = s.owed := by obtain ⟨_, _, rfl⟩ := h; rfl

theorem silenceStep_owed {s : State} (station : s.station ≠ .loading) (last : s.line.silence + 1 = s.cfg.silentTime)
    (none : ∀ o ∈ s.owed, isSlotStep o = false) : s.silenceStep.owed = s.owed := by
  have same : s.turnSilent.owed = s.owed := raise_owed _ _
  have row := trails_rowStops s.turnSilent s.cfg.trigger.silent .silent
  rw [silenceStep_of_last station last, relit_owed (relit_applyRow _ _ _), row.owed_eq (by rw [same]; exact none), same]

theorem silenceStep_within {s : State} (station : s.station ≠ .loading) (last : s.line.silence + 1 = s.cfg.silentTime) :
    s.silenceStep.safety.within = s.safety.within := by
  have row := trails_rowStops s.turnSilent s.cfg.trigger.silent .silent
  rw [silenceStep_of_last station last, (relit_applyRow _ _ _).safety, row.within]
  exact (trails_raise _ _).within

/-- What SILENT_ENTRY, carried out alone, leaves for an axis in HELD whose hold is kept (R181). -/
structure Silenced (ax : Axis) (s c : State) : Prop where
  mask : Alarm.silentSeen.within (c.axisCfg ax).holdMask = true
  alarm : c.alarmSet .silentSeen = true
  axis : c.axis ax = s.axis ax
  holdOff : c.safety.holdOff = s.safety.holdOff
  owed : c.owed = s.owed.erase .silentEntry
  reached : c.allstopReached = s.allstopReached
  shown : c.estopShown = s.estopShown
  inReset : c.inReset = s.inReset

theorem Silenced.firm {ax : Axis} {s c : State} (h : Silenced ax s c) : c.firmlyHeld ax :=
  .inr (.inr (.inr ⟨.silentSeen, h.mask, h.alarm⟩))

theorem setWithin_firm {s : State} {ax : Axis} {b : Bool} : (s.setWithin b).firmlyHeld ax ↔ s.firmlyHeld ax := Iff.rfl

/-- What is settled after SILENT_ENTRY's step. -/
theorem silenced_settled {s : State} {ax : Axis} (n : Nat) (enough : 69 + (s.weight + 1) ≤ n) (station : s.station ≠ .loading)
    (last : s.line.silence + 1 = s.cfg.silentTime) (held : (s.axis ax).state = .held) (kept : s.keptHeld ax)
    (mask : Alarm.silentSeen.within (s.axisCfg ax).holdMask = true)
    (none : ∀ o ∈ s.owed.erase .silentEntry, isSlotStep o = false) :
    Silenced ax s (((s.disown .silentEntry).silenceStep).settle n) := by
  generalize e : s.disown .silentEntry = d
  have stationD : d.station ≠ .loading := by rw [← e]; exact station
  have lastD : d.line.silence + 1 = d.cfg.silentTime := by rw [← e]; exact last
  have weightD : d.weight = s.weight := by rw [← e]; rfl
  have owedD : d.owed = s.owed.erase .silentEntry := by rw [← e]; rfl
  have sameD : d.safety = s.safety ∧ d.line = s.line ∧ d.cfg = s.cfg ∧ d.pins = s.pins ∧ d.motion = s.motion ∧
      d.inReset = s.inReset := by rw [← e]; exact ⟨rfl, rfl, rfl, rfl, rfl, rfl⟩
  obtain ⟨safety, line, cfg, pins, motion, inReset⟩ := sameD
  have keptD : d.keptHeld ax := by rw [← e]; exact kept.imp (fun k => k) fun ⟨w, h⟩ => ⟨w, by cases ax <;> exact h⟩
  obtain ⟨reported, weight⟩ := silenceStep_raised stationD lastD
  obtain ⟨keeps, holdOff, lineStep⟩ := silenceStep_kept stationD lastD
  have owedStep := silenceStep_owed stationD lastD (by rw [owedD]; exact none)
  have stays := stays_silenceStep (ax := ax) stationD lastD
  have trails := trails_settle n d.silenceStep
  have whole := stays.trans (stays_settle n d.silenceStep ax)
  have axisD : d.axis ax = s.axis ax := axis_of_motion motion ax
  have lineT : (d.silenceStep.settle n).line = { s.line with
      silence := d.cfg.silentTime, silent := true,
      queue := (d.silenceStep.settle n).line.queue, refresh := (d.silenceStep.settle n).line.refresh } := by
    rw [trails.line, lineStep, line]
  have load := load_syncContent_le d.silenceStep
  have alarm : (d.silenceStep.settle n).alarmSet .silentSeen = true :=
    alarmSet_settle (by rw [State.station, keeps.loader]; exact stationD) reported (by omega)
  refine ⟨?_, alarm, ?_, ?_, ?_, ?_, ?_, ?_⟩
  · rw [State.axisCfg, trails.cfg, keeps.cfg, cfg]; exact mask
  · exact (whole keptD (by rw [axisD]; exact held)).2.trans axisD
  · rw [trails.holdOff, holdOff, safety]
  · rw [trails.owed_eq (by rw [owedStep, owedD]; exact none), owedStep, owedD]
  · rw [State.allstopReached, lineT]; rfl
  · rw [State.estopShown, trails.pins, keeps.pins, pins, lineT]; rfl
  · rw [trails.inReset, keeps.inReset, inReset]

/-- SILENT_ENTRY, where it is all that is owed, is what holds the axis again (R181). -/
theorem oneInstant_of_silent {s : State} (owed : s.owed = [.silentEntry]) (reached : s.allstopReached = false)
    (shown : s.estopShown = false) (again : s.heldAgain = true)
    (after : (s.carryTogether [.silentEntry]).heldAgain = false) :
    s.foresee.oneInstant = s.carryTogether [.silentEntry] := by
  have same : (s.setWithin true).carryTogether [.silentEntry] = s.carryTogether [.silentEntry] := rfl
  have takes (ax : Axis) : (s.setWithin true).takeHolders ax =
      if s.axisHeldAgain ax then s.carryTogether [.silentEntry] else s.setWithin true := by
    rw [State.takeHolders, setWithin_axisHeldAgain]
    cases h : s.axisHeldAgain ax
    · rfl
    · have reachedW : (s.setWithin true).allstopReached = false := reached
      have shownW : (s.setWithin true).estopShown = false := shown
      have some : (s.holders ax).isSome = true := by
        simp only [State.axisHeldAgain, reached, shown, Bool.false_or, Bool.and_eq_true] at h
        exact h.2
      have only : (s.holders ax).getD [] = [.silentEntry] := by
        obtain ⟨events, found⟩ := Option.isSome_iff_exists.1 some
        have mem := List.mem_of_find?_eq_some found
        rw [found, Option.getD_some]
        simpa [owed, State.allOwed, clipsOf] using mem
      have holdersW : (s.setWithin true).holders ax = s.holders ax := rfl
      rw [reachedW, shownW, holdersW, only]; exact same
  have done : (s.carryTogether [.silentEntry]).takeHolders .B = s.carryTogether [.silentEntry] := by
    have free : (s.carryTogether [.silentEntry]).axisHeldAgain .B = false := by
      simp only [State.heldAgain, Bool.or_eq_false_iff] at after; exact after.2
    rw [State.takeHolders, free]; rfl
  have start : s.foresee.oneInstant = ((s.setWithin true).takeHolders .A).takeHolders .B := by
    rw [State.foresee, again]; rfl
  rw [start, takes .A]
  cases a : s.axisHeldAgain .A
  · have b : s.axisHeldAgain .B = true := by simpa [State.heldAgain, a] using again
    rw [if_neg (by simp), takes .B, b]; rfl
  · rw [if_pos rfl, done]

theorem setWithin_silent {ax : Axis} {s c : State} (h : Silenced ax (s.setWithin true) c) (owed : s.owed = [.silentEntry])
    (reached : s.allstopReached = false) (shown : s.estopShown = false) : (c.setWithin false).heldAgain = false := by
  have erased : (s.setWithin true).owed.erase .silentEntry = [] := by
    show s.owed.erase .silentEntry = []
    rw [owed]; rfl
  exact heldAgain_of_owed_nil (h.owed.trans erased) (h.reached.trans reached) (h.shown.trans shown)

/-- SILENT_ENTRY that is owed with SILENT_SEEN in its hold mask keeps the axis in HELD through the end of the hold-off (R181). -/
theorem heldOn_of_silent {s : State} {ax : Axis} (none : s.safety.raised = []) (held : (s.axis ax).state = .held)
    (reported : (s.axisSafety ax).held = true) (zero : s.safety.holdOff = 0) (reached : s.allstopReached = false)
    (owed : s.owed = [.silentEntry]) (station : s.station ≠ .loading) (last : s.line.silence + 1 = s.cfg.silentTime)
    (mask : Alarm.silentSeen.within (s.axisCfg ax).holdMask = true) : HeldOn s s.foresee.oneInstant ax := by
  cases shown : s.estopShown
  case true => exact heldOn_of_shown none held reported zero reached shown
  have weight : s.weight = 2 := by rw [State.weight, none]; rfl
  obtain ⟨c, together, carried⟩ : ∃ c, s.carryTogether [.silentEntry] = c.setWithin false ∧
      Silenced ax (s.setWithin true) c := by
    refine ⟨_, carryTogether_silent (by rw [owed]; simp), ?_⟩
    refine silenced_settled (s := s.setWithin true) 128 ?_ station last held (.inr ⟨rfl, ?_⟩) mask (by
      show ∀ o ∈ s.owed.erase .silentEntry, _
      rw [owed]; nofun)
    · have same : (s.setWithin true).weight = s.weight := rfl
      omega
    · rw [setWithin_axisSafety]; exact reported
  have firm : (s.carryTogether [.silentEntry]).firmlyHeld ax := by rw [together]; exact setWithin_firm.2 carried.firm
  have after : (s.carryTogether [.silentEntry]).heldAgain = false := by
    rw [together]; exact setWithin_silent carried owed reached shown
  cases again : s.heldAgain
  · have now : s.heldNow ax = true := by
      by_contra off
      have free : s.heldNow ax = false := by simpa using off
      have some : (s.holders ax).isSome = true := by
        rw [State.holders, List.find?_isSome]
        exact ⟨[.silentEntry], by rw [owed]; simp [State.allOwed, clipsOf], heldNow_of_firm firm⟩
      have axisAgain : s.axisHeldAgain ax = true := by simp [State.axisHeldAgain, held, reported, free, some]
      have : s.heldAgain = true := by cases ax <;> simp [State.heldAgain, axisAgain]
      rw [again] at this; simp at this
    rw [oneInstant_of_not_heldAgain again]; exact ⟨firm_of_no_reports none now, rfl, zero, rfl⟩
  · rw [oneInstant_of_silent owed reached shown again after]
    refine ⟨firm, ?_, ?_, ?_⟩
    · rw [together]; exact carried.axis
    · rw [together]; exact carried.holdOff.trans zero
    · rw [together]; exact carried.inReset

end Sys2Proof.Machine
end

section
/-! PROOFS. The ends of a boundary's counts, settled. -/

namespace Sys2Proof.Machine

/-! ## The run's step -/

/-- The run's last count moves the offset (R93). -/
theorem runStepNow_of_last {s : State} {r : RunRegion} (region : s.light.region = some r) (stepping : s.light.stepping = true)
    (last : r.steps ≤ s.light.stepCount + 1) :
    s.runStepNow = s.setLight { s.light with stepCount := 0, offset := (s.light.offset + 1) % r.span } := by
  simp [State.runStepNow, region, stepping, Nat.not_lt.2 last]

theorem peer_of_published {s : State} (h : s.published = true) : { s.peer with shed := s.shedNow } = s.peer := by
  rw [← ((published_iff s).1 h).1]

theorem runStep_answers {s : State} {r : RunRegion} (awake : s.awake = true) (region : s.light.region = some r)
    (owed : Owed.runStep ∈ s.owed) (stepping : s.light.stepping = true) (last : r.steps ≤ s.light.stepCount + 1) :
    ∃ t, exec .runStep s = .next t ∧ t.light.offset = (s.light.offset + 1) % r.span ∧ t.light.stepCount = 0 ∧
      t.light.stepping = true ∧ t.light.channels = s.light.channels ∧ t.light.region = some r ∧ t.pool = s.pool ∧
      t.line = s.line ∧ t.cmd = s.cmd ∧ s.sameBesideLights t := by
  have calm := calm_of_awake awake
  have published : s.published = true := by
    have q := quiet_of_awake awake
    simp only [State.quiet, Bool.and_eq_true] at q; exact q.2
  have effect : (s.disown .runStep).runStepNow =
      (s.disown .runStep).setLight { s.light with stepCount := 0, offset := (s.light.offset + 1) % r.span } :=
    runStepNow_of_last (s := s.disown .runStep) region stepping last
  have stepped : (s.disown .runStep).runStepNow.calm = true := by rw [effect]; exact calm
  refine ⟨(s.disown .runStep).runStepNow.publish,
    (event_of_due (running_of_awake awake) (by simpa using owed) _).trans (by rw [finish_of_calm stepped]), ?_⟩
  have peer := peer_of_published published
  rw [effect]
  exact ⟨rfl, rfl, stepping, rfl, region, rfl, rfl, rfl, rfl, rfl, rfl, rfl, rfl, rfl, rfl, rfl, peer, rfl⟩

/-! ## The blanking's end -/

theorem blankingEnd_answers {s : State} {ax other : Axis} (awake : s.awake = true) (ne : other ≠ ax)
    (owed : Owed.blankingEnd ax ∈ s.owed) (powered : (s.axis ax).state.motorPowered = true) (one : (s.axis ax).blanking = 1) :
    ∃ t, exec (.blankingEnd ax) s = .next t ∧ t.axis ax = { s.axis ax with blanking := 0 } ∧ t.axis other = s.axis other ∧
      t.line = s.line ∧ t.safety = s.safety ∧ t.light = s.light ∧ t.time = s.time := by
  have effect : (s.disown (.blankingEnd ax)).blankingStep ax =
      (s.disown (.blankingEnd ax)).setAxis ax { s.axis ax with blanking := 0 } := by
    have same : (s.disown (.blankingEnd ax)).axis ax = s.axis ax := axis_of_motion rfl ax
    simp [State.blankingStep, same, powered, one]
  have quiet : ((s.disown (.blankingEnd ax)).blankingStep ax).quiet = true := by
    rw [effect]
    refine setAxis_quiet (by cases ax <;> rfl) ?_
    exact (quiet_congr (s := s) (t := s.disown (.blankingEnd ax)) rfl rfl rfl rfl rfl rfl rfl rfl rfl rfl rfl rfl).trans
      (quiet_of_awake awake)
  refine ⟨(s.disown (.blankingEnd ax)).blankingStep ax,
    (event_of_due (running_of_awake awake) (by simpa using owed) _).trans (by rw [finish_of_quiet quiet]), ?_⟩
  rw [effect]
  exact ⟨by simp, (State.setAxis_axis_ne _ _ ne).trans (axis_of_motion rfl other), by simp [State.disown], by simp [State.disown],
    by simp [State.disown], by simp [State.disown]⟩

/-! ## The hold-off's end -/

theorem setWithin_same {s : State} {b : Bool} (h : s.safety.within = b) : s.setWithin b = s := by rw [← h]; rfl

theorem offStepped_heldNow {s : State} (one : s.safety.holdOff = 1) (ax : Axis) : s.offStepped.heldNow ax =
    ((s.causes ax).allstop || (s.causes ax).estop || (s.causes ax).alarm) := by
  have zero : s.offStepped.safety.holdOff = 0 := by
    show s.safety.holdOff - 1 = 0
    rw [one]
  have causes : s.offStepped.causes ax = { s.causes ax with holdOff := false } := by
    rw [State.causes, zero]; rfl
  rw [State.heldNow, causes, Causes.any, Bool.or_false]

theorem offStepped_zero {s : State} (one : s.safety.holdOff = 1) : s.offStepped.safety.holdOff = 0 := by
  show s.safety.holdOff - 1 = 0
  rw [one]

theorem offStepped_reported {s : State} (calm : s.calm = true) (one : s.safety.holdOff = 1) (ax : Axis) :
    (s.offStepped.axisSafety ax).held = true := by
  have same : s.offStepped.axisSafety ax = s.axisSafety ax := by cases ax <;> rfl
  rw [same, held_of_calm calm]
  simp [State.heldNow, Causes.any, State.causes, one]

theorem open_offStepped {s : State} (awake : s.awake = true) (room : s.room 1 = true) : Open s.offStepped := by
  obtain ⟨raised, within, -⟩ := (calm_iff s).1 (calm_of_awake awake)
  refine ⟨raised, within, fun _ => .inl ?_⟩
  simp only [State.room, Bool.and_eq_true, decide_eq_true_eq] at room
  show s.line.queue.length < 8
  omega

/-- The end of the hold-off frees each axis that nothing else holds (R141, R142, R171). -/
theorem holdOffEnd_frees {s : State} (awake : s.awake = true) (owed : Owed.holdOffEnd ∈ s.owed) (one : s.safety.holdOff = 1)
    (reached : s.allstopReached = false) (room : s.room 1 = true) (again : s.endHoldOff.heldAgain = false) :
    ∃ t, exec .holdOffEnd s = .next t ∧ t.safety.holdOff = 0 ∧ t.safety.alarms = s.safety.alarms ∧ t.time = s.time ∧
      ∀ ax, t.axis ax =
        if (s.axis ax).state = .held ∧ (s.causes ax).allstop = false ∧ (s.causes ax).estop = false ∧
            (s.causes ax).alarm = false then
          { s.axis ax with state := .stopped, token := (s.axis ax).token + 1 }
        else s.axis ax := by
  have calm := calm_of_awake awake
  have opened := open_offStepped awake room
  have ends : s.endHoldOff.foresee.oneInstant = s.offStepped := by
    rw [oneInstant_of_not_heldAgain again, endHoldOff_of_not_reached reached, setWithin_same opened.within]
  have synced : s.offStepped.synced := ((calm_iff s).1 calm).2.2.1
  have finish := opened.finish synced
  obtain ⟨nearly, alarms, -⟩ := opened.followHolds
  refine ⟨s.offStepped.finish, (holdOffEnd_answers (running_of_awake awake) owed).trans (by rw [ends]), ?_, ?_, ?_, fun ax => ?_⟩
  · rw [finish_holdOff, offStepped_zero one]
  · rw [finish, publish_safety, (syncContent_of_roomy nearly.roomy).1, alarms]; rfl
  · rw [finish_time]; rfl
  · have held := offStepped_reported calm one ax
    have axis : s.offStepped.axis ax = s.axis ax := axis_of_motion rfl ax
    rw [finish, publish_axis, syncContent_axis, opened.followHolds_axis, held, axis, offStepped_heldNow one]
    cases (s.causes ax).allstop <;> cases (s.causes ax).estop <;> cases (s.causes ax).alarm <;> simp

/-- ALLSTOP that the line has reached is entered within the end of the hold-off (R181). -/
theorem holdOffEnd_enters {s : State} (awake : s.awake = true) (owed : Owed.holdOffEnd ∈ s.owed)
    (reached : s.allstopReached = true) :
    ∃ t, exec .holdOffEnd s = .next t ∧ t.safety.holdOff = 0 ∧ t.line.allstop = true ∧ ∀ ax, s.lineStopped t ax := by
  have calm : s.calm = true := calm_of_awake awake
  have entered := allstopEntered s.offStepped
  have prompts := prompts_lineStop s.offStepped.underAllstop
  have ends : s.endHoldOff.foresee.oneInstant = s.offStepped.enterAllstop.setWithin false := by
    rw [endHoldOff_of_reached reached, oneInstant_of_not_heldAgain (not_heldAgain_of_firm entered.firm)]
  refine ⟨(s.offStepped.enterAllstop.setWithin false).finish,
    (holdOffEnd_answers (running_of_awake awake) owed).trans (by rw [ends]), ?_, ?_, ?_⟩
  · exact enterAllstop_holdOff s.offStepped
  · rw [finish_line]
    exact congrArg LineUnit.allstop entered.line
  · refine lineStopped_finish (u := s.offStepped.underAllstop) calm (underAllstop_motion _) (underAllstop_cfg _) entered.motion
      (fun x => ?_) (underAllstop_firm _) (fun x => setWithin_firm.2 (entered.firm x)) ?_
    · rw [setWithin_axisSafety, axisSafety_of_safety entered.safety, prompts.axisSafety, underAllstop_safety]
      cases x <;> rfl
    · have same : (s.offStepped.enterAllstop.setWithin false).weight = s.offStepped.underAllstop.lineStop.weight := by
        rw [State.weight, State.weight, ← entered.safety]; rfl
      have stepped : s.offStepped.weight = s.weight := rfl
      have := prompts.weight; have := underAllstop_weight s.offStepped; have := weight_of_calm calm
      omega

/-- An emergency stop that is shown keeps the axis in HELD, through HOLD_OFF_END and ESTOP_ASSERT (R18, R181). -/
theorem holdOffEnd_shown {s : State} {ax : Axis} (awake : s.awake = true) (owed : Owed.holdOffEnd ∈ s.owed)
    (one : s.safety.holdOff = 1) (reached : s.allstopReached = false) (shown : s.estopShown = true)
    (held : (s.axis ax).state = .held) :
    ∃ t u, exec .holdOffEnd s = .next t ∧ t.safety.holdOff = 0 ∧ t.axis ax = s.axis ax ∧ t.heldNow ax = true ∧
      exec .estopAssert t = .next u ∧ u.line.estop = true ∧ u.axis ax = s.axis ax ∧ u.heldNow ax = true := by
  have calm : s.calm = true := calm_of_awake awake
  have offReported : (s.offStepped.axisSafety ax).held = true := offStepped_reported calm one ax
  have axis : s.offStepped.axis ax = s.axis ax := axis_of_motion rfl ax
  have heldOff : (s.offStepped.axis ax).state = .held := by rw [axis]; exact held
  have on : HeldOn s.offStepped s.offStepped.foresee.oneInstant ax :=
    heldOn_of_shown ((calm_iff s).1 calm).1 heldOff offReported (offStepped_zero one) reached shown
  obtain ⟨zero, same, now, running⟩ := on.finish heldOff
  have awakened := running_of_awake awake
  have answers := holdOffEnd_answers (running_of_awake awake) owed
  rw [endHoldOff_of_not_reached reached] at answers
  generalize s.offStepped.foresee.oneInstant.finish = t at *
  have axisT : t.axis ax = s.axis ax := same.trans axis
  have heldT : (t.axis ax).state = .held := by rw [axisT]; exact held
  have heldA : (t.assertEstop.axis ax).state = .held := by rw [assertEstop_axis_of_held heldT]; exact heldT
  obtain ⟨stays, firm⟩ := finish_of_firm (assertEstop_firm t ax) heldA
  refine ⟨t, t.assertEstop.finish, answers, zero, axisT, now,
    event_of_due (running.trans awakened) rfl _, ?_, ?_, heldNow_of_firm firm⟩
  · rw [finish_line]; exact (assertEstop_line t).1
  · rw [stays, assertEstop_axis_of_held heldT, axisT]

theorem publish_silenced {ax : Axis} {s c : State} (h : Silenced ax s c) : Silenced ax s c.publish :=
  ⟨h.mask, h.alarm, (publish_axis c ax).trans h.axis, h.holdOff, h.owed, h.reached, h.shown, h.inReset⟩

/-- SILENT_ENTRY as a command of its own, for an axis that is held. -/
theorem silenced_finish {s : State} {ax : Axis} (calm : s.calm = true) (station : s.station ≠ .loading)
    (last : s.line.silence + 1 = s.cfg.silentTime) (held : (s.axis ax).state = .held) (now : s.heldNow ax = true)
    (mask : Alarm.silentSeen.within (s.axisCfg ax).holdMask = true)
    (none : ∀ o ∈ s.owed.erase .silentEntry, isSlotStep o = false) :
    Silenced ax s ((s.disown .silentEntry).silenceStep).finish := by
  obtain ⟨-, within, -⟩ := (calm_iff s).1 calm
  have shut : ((s.disown .silentEntry).silenceStep).safety.within = false :=
    (silenceStep_within (s := s.disown .silentEntry) station last).trans within
  have settled := silenced_settled (s := s) 128 (by have := weight_of_calm calm; omega) station last held
    (.inl (firm_of_heldNow calm now)) mask none
  generalize (s.disown .silentEntry).silenceStep = u at *
  rw [State.finish, setWithin_same shut]
  exact publish_silenced settled

/-- SILENT_ENTRY at the same boundary keeps the axis in HELD, in either order of the two commands (R181). -/
theorem holdOffEnd_silent {s : State} {ax : Axis} (awake : s.awake = true) (owed : s.owed = [.silentEntry, .holdOffEnd])
    (one : s.safety.holdOff = 1) (reached : s.allstopReached = false) (station : s.station ≠ .loading)
    (last : s.line.silence + 1 = s.cfg.silentTime) (held : (s.axis ax).state = .held)
    (mask : Alarm.silentSeen.within (s.axisCfg ax).holdMask = true) :
    (∃ t, exec .holdOffEnd s = .next t ∧ t.safety.holdOff = 0 ∧ t.axis ax = s.axis ax ∧ t.heldNow ax = true) ∧
      ∃ t u, exec .silentEntry s = .next t ∧ exec .holdOffEnd t = .next u ∧ u.safety.holdOff = 0 ∧
        u.axis ax = s.axis ax ∧ u.heldNow ax = true := by
  have calm : s.calm = true := calm_of_awake awake
  have running := running_of_awake awake
  have axis : s.offStepped.axis ax = s.axis ax := axis_of_motion rfl ax
  have heldOff : (s.offStepped.axis ax).state = .held := by rw [axis]; exact held
  constructor
  · have on : HeldOn s.offStepped s.offStepped.foresee.oneInstant ax := by
      refine heldOn_of_silent ((calm_iff s).1 calm).1 heldOff (offStepped_reported calm one ax) (offStepped_zero one) reached ?_
        station last mask
      show s.owed.erase .holdOffEnd = [.silentEntry]
      rw [owed]; rfl
    obtain ⟨zero, same, now, -⟩ := on.finish heldOff
    refine ⟨s.offStepped.foresee.oneInstant.finish, ?_, zero, same.trans axis, now⟩
    rw [holdOffEnd_answers running (by rw [owed]; simp), endHoldOff_of_not_reached reached]
  · have erased : s.owed.erase .silentEntry = [.holdOffEnd] := by rw [owed]; rfl
    have silenced := silenced_finish calm station last held (ax := ax) (by simp [State.heldNow, Causes.any, State.causes, one]) mask
      (by rw [erased]; simp [isSlotStep])
    have answers : exec .silentEntry s = .next ((s.disown .silentEntry).silenceStep).finish :=
      event_of_due running (by rw [owed]; rfl) _
    generalize ((s.disown .silentEntry).silenceStep).finish = t at *
    have heldT : (t.offStepped.axis ax).state = .held := by
      rw [show t.offStepped.axis ax = t.axis ax from axis_of_motion rfl ax, silenced.axis]; exact held
    have zeroT : t.offStepped.safety.holdOff = 0 := offStepped_zero (silenced.holdOff.trans one)
    have owedT : t.owed = [.holdOffEnd] := silenced.owed.trans erased
    have reachedT : t.allstopReached = false := silenced.reached.trans reached
    have firm : t.offStepped.firmlyHeld ax := .inr (.inr (.inr ⟨.silentSeen, silenced.mask, silenced.alarm⟩))
    have on : HeldOn t.offStepped t.offStepped.foresee.oneInstant ax := by
      refine heldOn_of_firm heldT zeroT firm reachedT fun shown => heldAgain_of_owed_nil ?_ reachedT shown
      show t.owed.erase .holdOffEnd = []
      rw [owedT]; rfl
    obtain ⟨zero, same, now, -⟩ := on.finish heldT
    refine ⟨t, t.offStepped.foresee.oneInstant.finish, answers, ?_, zero, ?_, now⟩
    · rw [holdOffEnd_answers (silenced.inReset.trans running) (by rw [owedT]; simp), endHoldOff_of_not_reached reachedT]
    · rw [same, show t.offStepped.axis ax = t.axis ax from axis_of_motion rfl ax, silenced.axis]

/-- Settles O26: the run, the blanking, and the hold-off by what its boundary brings beside it. -/
theorem boundaryCountsEnd : Obligations.BoundaryCountsEnd := by
  intro s awake
  exact ⟨fun _ region owed stepping last => runStep_answers awake region owed stepping last,
    fun _ _ ne owed powered one => blankingEnd_answers awake ne owed powered one,
    fun owed one reached room again => holdOffEnd_frees awake owed one reached room again,
    fun owed _ reached => holdOffEnd_enters awake owed reached,
    fun owed one reached shown _ held => holdOffEnd_shown awake owed one reached shown held,
    fun owed one reached station last _ held mask => holdOffEnd_silent awake owed one reached station last held mask⟩

end Sys2Proof.Machine
end

section
/-! PROOFS. The end of LOADING in the Safety Unit and the axes, and the end in UNCONFIGURED. -/

namespace Sys2Proof.Machine

/-! ## What is formed -/

theorem switchRead_congr {s t : State} (cfg : t.cfg = s.cfg) (pins : t.pins = s.pins) (ax : Axis) (d : Direction) :
    t.switchRead ax d = s.switchRead ax d := by
  have pin (d : Direction) : t.switchPin ax d = s.switchPin ax d := by cases ax <;> cases d <;> simp [State.switchPin, pins]
  simp only [State.switchRead, State.axisCfg, cfg, pin]

theorem inConflict_congr {s t : State} (cfg : t.cfg = s.cfg) (pins : t.pins = s.pins) (ax : Axis) :
    t.inConflict ax = s.inConflict ax := by
  simp only [State.inConflict, switchRead_congr cfg pins, State.axisCfg, cfg]

/-- Two states agree in what the axes' records and holds are formed from. -/
structure SameGrounds (s t : State) : Prop where
  cfg : t.cfg = s.cfg
  pins : t.pins = s.pins
  table : t.peer.table = s.peer.table
  allstop : t.line.allstop = s.line.allstop
  estop : t.line.estop = s.line.estop
  alarms : t.safety.alarms = s.safety.alarms
  count : t.safety.count = s.safety.count
  raised : t.safety.raised = s.safety.raised
  holdOff : t.safety.holdOff = s.safety.holdOff
  within : t.safety.within = s.safety.within

theorem SameGrounds.refl (s : State) : SameGrounds s s := ⟨rfl, rfl, rfl, rfl, rfl, rfl, rfl, rfl, rfl, rfl⟩

theorem SameGrounds.trans {s t u : State} (h : SameGrounds s t) (k : SameGrounds t u) : SameGrounds s u where
  cfg := k.cfg.trans h.cfg
  pins := k.pins.trans h.pins
  table := k.table.trans h.table
  allstop := k.allstop.trans h.allstop
  estop := k.estop.trans h.estop
  alarms := k.alarms.trans h.alarms
  count := k.count.trans h.count
  raised := k.raised.trans h.raised
  holdOff := k.holdOff.trans h.holdOff
  within := k.within.trans h.within

namespace SameGrounds

variable {s t : State} (h : SameGrounds s t)
include h

theorem heldNow (ax : Axis) : t.heldNow ax = s.heldNow ax :=
  heldNow_congr h.cfg h.alarms h.raised h.holdOff h.allstop h.estop ax

theorem axisCfg (ax : Axis) : t.axisCfg ax = s.axisCfg ax := by rw [State.axisCfg, h.cfg]; rfl

theorem switchRead (ax : Axis) (d : Direction) : t.switchRead ax d = s.switchRead ax d := switchRead_congr h.cfg h.pins ax d

theorem inConflict (ax : Axis) : t.inConflict ax = s.inConflict ax := inConflict_congr h.cfg h.pins ax

theorem formedRecord (ax : Axis) : t.formedRecord ax = s.formedRecord ax := by
  simp only [State.formedRecord, State.formedState, h.axisCfg, h.switchRead, h.inConflict, h.heldNow]

theorem permittedNow (ax : Axis) (d : Direction) : t.permittedNow ax d = s.permittedNow ax d := by
  simp only [State.permittedNow, State.termSatisfied, h.axisCfg, h.table]

end SameGrounds

theorem sameGrounds_setAxis (s : State) (ax : Axis) (r : AxisRecord) : SameGrounds s (s.setAxis ax r) := by
  cases ax <;> exact ⟨rfl, rfl, rfl, rfl, rfl, rfl, rfl, rfl, rfl, rfl⟩

theorem sameGrounds_setAxisSafety (s : State) (ax : Axis) (r : AxisSafety) : SameGrounds s (s.setAxisSafety ax r) := by
  cases ax <;> exact ⟨rfl, rfl, rfl, rfl, rfl, rfl, rfl, rfl, rfl, rfl⟩

theorem sameGrounds_formAxis (s : State) (ax : Axis) : SameGrounds s (s.formAxis ax) := by
  rw [formAxis_eq]; exact sameGrounds_setAxis s ax _

/-- After the alarms are formed only the axes' parts are written. -/
theorem sameGrounds_startSafety (s : State) (formed : BitVec 23) : SameGrounds (s.formAlarms formed) (s.startSafety formed) :=
  (sameGrounds_setAxisSafety _ .A _).trans ((sameGrounds_setAxisSafety _ .B _).trans ((sameGrounds_formAxis _ .A).trans
    ((sameGrounds_formAxis _ .B).trans ((sameGrounds_setAxisSafety _ .A _).trans (sameGrounds_setAxisSafety _ .B _)))))

/-- The record of each axis at the end of LOADING (R163). -/
theorem startSafety_formedRecord (s : State) (formed : BitVec 23) (ax : Axis) :
    (s.startSafety formed).axis ax = (s.startSafety formed).formedRecord ax := by
  have terms : SameGrounds (s.formAlarms formed) (s.formTerms formed) :=
    (sameGrounds_setAxisSafety _ .A _).trans (sameGrounds_setAxisSafety _ .B _)
  rw [startSafety_axis, (sameGrounds_startSafety s formed).formedRecord]
  cases ax
  · exact terms.formedRecord .A
  · exact (terms.trans (sameGrounds_formAxis _ .A)).formedRecord .B

/-- The hold and the permitted directions of each axis at the end of LOADING (R182). -/
theorem startSafety_axisSafety (s : State) (formed : BitVec 23) (ax : Axis) :
    ((s.startSafety formed).axisSafety ax).held = (s.startSafety formed).heldNow ax ∧
      ∀ d, ((s.startSafety formed).axisSafety ax).permitted d = (s.startSafety formed).permittedNow ax d := by
  have whole := sameGrounds_startSafety s formed
  have first : SameGrounds (s.formAlarms formed) ((s.formAlarms formed).evaluate .A) := sameGrounds_setAxisSafety _ .A _
  have terms : SameGrounds (s.formAlarms formed) (s.formTerms formed) := first.trans (sameGrounds_setAxisSafety _ .B _)
  have axes : SameGrounds (s.formAlarms formed) (((s.formTerms formed).formAxis .A).formAxis .B) :=
    terms.trans ((sameGrounds_formAxis _ .A).trans (sameGrounds_formAxis _ .B))
  have holds := axes.trans (sameGrounds_setAxisSafety _ .A { (((s.formTerms formed).formAxis .A).formAxis .B).axisSafety .A with
    held := (((s.formTerms formed).formAxis .A).formAxis .B).heldNow .A })
  refine ⟨?_, fun d => ?_⟩
  · rw [whole.heldNow, startSafety_eq, State.formHold, setAxisSafety_axisSafety_eq]
    cases ax
    · simpa [State.formHold] using axes.heldNow .A
    · simpa [State.formHold] using holds.heldNow .B
  · rw [whole.permittedNow]
    have kept : ((s.startSafety formed).axisSafety ax).permitted d = ((s.formTerms formed).axisSafety ax).permitted d := by
      cases ax <;> cases d <;>
        simp [startSafety_eq, State.formHold, setAxisSafety_axisSafety_eq, formAxis_eq, AxisSafety.permitted]
    have secondPermits := first.permittedNow .B d
    rw [kept, State.formTerms, State.evaluate, setAxisSafety_axisSafety_eq]
    cases ax
    · cases d <;> simp [State.evaluate, AxisSafety.permitted]
    · rw [← secondPermits]; cases d <;> rfl

/-- The conditions that are present as the alarm set is formed, in the order of their reports (R182). -/
def State.formedReports (s : State) : List Alarm :=
  (if s.line.allstop then [.allstopSeen] else []) ++ (if s.inConflict .A then [.endConflict .A] else []) ++
    (if s.inConflict .B then [.endConflict .B] else [])

theorem raiseIf_safety {s : State} {c : Bool} {a : Alarm} (new : a ∉ s.safety.raised) :
    (s.raiseIf c a).safety = { s.safety with raised := s.safety.raised ++ if c then [a] else [] } := by
  unfold State.raiseIf
  cases c
  · rw [if_neg Bool.false_ne_true, if_neg Bool.false_ne_true, List.append_nil]
  · rw [if_pos rfl, if_pos rfl, State.raise, if_neg (by simpa using new)]; rfl

/-- The alarm set as formed, with the reports of the conditions present. -/
theorem formAlarms_safety {s : State} (formed : BitVec 23) (none : s.safety.raised = []) : (s.formAlarms formed).safety =
    { s.safety with alarms := formed, count := 0, holdOff := 0, raised := s.formedReports } := by
  generalize e : s.setSafety { s.safety with alarms := formed, count := 0, holdOff := 0 } = u
  have safety : u.safety = { s.safety with alarms := formed, count := 0, holdOff := 0 } := by rw [← e]; rfl
  have conflict (ax : Axis) : u.inConflict ax = s.inConflict ax := by rw [← e]; exact inConflict_congr rfl rfl ax
  have allstop : u.line.allstop = s.line.allstop := by rw [← e]; rfl
  have whole : s.formAlarms formed = ((u.raiseIf s.line.allstop .allstopSeen).raiseIf (s.inConflict .A) (.endConflict .A)).raiseIf
      (s.inConflict .B) (.endConflict .B) := by
    rw [← conflict, ← conflict, ← allstop, ← e]; rfl
  have first : (u.raiseIf s.line.allstop .allstopSeen).safety =
      { u.safety with raised := if s.line.allstop then [.allstopSeen] else [] } := by
    rw [raiseIf_safety (by simp [safety, none]), safety, none]; rfl
  have second : ((u.raiseIf s.line.allstop .allstopSeen).raiseIf (s.inConflict .A) (.endConflict .A)).safety = { u.safety with
      raised := (if s.line.allstop then [.allstopSeen] else []) ++ if s.inConflict .A then [.endConflict .A] else [] } := by
    rw [raiseIf_safety (by rw [first]; split <;> simp), first]
  rw [whole, raiseIf_safety (by rw [second]; split <;> split <;> simp), second, safety]; rfl

/-! ## The first announcement -/

/-- The first ANNOUNCE joins an empty send queue (R51). -/
theorem startAnnouncing_of_empty {s : State} (sends : s.sends = true) (queue : s.line.queue = []) : s.startAnnouncing =
    (s.setPeer { s.peer with content := s.contentNow, counter := s.cfg.interval }).setLine
      { s.line with queue := [announceFrame] } := by
  refine (announceRequest_of_none (s := s.setPeer { s.peer with content := s.contentNow }) sends (by simp [queue])).trans ?_
  refine (offer_of_short_queue (s := s.setPeer { s.peer with content := s.contentNow, counter := s.cfg.interval }) announceFrame
    sends (by simp [queue])).trans ?_
  show State.setLine _ { s.line with queue := s.line.queue ++ [announceFrame] } = _
  rw [queue]; rfl

/-! ## The end in UNCONFIGURED -/

/-- Every block but the axes, the Safety Unit and what follows them at the end of LOADING in UNCONFIGURED (R191). -/
def State.unconfiguredBlocks (s : State) : State := (s.endLoading .unconfigured .defaults).startLine.startEngine

theorem unconfigure_eq (s : State) :
    s.unconfigure = (s.unconfiguredBlocks.startSafety Alarm.configBad.mask).startAnnouncing := rfl

theorem unconfiguredBlocks_eq (s : State) : s.unconfiguredBlocks = { s with
    loader := { s.loader with station := .unconfigured, staging := [] }, cfg := .defaults
    line := { s.line with budget := 16, silence := 0, erratic := false, silent := false }
    time := { s.time with engine := .listener, silenceTimer := 0 } } := rfl

/-- The end of LOADING in UNCONFIGURED, of a station between two commands without ALLSTOP and with an empty send queue. -/
structure Unconfigured (s t : State) : Prop where
  station : t.station = .unconfigured
  address : t.loader.address = s.loader.address
  cfg : t.cfg = .defaults
  alarms : t.safety.alarms = Alarm.configBad.mask
  count : t.safety.count = 0
  line : t.line = { s.line with budget := 16, silence := 0, erratic := false, silent := false, queue := [announceFrame] }
  engine : t.time.engine = .listener
  counter : t.peer.counter = 100
  axis : ∀ ax, (t.axis ax).state = .disabled

theorem unconfigure_calm {s : State} (calm : s.calm = true) (allstop : s.line.allstop = false) (queue : s.line.queue = []) :
    s.unconfigure.calm = true ∧ Unconfigured s s.unconfigure := by
  obtain ⟨none, within, -⟩ := (calm_iff s).1 calm
  have base := unconfiguredBlocks_eq s
  rw [unconfigure_eq]
  generalize s.unconfiguredBlocks = b at *
  have noneB : b.safety.raised = [] := by rw [base]; exact none
  have grounds := sameGrounds_startSafety b Alarm.configBad.mask
  have safety := formAlarms_safety Alarm.configBad.mask noneB
  have axis := startSafety_formedRecord b Alarm.configBad.mask
  have holds (ax : Axis) := (startSafety_axisSafety b Alarm.configBad.mask ax).1
  have line : (b.startSafety Alarm.configBad.mask).line = b.line := startSafety_line _ _
  have loader : (b.startSafety Alarm.configBad.mask).loader = b.loader := startSafety_loader _ _
  have time : (b.startSafety Alarm.configBad.mask).time = b.time := startSafety_time _ _
  have cfg : (b.startSafety Alarm.configBad.mask).cfg = b.cfg := startSafety_cfg _ _
  have raised : (b.startSafety Alarm.configBad.mask).safety.raised = [] := by
    have conflict (ax : Axis) : b.inConflict ax = false := by
      rw [State.inConflict, State.axisCfg, base]; cases ax <;> rfl
    have released : b.line.allstop = false := by rw [base]; exact allstop
    rw [grounds.raised, safety]
    simp [State.formedReports, conflict, released]
  have shut : (b.startSafety Alarm.configBad.mask).safety.within = false := by
    rw [grounds.within, safety, base]; exact within
  have alarms := grounds.alarms
  have count := grounds.count
  rw [safety] at alarms count
  generalize b.startSafety Alarm.configBad.mask = v at *
  have sends : v.sends = true := by rw [State.sends, State.station, loader, base]; rfl
  rw [startAnnouncing_of_empty sends (by rw [line, base]; exact queue)]
  have stale (ax : Axis) : v.holdStale ax = false := by simp [State.holdStale, State.holdOn, shut, holds]
  refine ⟨(calm_iff _).2 ⟨raised, shut, rfl, stale .A, stale .B⟩, ?_, ?_, ?_, alarms, count, ?_, ?_, ?_, fun ax => ?_⟩
  · show v.loader.station = _
    rw [loader, base]
  · show v.loader.address = _
    rw [loader, base]
  · show v.cfg = _
    rw [cfg, base]
  · show { v.line with queue := [announceFrame] } = _
    rw [line, base]
  · show v.time.engine = _
    rw [time, base]
  · show v.cfg.interval = _
    rw [cfg, base]; rfl
  · show (v.axis ax).state = _
    have kind : (v.axisCfg ax).kind = .none := by rw [State.axisCfg, cfg, base]; cases ax <;> rfl
    rw [axis, State.formedRecord, if_pos kind]; rfl

/-! ## The attempts -/

theorem failAttempt_of_more {s : State} (more : s.loader.attempt < 3) : s.failAttempt =
    s.setLoader { s.loader with staging := [], check := 0xFFFF, attempt := s.loader.attempt + 1 } := by
  have least : min 3 (s.loader.attempt + 1) = s.loader.attempt + 1 := by omega
  rw [State.failAttempt, if_pos more, least]

/-- Bytes that memory still holds are all read (R187). -/
theorem feed_of_room {s : State} {bytes : List Byte} (room : s.loader.staging.length + bytes.length ≤ 1024) : s.feed bytes =
    s.setLoader { s.loader with
      staging := s.loader.staging ++ bytes, check := crcFrom s.loader.check (bitsOfBytes bytes) } := by
  have all : bytes.take (1024 - s.loader.staging.length) = bytes := List.take_of_length_le (by omega)
  rw [State.feed, all]

theorem failAttempt_third {s : State} (third : s.loader.attempt = 3) :
    ∃ u, s.failAttempt = u.unconfigure ∧ u = s.setLoader { s.loader with staging := [], check := 0xFFFF, attempt := 3 } := by
  refine ⟨_, ?_, rfl⟩
  rw [State.failAttempt, if_neg (by omega), third]; rfl

/-- Settles O4: the attempts, the bytes that join them, and the third failure. -/
theorem failedAttemptsEndUnconfigured : Obligations.FailedAttemptsEndUnconfigured := by
  intro s running loading
  have due : (s.station == .loading) = true := by simpa using loading
  have fails (more : s.loader.attempt < 3) : ∃ t, exec .attemptFail s = .next t ∧
      t.loader = { s.loader with attempt := s.loader.attempt + 1, staging := [], check := 0xFFFF } :=
    ⟨s.failAttempt.finish, event_of_due running due _, by rw [(keeps_finish _).loader, failAttempt_of_more more]; rfl⟩
  refine ⟨fails, fun bytes => ⟨fun part => ?_, fun whole more bad => ?_⟩, fun awake third allstop queue => ?_⟩
  · refine ⟨(s.feed bytes).judgeImage.finish, event_of_due running due _, ?_⟩
    rw [(keeps_finish _).loader, feed_of_room (by omega), State.judgeImage, if_pos (by simpa using part)]; rfl
  · refine ⟨(s.feed bytes).judgeImage.finish, event_of_due running due _, ?_⟩
    rw [(keeps_finish _).loader, feed_of_room (by omega), State.judgeImage, if_neg (by simp; omega),
      if_neg (by simpa using bad), failAttempt_of_more (by exact more)]; rfl
  · obtain ⟨u, third, same⟩ := failAttempt_third third
    have between := calm_of_awake awake
    have calm : u.calm = true := by rw [same]; exact between
    obtain ⟨after, ended⟩ := unconfigure_calm calm (by rw [same]; exact allstop) (by rw [same]; exact queue)
    refine ⟨u.unconfigure.publish, ?_⟩
    have answers : exec .attemptFail s = .next u.unconfigure.publish := by
      rw [← finish_of_calm after, ← third]; exact event_of_due running due _
    have line := ended.line
    generalize u.unconfigure = v at *
    refine ⟨answers, ended.station, ended.address.trans (by rw [same]; rfl), ended.cfg, ended.alarms, ended.count, ?_, ?_, ?_, ?_,
      ended.engine, ended.counter, ?_, fun ax => ?_⟩
    iterate 5 rw [publish_line, line]
    rw [publish_axis]; exact ended.axis ax

end Sys2Proof.Machine
end

section
/-! PROOFS. The end of LOADING in CONFIGURED, in any state: what each block starts from and keeps to the end of the command. -/

namespace Sys2Proof.Machine

/-! ## A change of the lights -/

/-- Only the lights, the Ramp Pool, what is owed and the reports may differ; scenes and group sets stand. -/
structure Lit (s t : State) : Prop where
  rest : t = { s with
    light := t.light, pool := t.pool, owed := t.owed, safety := { s.safety with raised := t.safety.raised } }
  scenes : t.light.scenes = s.light.scenes
  groups : ∀ i : Fin 24, (t.light.channels[i]).groups = (s.light.channels[i]).groups

theorem Lit.refl (s : State) : Lit s s := ⟨rfl, rfl, fun _ => rfl⟩

theorem Lit.trans {s t u : State} (h : Lit s t) (k : Lit t u) : Lit s u where
  rest := by
    obtain ⟨rest, -, -⟩ := h
    rw [k.rest, rest]
  scenes := k.scenes.trans h.scenes
  groups := fun i => (k.groups i).trans (h.groups i)

theorem lit_ite {s t u : State} {c : Prop} [Decidable c] (h : c → Lit s t) (k : ¬ c → Lit s u) : Lit s (if c then t else u) := by
  split
  · next x => exact h x
  · next x => exact k x

theorem lit_raise (s : State) (a : Alarm) : Lit s (s.raise a) := by
  unfold State.raise
  exact lit_ite (fun _ => .refl s) fun _ => ⟨rfl, rfl, fun _ => rfl⟩

theorem Channel.take_groups (c : Channel) (goal : Option Nat) : (c.take goal).groups = c.groups := by cases goal <;> rfl
theorem Channel.join_groups (c : Channel) (k : Fin 16) (goal : Option Nat) : (c.join k goal).groups = c.groups := by cases goal <;> rfl

theorem lit_setPool (s : State) (pool : Vector (Option Slot) 16) : Lit s (s.setPool pool) := ⟨rfl, rfl, fun _ => rfl⟩

theorem lit_setLight (s : State) {l : LightUnit} (scenes : l.scenes = s.light.scenes)
    (groups : ∀ i : Fin 24, (l.channels[i]).groups = (s.light.channels[i]).groups) : Lit s (s.setLight l) :=
  ⟨rfl, scenes, groups⟩

theorem lit_leaveFades (s : State) (sel : Fin 24 → Bool) : Lit s (s.leaveFades sel) := by
  unfold State.leaveFades
  refine (lit_setPool s _).trans (lit_setLight _ rfl fun i => ?_)
  simp only [Fin.getElem_fin, Vector.getElem_ofFn, Fin.eta]
  split <;> rfl

theorem lit_takeLevels (s : State) (aims : Fin 24 → Option Nat) : Lit s (s.takeLevels aims) := by
  unfold State.takeLevels
  exact lit_setLight _ rfl fun i => by simp [Channel.take_groups]

theorem lit_joinSlot (s : State) (aims : Fin 24 → Option Nat) (k : Fin 16) : Lit s (s.joinSlot aims k) := by
  unfold State.joinSlot
  exact lit_setLight _ rfl fun i => by simp [Channel.join_groups]

theorem lit_giveSlot (s : State) (k : Fin 16) (slot : Slot) : Lit s (s.giveSlot k slot) := ⟨rfl, rfl, fun _ => rfl⟩

theorem lit_markScene (s : State) (aims : Fin 24 → Option Nat) (scene : Option (Fin 8)) : Lit s (s.markScene aims scene) := by
  unfold State.markScene
  refine lit_setLight _ rfl fun i => ?_
  simp only [Fin.getElem_fin, Vector.getElem_ofFn, Fin.eta]
  split <;> rfl

theorem lit_changeLevels (s : State) (aims : Fin 24 → Option Nat) (fade : Nat) : Lit s (s.changeLevels aims fade) := by
  have left := lit_leaveFades s fun i => (aims i).isSome
  unfold State.changeLevels; dsimp only; split
  · exact .refl s
  · split
    · exact left.trans (lit_takeLevels _ _)
    · split
      · exact left.trans ((lit_giveSlot _ _ _).trans (lit_joinSlot _ _ _))
      · exact left.trans ((lit_takeLevels _ _).trans (lit_raise _ _))

theorem lit_recallScene (s : State) (scene : Fin 8) (sel : Fin 24 → Bool) (fade : Option Nat) : Lit s (s.recallScene scene sel fade) :=
  (lit_changeLevels s _ _).trans (lit_markScene _ _ _)

theorem lit_recallAlert (s : State) : Lit s s.recallAlert := by
  unfold State.recallAlert; split
  · exact lit_recallScene _ _ _ _
  · exact .refl _

theorem lit_beginOverride (s : State) : Lit s s.beginOverride := by
  have start : Lit s (s.setLight { s.light with override := true }).stopRun := ⟨rfl, rfl, fun _ => rfl⟩
  exact start.trans (lit_recallAlert _)

theorem lit_powerOn (s : State) : Lit s s.powerOn := by
  unfold State.powerOn
  refine lit_ite (fun _ => lit_beginOverride s) fun _ => ?_
  split
  · exact lit_recallScene _ _ _ _
  · exact .refl s

namespace Lit

variable {s t : State} (h : Lit s t)
include h

theorem line : t.line = s.line := by rw [h.rest]
theorem loader : t.loader = s.loader := by rw [h.rest]
theorem cfg : t.cfg = s.cfg := by rw [h.rest]
theorem pins : t.pins = s.pins := by rw [h.rest]
theorem time : t.time = s.time := by rw [h.rest]
theorem peer : t.peer = s.peer := by rw [h.rest]
theorem cmd : t.cmd = s.cmd := by rw [h.rest]
theorem sense : t.sense = s.sense := by rw [h.rest]
theorem motion : t.motion = s.motion := by rw [h.rest]
theorem safety : t.safety = { s.safety with raised := t.safety.raised } := by rw [h.rest]

end Lit

/-! ## From the formed state to the end of the command -/

/-- What the first announcement and the power-on scene leave of the formed state, and what the end of the command leaves. -/
structure Formed (v t : State) : Prop where
  loader : t.loader = v.loader
  cfg : t.cfg = v.cfg
  pins : t.pins = v.pins
  time : t.time = v.time
  line : t.line = { v.line with queue := t.line.queue, refresh := t.line.refresh }
  table : t.peer.table = v.peer.table
  scenes : t.light.scenes = v.light.scenes
  groups : ∀ i : Fin 24, (t.light.channels[i]).groups = (v.light.channels[i]).groups
  sense : ∀ c : Fin 4, (t.sense[c]).state = (v.sense[c]).state
  axis : ∀ ax, (v.axis ax).state.moves = false → ∃ st token, t.axis ax = { v.axis ax with state := st, token := token }
  still : ∀ ax, (v.axis ax).state = .disabled → t.axis ax = v.axis ax

theorem trails_startAnnouncing (s : State) : Trails s s.startAnnouncing := by
  refine .trans ?_ (trails_announceRequest _)
  exact trails_setPeer s rfl

theorem startAnnouncing_motion (s : State) : s.startAnnouncing.motion = s.motion := announceRequest_motion _

theorem settledTo_groups {c d : Channel} (h : c.settledTo d) : d.groups = c.groups := by
  rcases h with rfl | ⟨f, -, rfl⟩ <;> rfl

theorem Trails.scenes {s t : State} (h : Trails s t) : t.light.scenes = s.light.scenes := by rw [h.light]

theorem Trails.senseState {s t : State} (h : Trails s t) (c : Fin 4) : (t.sense[c]).state = (s.sense[c]).state := by
  rw [h.sense c]

theorem formed_finish (v : State) : Formed v v.startAnnouncing.powerOn.finish := by
  have first := trails_startAnnouncing v
  have lit := lit_powerOn v.startAnnouncing
  have last := trails_finish v.startAnnouncing.powerOn
  have rests := rests_finish v.startAnnouncing.powerOn
  have motion : v.startAnnouncing.powerOn.motion = v.motion := lit.motion.trans (startAnnouncing_motion v)
  generalize v.startAnnouncing = w at *
  generalize w.powerOn = x at *
  have axis := axis_of_motion motion
  exact {
    loader := last.loader.trans (lit.loader.trans first.loader)
    cfg := last.cfg.trans (lit.cfg.trans first.cfg)
    pins := last.pins.trans (lit.pins.trans first.pins)
    time := last.time.trans (lit.time.trans first.time)
    line := by rw [finish_line, lit.line, first.line]
    table := last.table.trans ((congrArg PeerUnit.table lit.peer).trans first.table)
    scenes := last.scenes.trans (lit.scenes.trans first.scenes)
    groups := fun i => (settledTo_groups (last.channels i)).trans ((lit.groups i).trans (settledTo_groups (first.channels i)))
    sense := fun c => (last.senseState c).trans ((congrArg (fun x => (x[c]).state) lit.sense).trans (first.senseState c))
    axis := fun ax still => by
      rw [← axis ax] at still ⊢
      cases r : (x.axis ax).state.rests
      · exact ⟨_, _, rests.still ax still r⟩
      · obtain ⟨st, token, -, same⟩ := rests.rest ax r
        exact ⟨st, token, same⟩
    still := fun ax off => by
      rw [← axis ax] at off ⊢
      exact rests.still ax (by rw [off]; rfl) (by rw [off]; rfl) }

/-! ## What the blocks start from -/

theorem formedState_moves (s : State) (ax : Axis) : (s.formedState ax).moves = false := by
  unfold State.formedState; split
  · rfl
  · split <;> rfl

/-- An axis is formed at rest (R163). -/
theorem formedRecord_moves (s : State) (ax : Axis) : (s.formedRecord ax).state.moves = false := by
  unfold State.formedRecord; split
  · rfl
  · exact formedState_moves s ax

theorem formedRecord_of_none {s : State} {ax : Axis} (h : (s.axisCfg ax).kind = .none) : s.formedRecord ax = .disabled := if_pos h

theorem formedRecord_of_kind {s : State} {ax : Axis} (h : (s.axisCfg ax).kind ≠ .none) : s.formedRecord ax =
    { AxisRecord.disabled with
      state := s.formedState ax,
      position := if !s.switchRead ax .minus && s.switchRead ax .plus then (s.axisCfg ax).travelMax else 0,
      referenced := s.switchRead ax .minus,
      reason := if s.inConflict ax then .endConflict else .none } := if_neg h

theorem configuredBlocks_line (s : State) (img : List Byte) : (s.configuredBlocks img).line =
    { s.line with budget := (parseImage img).budget, silence := 0, erratic := false, silent := false } := by
  show State.line (State.startEngine _) = _
  rw [startEngine_line]; rfl

theorem configuredBlocks_cfg (s : State) (img : List Byte) : (s.configuredBlocks img).cfg = parseImage img := by
  show State.cfg (State.startEngine _) = _
  rw [startEngine_cfg]; rfl

theorem configuredBlocks_pins (s : State) (img : List Byte) : (s.configuredBlocks img).pins = s.pins := by
  show State.pins (State.startEngine _) = _
  rw [startEngine_pins]; rfl

theorem configuredBlocks_loader (s : State) (img : List Byte) : (s.configuredBlocks img).loader =
    { s.loader with station := .configured, staging := [] } := by
  show State.loader (State.startEngine _) = _
  rw [startEngine_loader]; rfl

theorem configuredBlocks_safety (s : State) (img : List Byte) : (s.configuredBlocks img).safety = s.safety := by
  show State.safety (State.startEngine _) = _
  rw [startEngine_safety]; rfl

theorem configuredBlocks_light (s : State) (img : List Byte) : (s.configuredBlocks img).light = { s.light with
    channels := Vector.ofFn fun i => s.light.channels[i].inGroups (parseGroups img)[i], scenes := parseScenes img } := by
  have same : ((s.endLoading .configured (parseImage img)).startLine.startEngine).light = s.light := startEngine_light _
  show { ((s.endLoading .configured (parseImage img)).startLine.startEngine).light with
    channels := Vector.ofFn fun i =>
      (((s.endLoading .configured (parseImage img)).startLine.startEngine).light.channels[i]).inGroups (parseGroups img)[i]
    scenes := parseScenes img } = _
  rw [same]

theorem configuredBlocks_pool (s : State) (img : List Byte) : (s.configuredBlocks img).pool = s.pool := by
  show State.pool (State.startEngine _) = _
  rw [startEngine_pool]; rfl

theorem configuredBlocks_sense (s : State) (img : List Byte) : (s.configuredBlocks img).sense =
    Vector.ofFn fun c => .begun (parseImage img).sense[c] := by
  show (Vector.ofFn fun c => SenseChannel.begun (State.startEngine _).cfg.sense[c]) = _
  rw [startEngine_cfg]; rfl

/-- The Time Base keeps P and φ, and takes the state the beacon capability gives (R27). -/
theorem configuredBlocks_time (s : State) (img : List Byte) : (s.configuredBlocks img).time =
    if (parseImage img).beaconCapable then
      { s.time with engine := .standby, silenceTimer := 25 + s.loader.address.getD 0 }
    else { s.time with engine := .listener, silenceTimer := 0 } := by
  show State.time (State.startEngine _) = _
  unfold State.startEngine
  show State.time (if (parseImage img).beaconCapable then _ else _) = _
  split <;> rfl

theorem configuredBlocks_table (s : State) (img : List Byte) : (s.configuredBlocks img).peer.table =
    ((s.endLoading .configured (parseImage img)).pinnedBy .A ++
      (s.endLoading .configured (parseImage img)).pinnedBy .B).dedup.map placeholder := by
  have pinned (ax : Axis) : (((s.endLoading .configured (parseImage img)).startLine.startEngine).pinnedBy ax) =
      (s.endLoading .configured (parseImage img)).pinnedBy ax := by
    simp only [State.pinnedBy, State.axisCfg, startEngine_cfg, startEngine_loader]; rfl
  rw [← pinned, ← pinned]; rfl

theorem exists_axis {p : Axis → Prop} : (∃ ax, p ax) ↔ p .A ∨ p .B := by
  constructor
  · rintro ⟨ax, h⟩
    cases ax
    · exact .inl h
    · exact .inr h
  · rintro (h | h) <;> exact ⟨_, h⟩

/-- The addresses in the table are those that a term names, in 1..62 and other than the own (R55). -/
theorem mem_configuredBlocks_table (s : State) (img : List Byte) (a : Nat) :
    (∃ e ∈ (s.configuredBlocks img).peer.table, e.address = a) ↔
      1 ≤ a ∧ a ≤ 62 ∧ s.loader.address ≠ some a ∧
        ∃ ax, ∃ x ∈ ((s.configuredBlocks img).axisCfg ax).terms, x.station = a := by
  have axisCfg (ax : Axis) : (s.endLoading .configured (parseImage img)).axisCfg ax = (s.configuredBlocks img).axisCfg ax := by
    rw [State.axisCfg, State.axisCfg, configuredBlocks_cfg]; rfl
  have address : (s.endLoading .configured (parseImage img)).loader.address = s.loader.address := rfl
  have pinned (ax : Axis) : a ∈ (s.endLoading .configured (parseImage img)).pinnedBy ax ↔
      (∃ x ∈ ((s.configuredBlocks img).axisCfg ax).terms, x.station = a) ∧ 1 ≤ a ∧ a ≤ 62 ∧ s.loader.address ≠ some a := by
    simp [State.pinnedBy, axisCfg, address, and_assoc]
  rw [configuredBlocks_table]
  have member : (∃ e ∈ ((s.endLoading .configured (parseImage img)).pinnedBy .A ++
      (s.endLoading .configured (parseImage img)).pinnedBy .B).dedup.map placeholder, e.address = a) ↔
      ∃ ax, a ∈ (s.endLoading .configured (parseImage img)).pinnedBy ax := by
    simp [placeholder, exists_axis]
  rw [member]
  simp only [pinned]
  constructor
  · rintro ⟨ax, named, low, high, foreign⟩; exact ⟨low, high, foreign, ax, named⟩
  · rintro ⟨low, high, foreign, ax, named⟩; exact ⟨ax, named, low, high, foreign⟩

/-- The record of an axis at the end of the command that ends LOADING (R163). -/
theorem formed_axis {v t : State} (formed : Formed v t) (record : ∀ ax, v.axis ax = v.formedRecord ax) (ax : Axis) :
    (t.axis ax).duty = 0 ∧ (t.axis ax).direction = none ∧
      ((t.axisCfg ax).kind = .none → t.axis ax = .disabled) ∧
      ((t.axisCfg ax).kind ≠ .none → (t.axis ax).referenced = t.switchRead ax .minus ∧
        (t.axis ax).position =
          if t.switchRead ax .minus = false ∧ t.switchRead ax .plus = true then (t.axisCfg ax).travelMax else 0) := by
  have axisCfg : t.axisCfg ax = v.axisCfg ax := by rw [State.axisCfg, formed.cfg]; rfl
  have read (d : Direction) := switchRead_congr formed.cfg formed.pins ax d
  rw [axisCfg, read, read]
  by_cases kind : (v.axisCfg ax).kind = .none
  · have off : v.axis ax = .disabled := (record ax).trans (formedRecord_of_none kind)
    have same : t.axis ax = .disabled := (formed.still ax (by rw [off]; rfl)).trans off
    rw [same]
    exact ⟨rfl, rfl, fun _ => rfl, fun some => absurd kind some⟩
  · obtain ⟨st, token, same⟩ := formed.axis ax (by rw [record]; exact formedRecord_moves v ax)
    rw [same, record, formedRecord_of_kind kind]
    refine ⟨rfl, rfl, fun none => absurd none kind, fun _ => ⟨rfl, ?_⟩⟩
    simp

end Sys2Proof.Machine
end

section
/-! PROOFS. The reports that a command leaves, taken one after another where no axis moves; and the end of LOADING in CONFIGURED of
a station between two commands. -/

namespace Sys2Proof.Machine

/-! ## Reports, taken one after another -/

/-- All that is left to take are reports of alarms that are clear; no axis moves, and the send queue has room for a notice each. -/
structure Reporting (s : State) : Prop where
  synced : s.synced
  within : s.safety.within = false
  held : ∀ ax, (s.axisSafety ax).held = s.heldNow ax
  still : ∀ ax, (s.axis ax).state.moves = false
  sends : s.sends = true
  nodup : s.safety.raised.Nodup
  clear : ∀ a ∈ s.safety.raised, s.alarmSet a = false
  room : s.line.queue.length + s.safety.raised.length ≤ 8

/-- The station with reports taken: these still wait, these alarms stand, this is the change count, and these notices joined the
send queue. -/
def State.told (s : State) (rest : List Alarm) (alarms : BitVec 23) (count : Byte) (notices : List SendFrame) : State :=
  (s.setSafety { s.safety with raised := rest, alarms := alarms, count := count }).setLine
    { s.line with queue := s.line.queue ++ notices }

theorem told_told (s : State) (rest rest' : List Alarm) (alarms alarms' : BitVec 23) (count count' : Byte)
    (notices notices' : List SendFrame) : (s.told rest alarms count notices).told rest' alarms' count' notices' =
      s.told rest' alarms' count' (notices ++ notices') := by
  show State.setLine _ { s.line with queue := (s.line.queue ++ notices) ++ notices' } = _
  rw [List.append_assoc]; rfl

theorem told_synced {s : State} (h : s.synced) (rest : List Alarm) (alarms : BitVec 23) (count : Byte) (notices : List SendFrame) :
    (s.told rest alarms count notices).synced :=
  (contentNow_congr rfl rfl rfl (fun _ => rfl) rfl rfl rfl rfl).trans h

/-- An alarm that is taken stands in the set instead of among the reports: what counts as set is the same (R174). -/
theorem told_heldNow {s : State} {rest : List Alarm} {alarms : BitVec 23} {count : Byte} {notices : List SendFrame}
    (counts : ∀ a : Alarm, (a.within alarms || rest.contains a) = s.alarmCounts a) (ax : Axis) :
    (s.told rest alarms count notices).heldNow ax = s.heldNow ax := by
  have same (a : Alarm) : (s.told rest alarms count notices).alarmCounts a = s.alarmCounts a := counts a
  have causes : (s.told rest alarms count notices).causes ax = s.causes ax := by
    simp only [State.causes, same]; rfl
  rw [State.heldNow, causes]; rfl

theorem newlySet_of_still {s : State} {a : Alarm} {ax : Axis} (still : (s.axis ax).state.moves = false) : s.newlySet a ax = s := by
  unfold State.newlySet; split
  · exact stopMoving_of_not_moves _ still
  · rfl

/-- The first report is taken: its alarm stands, the count is one higher, and its notice waits where the mask reports it (R174). -/
theorem takeReport_told {s : State} {a : Alarm} {rest : List Alarm} (h : Reporting s) (raised : s.safety.raised = a :: rest) :
    ∃ notices, notices.length ≤ 1 ∧ (s.setSafety { s.safety with raised := rest }).takeReport a =
      s.told rest (s.safety.alarms ||| a.mask) (s.safety.count + 1) notices := by
  generalize e : s.setSafety { s.safety with raised := rest } = u
  have station : u.station ≠ .loading := by
    intro loading
    have : s.station = .loading := by rw [← loading, ← e]; rfl
    have sends := h.sends
    simp [State.sends, this] at sends
  have clear : u.alarmSet a = false := by
    rw [← e]; exact h.clear a (by rw [raised]; exact List.mem_cons_self)
  have sends : u.sends = true := by rw [← e]; exact h.sends
  have still (ax : Axis) : ((u.setAlarm a).axis ax).state.moves = false := by
    rw [axis_of_motion (setAlarm_motion u a), ← e]; exact h.still ax
  rw [takeReport_of_new station clear, newlySet_of_still (still .A), newlySet_of_still (still .B), State.setAlarm]
  dsimp only
  split
  · have short : u.line.queue.length < 8 := by
      have room := h.room
      rw [raised, List.length_cons] at room
      rw [← e]; show s.line.queue.length < 8; omega
    refine ⟨[{ cls := 0, kind := 1, dest := 127, payload := some [byteOf a.code, s.safety.count + 1], onLine := false }], by simp, ?_⟩
    rw [offer_of_short_queue (s := u.setSafety { u.safety with alarms := u.safety.alarms ||| a.mask, count := u.safety.count + 1 }) _
      sends short, ← e]
    rfl
  · refine ⟨[], by simp, ?_⟩
    rw [← e, State.told, List.append_nil]; rfl

theorem alarmCounts_told {s : State} {a : Alarm} {rest : List Alarm} (raised : s.safety.raised = a :: rest) (b : Alarm) :
    (b.within (s.safety.alarms ||| a.mask) || rest.contains b) = s.alarmCounts b := by
  rw [State.alarmCounts, raised, within_or, within_mask, State.alarmSet, List.contains_cons, Bool.or_assoc]; rfl

theorem Reporting.step {s : State} {a : Alarm} {rest : List Alarm} {notices : List SendFrame} (h : Reporting s)
    (raised : s.safety.raised = a :: rest) (few : notices.length ≤ 1) :
    Reporting (s.told rest (s.safety.alarms ||| a.mask) (s.safety.count + 1) notices) := by
  have nodup := h.nodup
  have room := h.room
  rw [raised] at nodup room
  obtain ⟨new, distinct⟩ := List.nodup_cons.1 nodup
  refine ⟨told_synced h.synced _ _ _ _, h.within, fun ax => ?_, h.still, h.sends, distinct, fun b hb => ?_, ?_⟩
  · rw [told_heldNow (alarmCounts_told raised), ← h.held ax]; cases ax <;> rfl
  · have ne : b ≠ a := fun e => new (e ▸ hb)
    have clear := h.clear b (by rw [raised]; exact List.mem_cons_of_mem _ hb)
    show b.within (s.safety.alarms ||| a.mask) = false
    rw [State.alarmSet] at clear
    simp [within_or, within_mask, clear, ne]
  · show (s.line.queue ++ notices).length + rest.length ≤ 8
    simp only [List.length_append, List.length_cons] at room ⊢; omega

theorem Reporting.calm {s : State} (h : Reporting s) (none : s.safety.raised = []) : s.calm = true := by
  have stale (ax : Axis) : s.holdStale ax = false := by simp [State.holdStale, State.holdOn, h.within, h.held]
  exact (calm_iff s).2 ⟨none, h.within, h.synced, stale .A, stale .B⟩

theorem told_nothing {s : State} (none : s.safety.raised = []) : s.told [] s.safety.alarms (s.safety.count + 0) [] = s := by
  have line : { s.line with queue := s.line.queue ++ [] } = s.line := by rw [List.append_nil]
  have safety : { s.safety with raised := [], alarms := s.safety.alarms, count := s.safety.count + 0 } = s.safety := by
    have same : s.safety.count + 0 = s.safety.count := BitVec.add_zero _
    rw [same, ← none]
  rw [State.told, line, safety]; rfl

/-- Reports alone are taken in turn, and then nothing is left to take (R174). -/
theorem settle_of_reporting {l : List Alarm} {n : Nat} {s : State} (h : Reporting s) (raised : s.safety.raised = l)
    (enough : l.length ≤ n) : ∃ alarms notices,
      s.settle (n + 1) = s.told [] alarms (s.safety.count + BitVec.ofNat 8 l.length) notices ∧
      (∀ a : Alarm, a.within alarms = s.alarmCounts a) ∧ (s.settle (n + 1)).calm = true := by
  induction l generalizing s n with
  | nil =>
    have calm := h.calm raised
    rw [settle_of_calm n calm]
    exact ⟨s.safety.alarms, [], (told_nothing raised).symm, fun a => by simp [State.alarmCounts, State.alarmSet, raised], calm⟩
  | cons a rest ih =>
    obtain ⟨m, rfl⟩ : ∃ m, n = m + 1 := ⟨n - 1, by simp only [List.length_cons] at enough; omega⟩
    obtain ⟨first, few, taken⟩ := takeReport_told h raised
    have step : s.settle (m + 2) = (s.told rest (s.safety.alarms ||| a.mask) (s.safety.count + 1) first).settle (m + 1) := by
      rw [← taken]
      conv_lhs => unfold State.settle
      simp only [syncContent_of_synced h.synced, raised]
    obtain ⟨alarms, notices, after, stands, calm⟩ := ih (h.step raised few) rfl (by simpa using enough)
    rw [step]
    refine ⟨alarms, first ++ notices, ?_, fun b => ?_, calm⟩
    · rw [after, told_told]
      have count : s.safety.count + 1 + BitVec.ofNat 8 rest.length = s.safety.count + BitVec.ofNat 8 (a :: rest).length := by
        rw [List.length_cons, BitVec.add_assoc, Nat.add_comm, BitVec.ofNat_add]; rfl
      show State.told s [] alarms (s.safety.count + 1 + BitVec.ofNat 8 rest.length) _ = _
      rw [count]
    · rw [stands b]; exact alarmCounts_told raised b

/-! ## The scene a station powers on with -/

theorem leaveFades_free {s : State} (free : (freeSlot s.pool).isSome = true) (sel : Fin 24 → Bool) :
    (freeSlot (s.leaveFades sel).pool).isSome = true := by
  rw [freeSlot, List.find?_isSome] at free ⊢
  obtain ⟨k, mem, empty⟩ := free
  refine ⟨k, mem, ?_⟩
  have none : s.pool[k] = none := by simpa using empty
  have same : (s.leaveFades sel).pool[k] = (s.pool[k]).bind fun slot => slot.without (s.leaving sel k) := by
    simp [State.leaveFades]
  rw [same, none]; rfl

theorem goalCount_ne_zero {aims : Fin 24 → Option Nat} {i : Fin 24} {g : Nat} (goal : aims i = some g) : goalCount aims ≠ 0 := by
  intro zero
  rw [aims_of_no_goal zero i] at goal; cases goal

/-- A change with a fade time takes a free slot (R106, R112). -/
theorem changeLevels_fading {s : State} {aims : Fin 24 → Option Nat} {fade : Nat} (free : (freeSlot s.pool).isSome = true)
    (some : goalCount aims ≠ 0) (long : fade ≠ 0) : ∃ k : Fin 16, s.changeLevels aims fade =
      ((s.leaveFades fun i => (aims i).isSome).giveSlot k
        { owner := .light, length := fade, elapsed := 0, members := goalCount aims }).joinSlot aims k := by
  obtain ⟨k, slot⟩ := Option.isSome_iff_exists.1 (leaveFades_free free fun i => (aims i).isSome)
  refine ⟨k, ?_⟩
  unfold State.changeLevels
  rw [if_neg some]
  dsimp only
  rw [if_neg long, slot]

theorem changeLevels_safety_of_free {s : State} (aims : Fin 24 → Option Nat) (fade : Nat) (free : (freeSlot s.pool).isSome = true) :
    (s.changeLevels aims fade).safety = s.safety := by
  by_cases now : fade = 0
  · rw [now]; exact (relit_changeLevels_now s aims).safety
  · by_cases none : goalCount aims = 0
    · rw [State.changeLevels, if_pos none]
    · obtain ⟨k, fading⟩ := changeLevels_fading free none now
      rw [fading]; simp [State.joinSlot, State.giveSlot, State.leaveFades]

theorem changeLevels_fading_channel (s : State) (aims : Fin 24 → Option Nat) (k : Fin 16) (slot : Slot) {i : Fin 24} {g : Nat}
    (goal : aims i = some g) :
    (((s.leaveFades fun i => (aims i).isSome).giveSlot k slot).joinSlot aims k).light.channels[i] =
      { s.light.channels[i] with fade := some ⟨(s.light.channels[i]).level, g, k⟩ } := by
  simp [State.joinSlot, State.giveSlot, State.leaveFades, goal, Channel.join]

theorem changeLevels_fading_pool (s : State) (aims : Fin 24 → Option Nat) (k : Fin 16) (slot : Slot) :
    (((s.leaveFades fun i => (aims i).isSome).giveSlot k slot).joinSlot aims k).pool[k] = some slot := by
  simp [State.joinSlot, State.giveSlot]

theorem recallScene_safety_of_free {s : State} (scene : Fin 8) (sel : Fin 24 → Bool) (fade : Option Nat)
    (free : (freeSlot s.pool).isSome = true) : (s.recallScene scene sel fade).safety = s.safety :=
  (relit_markScene _ _ _).safety.trans (changeLevels_safety_of_free (s.sceneGoals scene sel) _ free)

theorem powerOn_safety_of_free {s : State} (free : (freeSlot s.pool).isSome = true) : s.powerOn.safety = s.safety := by
  unfold State.powerOn; split
  · exact beginOverride_safety s
  · split
    · exact recallScene_safety_of_free _ _ _ free
    · rfl

/-- What the power-on scene makes of a channel with a level in it (R86, R100, R106). -/
structure PoweredOn (s t : State) (x : Fin 8) (i : Fin 24) (level : Nat) : Prop where
  lastScene : (t.light.channels[i]).lastScene = some x
  now : s.light.scenes[x].fadeTime = 0 → (t.light.channels[i]).level = level ∧ (t.light.channels[i]).fade = none
  fading : s.light.scenes[x].fadeTime ≠ 0 → ∃ k : Fin 16,
    (t.light.channels[i]).fade = some { start := (s.light.channels[i]).level, goal := level, slot := k } ∧
      ∃ m, t.pool[k] = some { owner := .light, length := s.light.scenes[x].fadeTime, elapsed := 0, members := m }

theorem poweredOn_recallScene {s : State} {x : Fin 8} {i : Fin 24} {level : Nat} (free : (freeSlot s.pool).isSome = true)
    (goal : s.light.scenes[x].levels[i] = some level) : PoweredOn s (s.recallScene x (fun _ => true) none) x i level := by
  have aim : s.sceneGoals x (fun _ => true) i = some level := by simpa [State.sceneGoals] using goal
  have aimed : (s.sceneGoals x (fun _ => true) i).isSome = true := by rw [aim]; rfl
  unfold State.recallScene
  generalize s.sceneGoals x (fun _ => true) = aims at *
  refine ⟨?_, fun now => ?_, fun long => ?_⟩
  · dsimp only
    rw [markScene_channel, if_pos aimed]
  · dsimp only [Option.getD_none]
    rw [markScene_channel, if_pos aimed, now, changeLevels_now_channel, aim]
    exact ⟨rfl, rfl⟩
  · dsimp only [Option.getD_none]
    obtain ⟨k, fading⟩ := changeLevels_fading (fade := s.light.scenes[x].fadeTime) free (goalCount_ne_zero aim) long
    have pool (u : State) : (u.markScene aims (some x)).pool = u.pool := by simp [State.markScene]
    refine ⟨k, ?_, goalCount aims, ?_⟩
    · rw [markScene_channel, if_pos aimed, fading, changeLevels_fading_channel s aims k _ aim]
    · rw [pool, fading, changeLevels_fading_pool]

/-- Under ALLSTOP with RECALL the override is in force and the alert scene stands (R97, R100). -/
theorem powerOn_alert {s : State} {x : Fin 8} {i : Fin 24} {level : Nat} (allstop : s.line.allstop = true)
    (row : s.cfg.trigger.allstop.lightAction = .recall) (goal : s.light.scenes[x].levels[i] = some level) :
    s.powerOn.light.override = true ∧ (s.cfg.alertScene = some x →
      (s.powerOn.light.channels[i]).level = level ∧ (s.powerOn.light.channels[i]).fade = none ∧
        (s.powerOn.light.channels[i]).lastScene = some x) := by
  have effect : s.powerOn = s.beginOverride := by simp [State.powerOn, allstop, row]
  rw [effect]
  refine ⟨by rw [(beginOverride_relit s).light]; rfl, fun scene => ?_⟩
  have given := recallAlert_channel (s := (s.setLight { s.light with override := true }).stopRun) scene goal
  show ((State.recallAlert _).light.channels[i]).level = _ ∧ ((State.recallAlert _).light.channels[i]).fade = _ ∧
    ((State.recallAlert _).light.channels[i]).lastScene = _
  rw [given]; exact ⟨rfl, rfl, rfl⟩

theorem powerOn_scene {s : State} {x : Fin 8} {i : Fin 24} {level : Nat} (free : (freeSlot s.pool).isSome = true)
    (plain : s.line.allstop = false ∨ s.cfg.trigger.allstop.lightAction = .none) (scene : s.cfg.powerOnScene = some x)
    (goal : s.light.scenes[x].levels[i] = some level) : PoweredOn s s.powerOn x i level := by
  have effect : s.powerOn = s.recallScene x (fun _ => true) none := by
    rcases plain with h | h <;> simp [State.powerOn, h, scene]
  rw [effect]; exact poweredOn_recallScene free goal

end Sys2Proof.Machine
end

section
/-! PROOFS. The end of LOADING in CONFIGURED of a station between two commands, and the statement of it. -/

namespace Sys2Proof.Machine

theorem mem_formedReports (s : State) (a : Alarm) : a ∈ s.formedReports ↔
    a = .allstopSeen ∧ s.line.allstop = true ∨ ∃ ax, a = .endConflict ax ∧ s.inConflict ax = true := by
  rw [exists_axis, State.formedReports]
  cases s.line.allstop <;> cases s.inConflict .A <;> cases s.inConflict .B <;> simp

theorem length_formedReports (s : State) :
    s.formedReports.length = bit s.line.allstop + bit (s.inConflict .A) + bit (s.inConflict .B) := by
  rw [State.formedReports]
  cases s.line.allstop <;> cases s.inConflict .A <;> cases s.inConflict .B <;> rfl

theorem nodup_formedReports (s : State) : s.formedReports.Nodup := by
  rw [State.formedReports]
  cases s.line.allstop <;> cases s.inConflict .A <;> cases s.inConflict .B <;> decide

/-- The safety part of a state as it is formed in an awake station with an empty send queue and a free slot. -/
structure Forming (v : State) : Prop where
  sends : v.sends = true
  queue : v.line.queue = []
  free : (freeSlot v.pool).isSome = true
  within : v.safety.within = false
  held : ∀ ax, (v.axisSafety ax).held = v.heldNow ax
  still : ∀ ax, (v.axis ax).state.moves = false
  alarms : v.safety.alarms = 0
  nodup : v.safety.raised.Nodup
  few : v.safety.raised.length ≤ 7

theorem clear_of_none {v : State} (h : v.safety.alarms = 0) (a : Alarm) : v.alarmSet a = false := by
  rw [State.alarmSet, h]; simp [Alarm.within]

/-- The first announcement and the power-on scene leave the reports to take, and nothing else (R51, R100, R182). -/
theorem Forming.reporting {v : State} (h : Forming v) : Reporting v.startAnnouncing.powerOn ∧
    v.startAnnouncing.powerOn.safety = v.safety ∧ v.startAnnouncing.powerOn.motion = v.motion ∧
    v.startAnnouncing.powerOn.line = { v.line with queue := [announceFrame] } ∧
    v.startAnnouncing.powerOn.peer.counter = v.cfg.interval ∧ v.startAnnouncing.powerOn.cfg = v.cfg := by
  have first := startAnnouncing_of_empty h.sends h.queue
  have content : v.startAnnouncing.peer.content = v.contentNow := by rw [first]; rfl
  have counter : v.startAnnouncing.peer.counter = v.cfg.interval := by rw [first]; rfl
  have line : v.startAnnouncing.line = { v.line with queue := [announceFrame] } := by rw [first]; rfl
  have now : v.startAnnouncing.contentNow = v.contentNow := by
    rw [first]; exact contentNow_congr rfl rfl rfl (fun _ => rfl) rfl rfl rfl rfl
  have safety : v.startAnnouncing.safety = v.safety := by rw [first]; rfl
  have motion : v.startAnnouncing.motion = v.motion := by rw [first]; rfl
  have cfg : v.startAnnouncing.cfg = v.cfg := by rw [first]; rfl
  have loader : v.startAnnouncing.loader = v.loader := by rw [first]; rfl
  have free : (freeSlot v.startAnnouncing.pool).isSome = true := by rw [first]; exact h.free
  have lit := lit_powerOn v.startAnnouncing
  have calmed := (powerOn_safety_of_free free).trans safety
  clear first
  generalize v.startAnnouncing = w at *
  generalize w.powerOn = x at *
  have lineX : x.line = { v.line with queue := [announceFrame] } := lit.line.trans line
  have motionX : x.motion = v.motion := lit.motion.trans motion
  have cfgX : x.cfg = v.cfg := lit.cfg.trans cfg
  have heldX (ax : Axis) : x.heldNow ax = v.heldNow ax :=
    heldNow_congr cfgX (by rw [calmed]) (by rw [calmed]) (by rw [calmed]) (by rw [lineX]) (by rw [lineX]) ax
  refine ⟨⟨?_, by rw [calmed]; exact h.within, fun ax => ?_, fun ax => ?_, ?_, by rw [calmed]; exact h.nodup, fun a _ => ?_, ?_⟩,
    calmed, motionX, lineX, by rw [lit.peer, counter], cfgX⟩
  · have same : x.contentNow = w.contentNow := contentNow_congr lit.pins lit.cfg (by rw [lit.cmd]) (fun c => by rw [lit.sense]) lit.motion
      (by rw [lit.time]) (by rw [lit.time]) (by rw [lit.line])
    rw [State.synced, same, now, lit.peer, content]
  · rw [axisSafety_of_safety calmed, heldX]; exact h.held ax
  · rw [axis_of_motion motionX]; exact h.still ax
  · rw [State.sends, State.station, lit.loader, loader]; exact h.sends
  · exact clear_of_none (by rw [calmed]; exact h.alarms) a
  · rw [lineX, calmed]; have := h.few; show 1 + _ ≤ 8; omega

/-- What the end of the command leaves of a state as it is formed in an awake station. -/
structure Opened (v t : State) : Prop where
  announced : announceFrame ∈ t.line.queue
  counter : t.peer.counter = v.cfg.interval
  holdOff : t.safety.holdOff = v.safety.holdOff
  alarmSet : ∀ a, t.alarmSet a = v.alarmCounts a
  count : t.safety.count = v.safety.count + BitVec.ofNat 8 v.safety.raised.length
  axisSafety : ∀ ax, t.axisSafety ax = v.axisSafety ax
  held : ∀ ax, t.heldNow ax = v.heldNow ax
  axis : ∀ ax, t.axis ax = v.axis ax
  channels : t.light.channels = v.startAnnouncing.powerOn.light.channels
  override : t.light.override = v.startAnnouncing.powerOn.light.override
  pool : t.pool = v.startAnnouncing.powerOn.pool

theorem told_light (s : State) (rest : List Alarm) (alarms : BitVec 23) (count : Byte) (notices : List SendFrame) :
    (s.told rest alarms count notices).light = s.light := rfl

theorem told_pool (s : State) (rest : List Alarm) (alarms : BitVec 23) (count : Byte) (notices : List SendFrame) :
    (s.told rest alarms count notices).pool = s.pool := rfl

theorem publish_heldNow (s : State) (ax : Axis) : s.publish.heldNow ax = s.heldNow ax := rfl

theorem Forming.opened {v : State} (h : Forming v) : Opened v v.startAnnouncing.powerOn.finish := by
  obtain ⟨reporting, safety, motion, line, counter, cfg⟩ := h.reporting
  generalize e : v.startAnnouncing.powerOn = x at reporting safety motion line counter cfg ⊢
  have few : x.safety.raised.length ≤ 127 := by rw [safety]; have := h.few; omega
  obtain ⟨alarms, notices, settled, stands, -⟩ := settle_of_reporting reporting rfl few
  have finish : x.finish =
      (x.told [] alarms (x.safety.count + BitVec.ofNat 8 x.safety.raised.length) notices).publish := by
    rw [State.finish, setWithin_same reporting.within, State.settled, settled]
  have counts (a : Alarm) : x.alarmCounts a = v.alarmCounts a := by simp [State.alarmCounts, State.alarmSet, safety]
  have heldX (ax : Axis) : x.heldNow ax = v.heldNow ax :=
    heldNow_congr cfg (by rw [safety]) (by rw [safety]) (by rw [safety]) (by rw [line]) (by rw [line]) ax
  rw [finish]
  refine ⟨?_, counter, ?_, fun a => (stands a).trans (counts a), ?_, fun ax => ?_, fun ax => ?_,
    fun ax => ?_, by rw [e, publish_channels, told_light],
    by rw [e, publish_light, told_light], by rw [e, publish_pool, told_pool]⟩
  · show announceFrame ∈ x.line.queue ++ notices
    rw [line]; simp
  · show x.safety.holdOff = _
    rw [safety]
  · show x.safety.count + BitVec.ofNat 8 x.safety.raised.length = _
    rw [safety]
  · rw [publish_axisSafety, ← axisSafety_of_safety safety ax]; cases ax <;> rfl
  · rw [publish_heldNow, told_heldNow (fun a => by rw [stands a]; simp), heldX]
  · rw [publish_axis]; exact axis_of_motion motion ax

/-! ## The state formed from a good image -/

/-- The station with every block at its values from the image, before the first announcement and the power-on scene (R189). -/
def State.formedBy (s : State) (img : List Byte) : State := (s.configuredBlocks img).startSafety 0

theorem configure_formedBy (s : State) (img : List Byte) : s.configure img = (s.formedBy img).startAnnouncing.powerOn := rfl

theorem formedBy_cfg (s : State) (img : List Byte) : (s.formedBy img).cfg = parseImage img := by
  rw [State.formedBy, startSafety_cfg, configuredBlocks_cfg]
theorem formedBy_pins (s : State) (img : List Byte) : (s.formedBy img).pins = s.pins := by
  rw [State.formedBy, startSafety_pins, configuredBlocks_pins]
theorem formedBy_line (s : State) (img : List Byte) : (s.formedBy img).line =
    { s.line with budget := (parseImage img).budget, silence := 0, erratic := false, silent := false } := by
  rw [State.formedBy, startSafety_line, configuredBlocks_line]
theorem formedBy_loader (s : State) (img : List Byte) : (s.formedBy img).loader =
    { s.loader with station := .configured, staging := [] } := by
  rw [State.formedBy, startSafety_loader, configuredBlocks_loader]
theorem formedBy_pool (s : State) (img : List Byte) : (s.formedBy img).pool = s.pool := by
  rw [State.formedBy, startSafety_pool, configuredBlocks_pool]
theorem formedBy_light (s : State) (img : List Byte) : (s.formedBy img).light = { s.light with
    channels := Vector.ofFn fun i => s.light.channels[i].inGroups (parseGroups img)[i], scenes := parseScenes img } := by
  rw [State.formedBy, startSafety_light, configuredBlocks_light]

theorem formedBy_sense (s : State) (img : List Byte) : (s.formedBy img).sense =
    Vector.ofFn fun c => .begun (parseImage img).sense[c] := by
  rw [State.formedBy, startSafety_sense, configuredBlocks_sense]
theorem formedBy_time (s : State) (img : List Byte) : (s.formedBy img).time =
    if (parseImage img).beaconCapable then
      { s.time with engine := .standby, silenceTimer := 25 + s.loader.address.getD 0 }
    else { s.time with engine := .listener, silenceTimer := 0 } := by
  rw [State.formedBy, startSafety_time, configuredBlocks_time]

/-- P and φ are kept (R27). -/
theorem formedBy_phase (s : State) (img : List Byte) :
    (s.formedBy img).time.p = s.time.p ∧ (s.formedBy img).time.elapsed = s.time.elapsed := by
  rw [formedBy_time]; split <;> exact ⟨rfl, rfl⟩

theorem formedBy_channel (s : State) (img : List Byte) (i : Fin 24) :
    (s.formedBy img).light.channels[i] = s.light.channels[i].inGroups (parseGroups img)[i] := by
  rw [formedBy_light]; simp

theorem formedBy_inConflict (s : State) (img : List Byte) (ax : Axis) :
    (s.configuredBlocks img).inConflict ax = (s.formedBy img).inConflict ax :=
  inConflict_congr (by rw [configuredBlocks_cfg, formedBy_cfg]) (by rw [configuredBlocks_pins, formedBy_pins]) ax

theorem formedBy_record (s : State) (img : List Byte) (ax : Axis) :
    (s.formedBy img).axis ax = (s.formedBy img).formedRecord ax := startSafety_formedRecord _ 0 ax

/-- The entries of the table are placeholders (R55). -/
theorem formedBy_table {s : State} {img : List Byte} {e : PeerEntry} (mem : e ∈ (s.formedBy img).peer.table) :
    e.content = none ∧ e.age = 0 ∧ e.fresh = false ∧ e.pinned = true := by
  rw [State.formedBy, startSafety_peer, configuredBlocks_table, List.mem_map] at mem
  obtain ⟨a, -, rfl⟩ := mem
  exact ⟨rfl, rfl, rfl, rfl⟩

theorem mem_formedBy_table (s : State) (img : List Byte) (a : Nat) : (∃ e ∈ (s.formedBy img).peer.table, e.address = a) ↔
    1 ≤ a ∧ a ≤ 62 ∧ s.loader.address ≠ some a ∧ ∃ ax, ∃ x ∈ ((s.formedBy img).axisCfg ax).terms, x.station = a := by
  have axisCfg (ax : Axis) : (s.formedBy img).axisCfg ax = (s.configuredBlocks img).axisCfg ax := by
    rw [State.axisCfg, State.axisCfg, formedBy_cfg, configuredBlocks_cfg]
  rw [State.formedBy, startSafety_peer, mem_configuredBlocks_table]
  simp only [← axisCfg]; rfl

/-- No term is satisfied as the station starts: no entry is fresh (R172, R182). -/
theorem formedBy_permittedNow (s : State) (img : List Byte) (ax : Axis) (d : Direction) : (s.formedBy img).permittedNow ax d =
    ((s.formedBy img).axisCfg ax).terms.all fun x => !scopeCovers x.scope d := by
  have unsatisfied (x : Term) : (s.formedBy img).termSatisfied x = false := by
    rw [State.termSatisfied, Bool.and_eq_false_iff, List.any_eq_false]
    refine .inr fun e mem => ?_
    obtain ⟨-, -, stale, -⟩ := formedBy_table mem
    simp [stale]
  simp only [State.permittedNow, unsatisfied, Bool.or_false]

theorem formedBy_safety {s : State} (img : List Byte) (none : s.safety.raised = []) :
    (s.formedBy img).safety.alarms = 0 ∧ (s.formedBy img).safety.count = 0 ∧ (s.formedBy img).safety.holdOff = 0 ∧
      (s.formedBy img).safety.raised = (s.configuredBlocks img).formedReports ∧
      (s.formedBy img).safety.within = s.safety.within := by
  have grounds := sameGrounds_startSafety (s.configuredBlocks img) 0
  have safety := formAlarms_safety (s := s.configuredBlocks img) 0 (by rw [configuredBlocks_safety]; exact none)
  refine ⟨grounds.alarms.trans ?_, grounds.count.trans ?_, grounds.holdOff.trans ?_,
    grounds.raised.trans ?_, grounds.within.trans ?_⟩ <;>
    rw [safety]
  rw [configuredBlocks_safety]

/-- The state formed in a station between two commands. -/
theorem formedBy_forming {s : State} {img : List Byte} (calm : s.calm = true) (queue : s.line.queue = [])
    (free : (freeSlot s.pool).isSome = true) : Forming (s.formedBy img) := by
  obtain ⟨none, within, -⟩ := (calm_iff s).1 calm
  obtain ⟨alarms, -, -, raised, same⟩ := formedBy_safety img none
  have few := length_formedReports (s.configuredBlocks img)
  have each (c : Bool) : bit c ≤ 1 := by cases c <;> decide
  exact {
    sends := by rw [State.sends, State.station, formedBy_loader]; rfl
    queue := by rw [formedBy_line]; exact queue
    free := by rw [formedBy_pool]; exact free
    within := same.trans within
    held := fun ax => (startSafety_axisSafety _ 0 ax).1
    still := fun ax => by rw [formedBy_record]; exact formedRecord_moves _ ax
    alarms := alarms
    nodup := by rw [raised]; exact nodup_formedReports _
    few := by
      rw [raised, few]
      have := each (s.configuredBlocks img).line.allstop
      have := each ((s.configuredBlocks img).inConflict .A)
      have := each ((s.configuredBlocks img).inConflict .B)
      omega }

theorem startAnnouncing_kept {s : State} (sends : s.sends = true) (queue : s.line.queue = []) :
    s.startAnnouncing.light = s.light ∧ s.startAnnouncing.pool = s.pool ∧ s.startAnnouncing.line.allstop = s.line.allstop := by
  rw [startAnnouncing_of_empty sends queue]; exact ⟨rfl, rfl, rfl⟩

/-- The record of an axis that is configured, after the command that ends LOADING in an awake station (R163). -/
theorem opened_axis {s t : State} {img : List Byte} (formed : Formed (s.formedBy img) t) (opened : Opened (s.formedBy img) t) (ax : Axis)
    (kind : (t.axisCfg ax).kind ≠ .none) : (t.axis ax).token = 0 ∧
      (t.axis ax).state = (if t.inConflict ax = true then .fault else if t.heldNow ax = true then .held else .stopped) ∧
      (t.axis ax).reason = if t.inConflict ax = true then .endConflict else .none := by
  have axisCfg : t.axisCfg ax = (s.formedBy img).axisCfg ax := by rw [State.axisCfg, formed.cfg]; rfl
  have conflict := inConflict_congr formed.cfg formed.pins ax
  rw [opened.axis, formedBy_record, formedRecord_of_kind (by rw [← axisCfg]; exact kind), conflict, opened.held]
  exact ⟨rfl, rfl, rfl⟩

/-- What the lights are after the command that ends LOADING in an awake station, of a channel with a level in a scene (R100). -/
theorem opened_lights {s t : State} {img : List Byte} (formed : Formed (s.formedBy img) t) (opened : Opened (s.formedBy img) t)
    (forming : Forming (s.formedBy img)) {x : Fin 8} {i : Fin 24} {level : Nat}
    (goal : t.light.scenes[x].levels[i] = some level) :
    (s.line.allstop = true → t.cfg.trigger.allstop.lightAction = .recall → t.light.override = true ∧
      (t.cfg.alertScene = some x → (t.light.channels[i]).level = level ∧ (t.light.channels[i]).fade = none ∧
        (t.light.channels[i]).lastScene = some x)) ∧
    (s.line.allstop = false ∨ t.cfg.trigger.allstop.lightAction = .none → t.cfg.powerOnScene = some x →
      (t.light.channels[i]).lastScene = some x ∧
      (t.light.scenes[x].fadeTime = 0 → (t.light.channels[i]).level = level ∧ (t.light.channels[i]).fade = none) ∧
      (t.light.scenes[x].fadeTime ≠ 0 → ∃ k : Fin 16,
        (t.light.channels[i]).fade = some { start := (s.light.channels[i]).level, goal := level, slot := k } ∧
        ∃ m, t.pool[k] = some { owner := .light, length := t.light.scenes[x].fadeTime, elapsed := 0, members := m })) := by
  obtain ⟨light, lit, sameLine⟩ := startAnnouncing_kept forming.sends forming.queue
  have cfg : (s.formedBy img).startAnnouncing.cfg = t.cfg := (trails_startAnnouncing _).cfg.trans formed.cfg.symm
  have free : (freeSlot (s.formedBy img).startAnnouncing.pool).isSome = true := by rw [lit]; exact forming.free
  have allstop : (s.formedBy img).startAnnouncing.line.allstop = s.line.allstop := by
    rw [sameLine, formedBy_line]
  have start : ((s.formedBy img).light.channels[i]).level = (s.light.channels[i]).level := by
    rw [formedBy_channel, Channel.inGroups]
  have channels := opened.channels
  have override := opened.override
  have pool := opened.pool
  have scenes := formed.scenes
  rw [← light] at start scenes
  rw [← cfg, ← allstop, channels, override, pool, scenes]
  rw [scenes] at goal
  rw [← start]
  generalize (s.formedBy img).startAnnouncing = w at *
  refine ⟨fun stop row => powerOn_alert stop row goal, fun plain scene => ?_⟩
  have powered := powerOn_scene free plain scene goal
  exact ⟨powered.lastScene, powered.now, powered.fading⟩

theorem judgeImage_of_good {s : State} {bytes : List Byte} (whole : s.loader.staging.length + bytes.length = 1024)
    (good : goodImage (s.loader.staging ++ bytes) (crcFrom s.loader.check (bitsOfBytes bytes)) = true) :
    (s.feed bytes).judgeImage = (s.feed bytes).configure (s.loader.staging ++ bytes) := by
  have fed := feed_of_room (s := s) (bytes := bytes) (by omega)
  have staging : (s.feed bytes).loader.staging = s.loader.staging ++ bytes := by rw [fed]; rfl
  have check : (s.feed bytes).loader.check = crcFrom s.loader.check (bitsOfBytes bytes) := by rw [fed]; rfl
  rw [State.judgeImage, staging, check, if_neg (by rw [List.length_append]; omega), if_pos good]

/-- Settles O5: each block keeps to the end of the command what `formedBy` gives it. -/
theorem goodImageConfiguresEveryBlock : Obligations.GoodImageConfiguresEveryBlock := by
  intro s bytes running loading whole good
  have fed := feed_of_room (s := s) (bytes := bytes) (by omega)
  have judged := judgeImage_of_good whole good
  have address : (s.feed bytes).loader.address = s.loader.address := by rw [fed]; rfl
  have light : (s.feed bytes).light = s.light := by rw [fed]; rfl
  have line : (s.feed bytes).line = s.line := by rw [fed]; rfl
  have time : (s.feed bytes).time = s.time := by rw [fed]; rfl
  have calm (awake : s.awake = true) : (s.feed bytes).calm = true := by
    have between := calm_of_awake awake
    rw [fed]; exact between
  have answers : exec (.imageJudged bytes) s = .next (s.feed bytes).judgeImage.finish :=
    event_of_due running (by simpa using loading) _
  rw [judged, configure_formedBy] at answers
  have pool : (s.feed bytes).pool = s.pool := by rw [fed]; rfl
  clear fed judged
  generalize s.loader.staging ++ bytes = img at *
  generalize s.feed bytes = u at *
  have formed := formed_finish (u.formedBy img)
  have opens (forming : Forming (u.formedBy img)) := forming.opened
  generalize (u.formedBy img).startAnnouncing.powerOn.finish = t at *
  have axisCfg (ax : Axis) : t.axisCfg ax = (u.formedBy img).axisCfg ax := by rw [State.axisCfg, formed.cfg]; rfl
  have cfg : t.cfg = parseImage img := formed.cfg.trans (formedBy_cfg u img)
  have conflict (ax : Axis) : (u.configuredBlocks img).inConflict ax = t.inConflict ax :=
    (formedBy_inConflict u img ax).trans (inConflict_congr formed.cfg formed.pins ax).symm
  have loaderT := formed.loader.trans (formedBy_loader u img)
  have lineT := formed.line
  rw [formedBy_line] at lineT
  refine ⟨t, answers, ?_⟩
  dsimp only
  refine ⟨?_, ?_, cfg, ?_, ?_, ?_, ?_, ?_, ?_, ?_, ?_, ?_, ?_, ?_, ?_, ?_, fun ax => formed_axis formed (formedBy_record u img) ax, ?_⟩
  · rw [State.station, loaderT]
  · rw [loaderT]; exact address
  · rw [lineT, cfg]
  · rw [lineT]
  · rw [lineT]
  · rw [lineT]
  · rw [formed.time, (formedBy_phase u img).1, time]
  · rw [State.phi, formed.time, (formedBy_phase u img).2, time]; rfl
  · intro capable
    rw [cfg] at capable
    rw [formed.time, formedBy_time, if_pos capable, address]; exact ⟨rfl, rfl⟩
  · intro incapable
    rw [cfg] at incapable
    rw [formed.time, formedBy_time, if_neg (by simp [incapable])]
  · intro e mem
    exact formedBy_table (by rw [← formed.table]; exact mem)
  · intro a
    rw [formed.table, mem_formedBy_table, address]
    simp only [axisCfg]
  · rw [formed.scenes, formedBy_light]
  · intro i
    rw [formed.groups, formedBy_channel, Channel.inGroups]
  · intro c
    rw [formed.sense, formedBy_sense, cfg]
    simp [SenseChannel.begun]
  · intro awake queue free
    have between := calm awake
    have forming := formedBy_forming (img := img) between (by rw [line]; exact queue) (by rw [pool]; exact free)
    have opened := opens forming
    obtain ⟨alarms, count, holdOff, raised, -⟩ := formedBy_safety img ((calm_iff u).1 between).1
    have allstop : (u.configuredBlocks img).line.allstop = s.line.allstop := by rw [configuredBlocks_line, line]
    refine ⟨opened.announced, ?_, opened.holdOff.trans holdOff, fun a => ?_, ?_, fun ax => ⟨?_, fun d => ?_,
      opened_axis formed opened ax⟩, fun x i level goal => ?_⟩
    · rw [opened.counter, formed.cfg]
    · rw [opened.alarmSet, State.alarmCounts, clear_of_none alarms, raised, Bool.false_or, List.contains_iff_mem,
        mem_formedReports, allstop]
      simp only [conflict]
    · rw [opened.count, count, raised, length_formedReports, allstop, conflict, conflict]; simp
    · rw [opened.axisSafety, opened.held]; exact forming.held ax
    · rw [opened.axisSafety, axisCfg, ← formedBy_permittedNow]; exact (startSafety_axisSafety _ 0 ax).2 d
    · have lights := opened_lights formed opened forming goal
      rw [line, light] at lights
      exact lights

end Sys2Proof.Machine
end

section
/-! PROOFS. RESTART, in any state: what it empties and what it keeps. -/

namespace Sys2Proof.Machine

/-! ## The parts of a soft restart -/

/-- Every block but the axes, the alarms and the announcement, restarted (R24, R44, R60, R78, R104, R115). -/
def State.restartedBlocks (s : State) : State :=
  ((s.restartLine.restartCmd).setTime { s.time with schedule := [] }).restartLights

/-- With the alarm set cleared, and what lasts set again (R177, R183). -/
def State.restartedAlarms (s : State) : State := s.restartedBlocks.clearAndSetAgain (BitVec.allOnes 23)

theorem softRestart_eq (s : State) :
    s.softRestart = ((s.restartedAlarms.restartAxis .A).restartAxis .B).announceRequest := rfl

theorem trails_foldl {α : Type} {f : State → α → State} (h : ∀ s x, Trails s (f s x)) (l : List α) (s : State) :
    Trails s (l.foldl f s) := by
  induction l generalizing s with
  | nil => exact .refl s
  | cons x l ih => exact (h s x).trans (ih _)

theorem foldl_setAlarm_motion (l : List Alarm) (s : State) : (l.foldl State.setAlarm s).motion = s.motion := by
  induction l generalizing s with
  | nil => rfl
  | cons a l ih => exact (ih _).trans (setAlarm_motion s a)

theorem trails_restartedAlarms (s : State) : Trails (s.restartedBlocks.clearAlarms (BitVec.allOnes 23)) s.restartedAlarms :=
  trails_foldl trails_setAlarm _ _

theorem restartedAlarms_motion (s : State) : s.restartedAlarms.motion = s.restartedBlocks.motion :=
  foldl_setAlarm_motion _ _

theorem trails_restartAxis (s : State) (ax : Axis) : Trails s (s.restartAxis ax) := by
  unfold State.restartAxis; split
  case h_5 st =>
    split
    · exact .refl s
    · exact trails_rest s ax (by simp [st])
  case h_1 st | h_2 st | h_3 st | h_4 st => exact trails_restFor s ax _ (by simp [st])
  all_goals exact .refl s

theorem restartAxis_axis_ne (s : State) {ax x : Axis} (h : x ≠ ax) : (s.restartAxis ax).axis x = s.axis x := by
  unfold State.restartAxis; split
  case h_5 =>
    split
    · rfl
    · exact rest_axis_ne s h
  case h_1 | h_2 | h_3 | h_4 => exact restFor_axis_ne s _ h
  all_goals rfl

theorem not_rests_of_motorPowered {st : AxisState} (h : st.motorPowered = true) : st.rests = false := by
  cases st <;> simp_all [AxisState.rests, AxisState.motorPowered]

theorem not_motorPowered_of_rests {st : AxisState} (h : st.rests = true) : st.motorPowered = false := by
  cases st <;> simp_all [AxisState.rests, AxisState.motorPowered]

theorem restState_rests (c : Bool) : (if c then AxisState.held else .stopped).rests = true := by cases c <;> rfl

theorem restartAxis_of_motorPowered {s : State} {ax : Axis} (h : (s.axis ax).state.motorPowered = true) :
    s.restartAxis ax = s.restFor ax .restart := by
  unfold State.restartAxis
  cases st : (s.axis ax).state <;> simp_all [AxisState.motorPowered]

/-- A motor-powered axis comes to rest for the restart (R164). -/
theorem restartAxis_stops {s : State} {ax : Axis} (h : (s.axis ax).state.motorPowered = true) :
    ((s.restartAxis ax).axis ax).state.rests = true ∧ ((s.restartAxis ax).axis ax).reason = .restart ∧
      ((s.restartAxis ax).axis ax).duty = 0 := by
  rw [restartAxis_of_motorPowered h, restFor_axis_self s ax _ (not_rests_of_motorPowered h)]
  exact ⟨restState_rests _, rfl, rfl⟩

/-- No axis is motor-powered after its part of the restart (R164). -/
theorem restartAxis_motorPowered (s : State) (ax : Axis) : ((s.restartAxis ax).axis ax).state.motorPowered = false := by
  cases powered : (s.axis ax).state.motorPowered
  · by_cases fault : (s.axis ax).state = .fault
    · have effect : s.restartAxis ax = if s.inConflict ax then s else s.rest ax := by rw [State.restartAxis, fault]
      rw [effect]; split
      · exact powered
      · rw [rest_axis_self s ax (by rw [fault]; rfl)]; exact not_motorPowered_of_rests (restState_rests _)
    · have same : s.restartAxis ax = s := by
        unfold State.restartAxis
        cases st : (s.axis ax).state <;> simp_all [AxisState.motorPowered]
      rw [same]; exact powered
  · exact not_motorPowered_of_rests (restartAxis_stops powered).1

/-- What the end of a command leaves of an axis without power. -/
theorem Rests.unpowered {s t : State} (h : Rests s t) {ax : Axis} (k : (s.axis ax).state.motorPowered = false) :
    (t.axis ax).state.motorPowered = false ∧ (t.axis ax).reason = (s.axis ax).reason ∧ (t.axis ax).duty = (s.axis ax).duty := by
  cases r : (s.axis ax).state.rests
  · have moves : (s.axis ax).state.moves = false := by
      cases st : (s.axis ax).state <;> simp_all [AxisState.moves, AxisState.motorPowered]
    rw [h.still ax moves r]; exact ⟨k, rfl, rfl⟩
  · obtain ⟨st, token, rs, same⟩ := h.rest ax r
    rw [same]; exact ⟨not_motorPowered_of_rests rs, rfl, rfl⟩

/-! ## From the restarted blocks to the end of the command -/

theorem restartedBlocks_channel (s : State) (i : Fin 24) : s.restartedBlocks.light.channels[i] = s.light.channels[i].completeAny := by
  simp [State.restartedBlocks, State.restartLights, State.stopRun, State.restartLine, State.restartCmd]

theorem restartedBlocks_axis (s : State) (ax : Axis) : s.restartedBlocks.axis ax = { s.axis ax with slot := none } := by
  rw [State.restartedBlocks, restartLights_axis]
  cases ax <;> rfl

theorem restartedBlocks_slots (s : State) : s.restartedBlocks.slotsLawful := slotsLawful_restartLights _

theorem trails_softRestart (s : State) : Trails (s.restartedBlocks.clearAlarms (BitVec.allOnes 23)) s.softRestart := by
  rw [softRestart_eq]
  exact (trails_restartedAlarms s).trans ((trails_restartAxis _ .A).trans ((trails_restartAxis _ .B).trans (trails_announceRequest _)))

theorem clearAlarms_slots {s : State} (h : s.slotsLawful) (set : BitVec 23) : (s.clearAlarms set).slotsLawful := by
  have axis := axis_of_motion (s := s) (t := s.clearAlarms set) rfl
  exact slotsLawful_congr (s := s) rfl (fun k => rfl) (fun ax => by rw [axis]) (fun ax _ => by rw [axis]; exact id) h

/-- Each axis after the restart: without power, and one that had it has come to rest for the restart (R164). -/
theorem softRestart_axis (s : State) (ax : Axis) : (s.softRestart.axis ax).state.motorPowered = false ∧
    ((s.axis ax).state.motorPowered = true → (s.softRestart.axis ax).reason = .restart ∧ (s.softRestart.axis ax).duty = 0) := by
  have state (ax : Axis) : (s.restartedAlarms.axis ax).state = (s.axis ax).state := by
    rw [axis_of_motion (restartedAlarms_motion s), restartedBlocks_axis]
  have last (x : Axis) : s.softRestart.axis x = ((s.restartedAlarms.restartAxis .A).restartAxis .B).axis x := by
    rw [softRestart_eq]; exact axis_of_motion (announceRequest_motion _) x
  have whole : ∃ u : State, (u.axis ax).state = (s.axis ax).state ∧ s.softRestart.axis ax = (u.restartAxis ax).axis ax := by
    cases ax
    · exact ⟨s.restartedAlarms, state .A, (last .A).trans (restartAxis_axis_ne _ (by decide))⟩
    · exact ⟨s.restartedAlarms.restartAxis .A, by rw [restartAxis_axis_ne _ (by decide), state], last .B⟩
  obtain ⟨u, same, after⟩ := whole
  rw [after, ← same]
  refine ⟨restartAxis_motorPowered u ax, fun powered => ?_⟩
  obtain ⟨-, reason, duty⟩ := restartAxis_stops powered
  exact ⟨reason, duty⟩

/-- The state that answers a RESTART, before the end of the command (R73, R78). -/
def State.restarted (s : State) (a : Nat) : State :=
  ((s.softRestart.setWithin false).settled).reply (fromPeer a 3 13 []) .ok

theorem trails_reply (s : State) (r : Request) (code : Code) : Trails s (s.reply r code) := by
  unfold State.reply; split
  · exact trails_offer s _
  · exact .refl s

theorem reply_motion (s : State) (r : Request) (code : Code) : (s.reply r code).motion = s.motion := by
  unfold State.reply; split
  · exact offer_motion s _
  · rfl

theorem trails_restarted (s : State) (a : Nat) : Trails (s.softRestart.setWithin false) (s.restarted a) :=
  (trails_settled _).trans (trails_reply _ _ _)

theorem rests_restarted (s : State) (a : Nat) : Rests s.softRestart (s.restarted a) :=
  (rests_setWithin _ _).trans ((rests_settled _).trans ((trails_reply _ _ _).rests_of_motion (reply_motion _ _ _)))

/-- A request that is parsed and runs is answered after what follows from it (R69, R73). -/
theorem answered_of_parsed {α : Type} {r : Request} {parsed : Except Code α} {x : α} {run : α → State → Code × State} {s : State}
    (station : r.addressing = .station) (form : parsed = .ok x) :
    stationOnly r (respond r parsed run s) s = ((run x s).2.settled).reply r (run x s).1 := by
  rw [stationOnly, if_pos station, form]; rfl

theorem completing_of_flies {s : State} {r : Request} {row : Instr} {act : Request → State → State} (flies : s.flies r)
    (due : (completionOf r == row) = true) : completing s row act = event s true (act r (s.endDecode r)) := by
  obtain ⟨age, decoder⟩ := flies
  rw [completing, decoder]
  dsimp only
  rw [due]

theorem exec_restart (s : State) : exec .restart s = execRestart s := rfl

theorem restart_answers {s : State} {a : Nat} (running : s.inReset = false) (flies : s.flies (fromPeer a 3 13 []))
    (free : ((s.endDecode (fromPeer a 3 13 [])).softRestart).heldAgain = false) :
    exec .restart s = .next ((s.endDecode (fromPeer a 3 13 [])).restarted a).finish := by
  have complete : exec .restart s = event s true (State.oneInstant (((s.endDecode (fromPeer a 3 13 [])).softRestart.foresee.settled).reply
      (fromPeer a 3 13 []) .ok)) := by
    have parsed : parseNothing (fromPeer a 3 13 []).payload = .ok () := rfl
    rw [exec_restart, execRestart, completing_of_flies flies rfl, answered_of_parsed rfl parsed]
  generalize s.endDecode (fromPeer a 3 13 []) = d at *
  have taken : d.softRestart.foresee = d.softRestart.setWithin false := by rw [State.foresee, free]
  have shut : (d.restarted a).safety.within = false := (trails_restarted d a).within
  have once : (d.restarted a).oneInstant = d.restarted a := by rw [State.oneInstant, shut]; rfl
  rw [taken] at complete
  rw [complete]
  exact (event_of_due running rfl _).trans (by rw [← State.restarted, once])

/-! ## What the whole command keeps -/

/-- What the steps to the end of the command keep, however the holds are reported meanwhile. -/
structure Trailing (s t : State) : Prop extends Keeps s t where
  line : t.line = { s.line with queue := t.line.queue, refresh := t.line.refresh }
  table : t.peer.table = s.peer.table
  light : t.light = { s.light with channels := t.light.channels, outputs := t.light.outputs }
  channels : ∀ i : Fin 24, s.light.channels[i].settledTo t.light.channels[i]
  holdOff : t.safety.holdOff = s.safety.holdOff
  position : ∀ ax, (t.axis ax).position = (s.axis ax).position
  slots : s.slotsLawful → t.slotsLawful

theorem Trails.trailing {s t : State} (h : Trails s t) : Trailing s t :=
  ⟨h.toKeeps, h.line, h.table, h.light, h.channels, h.holdOff, h.position, h.slots⟩

theorem Trailing.trans {s t u : State} (h : Trailing s t) (k : Trailing t u) : Trailing s u where
  toKeeps := h.toKeeps.trans k.toKeeps
  line := by rw [k.line, h.line]
  table := k.table.trans h.table
  light := by rw [k.light, h.light]
  channels := fun i => (h.channels i).trans (k.channels i)
  holdOff := k.holdOff.trans h.holdOff
  position := fun ax => (k.position ax).trans (h.position ax)
  slots := k.slots ∘ h.slots

theorem trailing_setWithin (s : State) (b : Bool) : Trailing s (s.setWithin b) where
  toKeeps := ⟨rfl, rfl, rfl, rfl, rfl, rfl, rfl⟩
  line := rfl
  table := rfl
  light := rfl
  channels := fun _ => .refl _
  holdOff := rfl
  position := fun _ => by rw [setWithin_axis]
  slots := slotsLawful_congr rfl (fun _ => rfl) (fun _ => by rw [setWithin_axis]) (fun _ _ => by rw [setWithin_axis]; exact id)

theorem trailing_finish (s : State) : Trailing s s.finish := (trailing_setWithin s false).trans (trails_finish s).trailing

theorem trailing_restarted (s : State) (a : Nat) :
    Trailing (s.restartedBlocks.clearAlarms (BitVec.allOnes 23)) (s.restarted a).finish :=
  (trails_softRestart s).trailing.trans ((trailing_setWithin _ false).trans
    ((trails_restarted s a).trailing.trans (trailing_finish _)))

/-- Where no channel fades and no axis has power, every slot is free (R105). -/
theorem pool_of_idle {s : State} (lawful : s.slotsLawful) (fades : ∀ i : Fin 24, (s.light.channels[i]).fade = none)
    (unpowered : ∀ ax, (s.axis ax).state.motorPowered = false) (k : Fin 16) : s.pool[k] = none := by
  have unnamed (ax : Axis) : (s.axis ax).slot = none := by
    by_contra named
    have off := unpowered ax
    rcases lawful.2 ax named with st | st <;> rw [st] at off <;> cases off
  have fadeless : s.fadesOn k = 0 := by
    simp only [State.fadesOn, inSlot_of_fade_none (fades _)]
    simp
  cases busy : s.pool[k] with
  | none => rfl
  | some slot =>
    cases owner : slot.owner with
    | light =>
      obtain ⟨-, some, members, -⟩ := slotsLawful_light_slot lawful busy owner
      omega
    | motor ax from_ to_ =>
      obtain ⟨-, -, -, only⟩ := slotsLawful_motor_slot lawful busy owner
      have named := (only ax).2 rfl
      rw [unnamed] at named; cases named

/-- What a RESTART leaves, seen from the state whose decode has ended. -/
structure Restarted (s t : State) : Prop where
  time : t.time = { s.time with schedule := [] }
  cmd : t.cmd = s.restartCmd.cmd
  channel : ∀ i : Fin 24, t.light.channels[i] = s.light.channels[i].completeAny
  pool : ∀ k : Fin 16, t.pool[k] = none
  light : t.light = { s.light with
    channels := t.light.channels, outputs := t.light.outputs, stepping := false, offset := 0, stepCount := 0 }
  axis : ∀ ax, (t.axis ax).state.motorPowered = false ∧ (t.axis ax).position = (s.axis ax).position ∧
    ((s.axis ax).state.motorPowered = true → (t.axis ax).reason = .restart ∧ (t.axis ax).duty = 0)
  cfg : t.cfg = s.cfg
  loader : t.loader = s.loader
  line : t.line = { s.line with
    queue := t.line.queue, refresh := t.line.refresh, leaveOnLoss := s.line.own == .contending }
  table : t.peer.table = s.peer.table
  holdOff : t.safety.holdOff = s.safety.holdOff

/-- What stands in the restarted blocks, the alarm set cleared. -/
theorem clearAlarms_kept (s : State) (set : BitVec 23) : (s.clearAlarms set).time = s.time ∧ (s.clearAlarms set).cmd = s.cmd ∧
    (s.clearAlarms set).light = s.light ∧ (s.clearAlarms set).cfg = s.cfg ∧ (s.clearAlarms set).loader = s.loader ∧
    (s.clearAlarms set).line = s.line ∧ (s.clearAlarms set).peer = s.peer ∧ (s.clearAlarms set).safety.holdOff = s.safety.holdOff ∧
    (s.clearAlarms set).motion = s.motion := ⟨rfl, rfl, rfl, rfl, rfl, rfl, rfl, rfl, rfl⟩

theorem restartedBlocks_kept (s : State) : s.restartedBlocks.time = { s.time with schedule := [] } ∧
    s.restartedBlocks.cmd = s.restartCmd.cmd ∧ s.restartedBlocks.cfg = s.cfg ∧ s.restartedBlocks.loader = s.loader ∧
    s.restartedBlocks.line = s.restartLine.line ∧ s.restartedBlocks.peer = s.peer ∧ s.restartedBlocks.safety = s.safety := by
  simp [State.restartedBlocks, State.restartLights, State.stopRun, State.restartCmd, State.restartLine]

theorem restartedBlocks_light (s : State) : s.restartedBlocks.light = { s.light with
    channels := s.restartedBlocks.light.channels, stepping := false, offset := 0, stepCount := 0 } := by
  simp [State.restartedBlocks, State.restartLights, State.stopRun, State.restartCmd, State.restartLine]

theorem restarted_finish (s : State) (a : Nat) : Restarted s (s.restarted a).finish := by
  have trailing := trailing_restarted s a
  have rests := (rests_restarted s a).trans (rests_finish _)
  have lawful := trailing.slots (clearAlarms_slots (restartedBlocks_slots s) _)
  obtain ⟨time, cmd, light, cfg, loader, line, peer, holdOff, motion⟩ := clearAlarms_kept s.restartedBlocks (BitVec.allOnes 23)
  obtain ⟨timeB, cmdB, cfgB, loaderB, lineB, peerB, safetyB⟩ := restartedBlocks_kept s
  have lightB := restartedBlocks_light s
  have channelB := restartedBlocks_channel s
  have axisB (ax : Axis) := axis_of_motion motion ax
  have recordB := restartedBlocks_axis s
  generalize s.restartedBlocks.clearAlarms (BitVec.allOnes 23) = b at *
  generalize s.restartedBlocks = c at *
  generalize (s.restarted a).finish = t at *
  have channel (i : Fin 24) : t.light.channels[i] = s.light.channels[i].completeAny := by
    have settled := trailing.channels i
    rw [light, channelB] at settled
    exact settledTo_of_no_fade settled (completeAny_fade _)
  have axis (ax : Axis) : (t.axis ax).state.motorPowered = false ∧ (t.axis ax).position = (s.axis ax).position ∧
      ((s.axis ax).state.motorPowered = true → (t.axis ax).reason = .restart ∧ (t.axis ax).duty = 0) := by
    obtain ⟨off, stopped⟩ := softRestart_axis s ax
    obtain ⟨unpowered, reason, duty⟩ := rests.unpowered off
    refine ⟨unpowered, ?_, fun powered => ?_⟩
    · rw [trailing.position, axisB, recordB]
    · rw [reason, duty]; exact stopped powered
  exact {
    time := by rw [trailing.time, time, timeB]
    cmd := by rw [trailing.cmd, cmd, cmdB]
    channel := channel
    pool := pool_of_idle lawful (fun i => by rw [channel]; exact completeAny_fade _) fun ax => (axis ax).1
    light := by rw [trailing.light, light, lightB]
    axis := axis
    cfg := by rw [trailing.cfg, cfg, cfgB]
    loader := by rw [trailing.loader, loader, loaderB]
    line := by rw [trailing.line, line, lineB]; rfl
    table := by rw [trailing.table, peer, peerB]
    holdOff := by rw [trailing.holdOff, holdOff, safetyB] }

end Sys2Proof.Machine
end

section
/-! PROOFS. RESTART of a station between two commands: its send queue, its alarms and the change count. -/

namespace Sys2Proof.Machine

/-! ## The alarms that last -/

/-- The codes of the alarms are the bits of their set (R174). -/
theorem popcount_alarms (x : BitVec 23) : popcount x = (Alarm.all.filter fun a => a.within x).length := by
  have codes : Alarm.all.map Alarm.code = List.range 23 := by decide
  rw [popcount, ← codes, List.filter_map, List.length_map]; rfl

theorem setAlarm_of_unreported {s : State} {a : Alarm} (mask : s.cfg.reportMask = 0) : s.setAlarm a = s.withAlarm a := by
  have out : a.within s.cfg.reportMask = false := by rw [mask]; simp [Alarm.within]
  rw [State.setAlarm, if_neg (by rw [out]; decide)]; rfl

/-- Alarms that no mask reports are set one after another, each with its step of the count (R175). -/
theorem foldl_setAlarm_of_unreported {l : List Alarm} {s : State} (mask : s.cfg.reportMask = 0) : ∃ alarms,
    l.foldl State.setAlarm s = s.setSafety { s.safety with alarms := alarms, count := s.safety.count + BitVec.ofNat 8 l.length } ∧
      ∀ a : Alarm, a.within alarms = (s.alarmSet a || l.contains a) := by
  induction l generalizing s with
  | nil =>
    have count : s.safety.count + BitVec.ofNat 8 0 = s.safety.count := BitVec.add_zero _
    refine ⟨s.safety.alarms, ?_, fun a => by simp [State.alarmSet]⟩
    rw [List.length_nil, count]; rfl
  | cons b l ih =>
    obtain ⟨alarms, after, stands⟩ := ih (s := s.withAlarm b) mask
    refine ⟨alarms, ?_, fun a => ?_⟩
    · have count : s.safety.count + 1 + BitVec.ofNat 8 l.length = s.safety.count + BitVec.ofNat 8 (b :: l).length := by
        rw [List.length_cons, BitVec.add_assoc, Nat.add_comm, BitVec.ofNat_add]; rfl
      rw [List.foldl_cons, setAlarm_of_unreported mask, after, ← count]; rfl
    · rw [stands, withAlarm_alarmSet, List.contains_cons, Bool.or_assoc]; rfl

theorem lasts_congr {s t : State} (allstop : t.line.allstop = s.line.allstop) (silent : t.line.silent = s.line.silent)
    (erratic : t.line.erratic = s.line.erratic) (loader : t.loader = s.loader) (conflict : ∀ ax, t.inConflict ax = s.inConflict ax)
    (a : Alarm) : t.lasts a = s.lasts a := by
  have station : t.station = s.station := by rw [State.station, loader]; rfl
  cases a <;> simp only [State.lasts, allstop, silent, erratic, station, conflict]

theorem restartedBlocks_lasts (s : State) (a : Alarm) : s.restartedBlocks.lasts a = s.lasts a := by
  obtain ⟨-, -, cfg, loader, line, -, -⟩ := restartedBlocks_kept s
  have pins : s.restartedBlocks.pins = s.pins := by
    simp [State.restartedBlocks, State.restartLights, State.stopRun, State.restartCmd, State.restartLine]
  exact lasts_congr (by rw [line]; rfl) (by rw [line]; rfl) (by rw [line]; rfl) loader (inConflict_congr cfg pins) a

/-- What the alarms are after the restart of the Safety Unit: those set whose conditions last, with a step of the count for each
that was cleared and for each set again (R177, R178, R183). -/
theorem restartedAlarms_quiet {s : State} (mask : s.cfg.reportMask = 0) : ∃ alarms, s.restartedAlarms =
    s.restartedBlocks.setSafety { s.safety with alarms := alarms, count := s.safety.count + BitVec.ofNat 8 (
      (Alarm.all.filter s.alarmSet).length + (Alarm.all.filter fun a => s.alarmSet a && s.lasts a).length) } ∧
    ∀ a : Alarm, a.within alarms = (s.alarmSet a && s.lasts a) := by
  obtain ⟨-, -, cfg, -, -, -, safety⟩ := restartedBlocks_kept s
  have lasts := restartedBlocks_lasts s
  have whole : s.restartedAlarms = (Alarm.all.filter fun a => a.within (BitVec.allOnes 23) && s.restartedBlocks.alarmSet a &&
      s.restartedBlocks.lasts a).foldl State.setAlarm (s.restartedBlocks.clearAlarms (BitVec.allOnes 23)) := rfl
  generalize s.restartedBlocks = c at *
  have set (a : Alarm) : c.alarmSet a = s.alarmSet a := by rw [State.alarmSet, safety]; rfl
  have all (a : Alarm) : a.within (BitVec.allOnes 23) = true := by
    rw [Alarm.within, BitVec.getLsbD_allOnes]; simpa using alarm_code_lt a
  simp only [all, set, lasts, Bool.true_and] at whole
  obtain ⟨alarms, after, stands⟩ := foldl_setAlarm_of_unreported (s := c.clearAlarms (BitVec.allOnes 23))
    (l := Alarm.all.filter fun a => s.alarmSet a && s.lasts a) (by show c.cfg.reportMask = 0; rw [cfg]; exact mask)
  have cleared (a : Alarm) : (c.clearAlarms (BitVec.allOnes 23)).alarmSet a = false := by
    show a.within (c.safety.alarms &&& ~~~BitVec.allOnes 23) = false
    simp [Alarm.within, alarm_code_lt]
  have count : (c.clearAlarms (BitVec.allOnes 23)).safety.count =
      s.safety.count + BitVec.ofNat 8 (Alarm.all.filter s.alarmSet).length := by
    show c.safety.count + BitVec.ofNat 8 (popcount (c.safety.alarms &&& BitVec.allOnes 23)) = _
    rw [safety, BitVec.and_allOnes, popcount_alarms]; rfl
  refine ⟨alarms, ?_, fun a => ?_⟩
  · rw [whole, after, count, BitVec.add_assoc, ← BitVec.ofNat_add, ← safety]; rfl
  · rw [stands, cleared, Bool.false_or]
    cases h : s.alarmSet a && s.lasts a <;> simp_all [mem_all]

/-! ## The announcement of the restart -/

/-- The send queue holds these frames, and the announcement if it was asked for; the Safety Unit stands so. -/
structure Posting (q : List SendFrame) (x : SafetyUnit) (s : State) : Prop where
  sends : s.sends = true
  queue : s.line.queue = q ∨ s.line.queue = q ++ [announceFrame]
  safety : s.safety = x

section
variable {q : List SendFrame} {x : SafetyUnit} (plain : ∀ f ∈ q, f.cls ≠ annCls) (short : q.length < 8)
include plain short

omit short in
theorem find_posted : ((q ++ [announceFrame]).find? fun f => f.cls == annCls) = some announceFrame := by
  have none : (q.find? fun f => f.cls == annCls) = none := List.find?_eq_none.2 fun f hf => by simpa using plain f hf
  rw [List.find?_append, none]; rfl

theorem Posting.announceRequest {s : State} (h : Posting q x s) :
    Posting q x s.announceRequest ∧ s.announceRequest.line.queue = q ++ [announceFrame] := by
  rcases h.queue with queue | queue
  · have none : ∀ f ∈ s.line.queue, f.cls ≠ annCls := by rw [queue]; exact plain
    rw [announceRequest_of_none h.sends none,
      offer_of_short_queue (s := s.setPeer { s.peer with counter := s.cfg.interval }) announceFrame h.sends
        (by rw [← queue] at short; exact short)]
    have after : s.line.queue ++ [announceFrame] = q ++ [announceFrame] := by rw [queue]
    exact ⟨⟨h.sends, .inr after, h.safety⟩, after⟩
  · have found : (s.line.queue.find? fun f => f.cls == annCls) = some announceFrame := by rw [queue]; exact find_posted plain
    rw [announceRequest_of_some h.sends found, if_neg (by simp [announceFrame])]
    exact ⟨⟨h.sends, .inr queue, h.safety⟩, queue⟩

theorem Posting.announceRequests {n : Nat} {s : State} (h : Posting q x s) : Posting q x (State.announceRequests n s) := by
  induction n generalizing s with
  | zero => exact h
  | succ n ih => exact ih (h.announceRequest plain short).1

theorem Posting.syncContent {s : State} (h : Posting q x s) : Posting q x s.syncContent := by
  unfold State.syncContent; split
  · exact h
  · exact Posting.announceRequests plain short ⟨h.sends, h.queue, h.safety⟩

omit plain short in
theorem Posting.of_same {s t : State} (h : Posting q x s) (loader : t.loader = s.loader) (line : t.line = s.line)
    (safety : t.safety = s.safety) : Posting q x t :=
  ⟨by rw [State.sends, State.station, loader]; exact h.sends, by rw [line]; exact h.queue, safety.trans h.safety⟩

theorem Posting.enter {s : State} (h : Posting q x s) (ax : Axis) (st : AxisState) : Posting q x (s.enter ax st) := by
  unfold State.enter; dsimp only; split
  · exact h
  · refine Posting.syncContent plain short (h.of_same ?_ ?_ ?_) <;> split <;> simp [State.clearObstruction]

theorem Posting.rest {s : State} (h : Posting q x s) (ax : Axis) : Posting q x (s.rest ax) :=
  Posting.enter plain short (h.of_same (trails_cut s ax).loader (by simp [State.cut]) (cut_safety s ax)) ax _

theorem Posting.restartAxis {s : State} (h : Posting q x s) (ax : Axis) : Posting q x (s.restartAxis ax) := by
  have reasoned : Posting q x (s.setReason ax .restart) :=
    h.of_same (by simp [State.setReason]) (by simp [State.setReason]) (by simp [State.setReason])
  unfold State.restartAxis; split
  case h_5 =>
    split
    · exact h
    · exact Posting.rest plain short h ax
  case h_1 | h_2 | h_3 | h_4 => exact Posting.rest plain short reasoned ax
  all_goals exact h

end

/-! ## After the announcement -/

/-- An announcement waits in this line, no report does, and this alarm set and change count stand. -/
structure Announced (l : LineUnit) (alarms : BitVec 23) (count : Byte) (s : State) : Prop where
  line : s.line = l
  waits : ∃ f, (l.queue.find? fun f => f.cls == annCls) = some f ∧ f.onLine = false
  raised : s.safety.raised = []
  alarms : s.safety.alarms = alarms
  count : s.safety.count = count

namespace Announced

variable {l : LineUnit} {alarms : BitVec 23} {count : Byte} {s : State} (h : Announced l alarms count s)
include h

theorem of_same {t : State} (line : t.line = s.line) (safety : t.safety = s.safety) : Announced l alarms count t :=
  ⟨line.trans h.line, h.waits, by rw [safety]; exact h.raised, by rw [safety]; exact h.alarms, by rw [safety]; exact h.count⟩

theorem announceRequest : Announced l alarms count s.announceRequest := by
  by_cases sends : s.sends = true
  · obtain ⟨f, found, waits⟩ := h.waits
    rw [← h.line] at found
    rw [announceRequest_of_some sends found, if_neg (by simp [waits])]
    exact h.of_same rfl rfl
  · have same : s.announceRequest = s := by simp [State.announceRequest, sends]
    rw [same]; exact h

omit h in
theorem announceRequests {n : Nat} {s : State} (h : Announced l alarms count s) :
    Announced l alarms count (State.announceRequests n s) := by
  induction n generalizing s with
  | zero => exact h
  | succ n ih => exact ih h.announceRequest

theorem syncContent : Announced l alarms count s.syncContent := by
  unfold State.syncContent; split
  · exact h
  · refine announceRequests (h.of_same ?_ ?_) <;> rfl

theorem enter (ax : Axis) (st : AxisState) : Announced l alarms count (s.enter ax st) := by
  unfold State.enter; dsimp only; split
  · exact h
  · refine Announced.syncContent (h.of_same ?_ ?_) <;> split <;> simp [State.clearObstruction]

theorem setHeld (ax : Axis) (r : AxisSafety) : Announced l alarms count (s.setAxisSafety ax r) :=
  ⟨by simpa using h.line, h.waits, by cases ax <;> exact h.raised, by cases ax <;> exact h.alarms, by cases ax <;> exact h.count⟩

theorem followHold (ax : Axis) : Announced l alarms count (s.followHold ax) := by
  unfold State.followHold; dsimp only; split
  · exact h
  · have told := h.setHeld ax { s.axisSafety ax with held := s.holdOn ax }
    split
    · exact told.enter ax _
    · exact told.enter ax _
    · exact told

theorem sealed : Announced l alarms count s.seal := ⟨h.line, h.waits, rfl, h.alarms, h.count⟩

omit h in
theorem settle (n : Nat) {s : State} (h : Announced l alarms count s) : Announced l alarms count (s.settle n) := by
  induction n generalizing s with
  | zero => exact h.sealed
  | succ n ih =>
    have first := h.syncContent
    unfold State.settle
    simp only [first.raised]
    split
    · exact ih ((first.followHold .A).followHold .B)
    · exact first

theorem setWithin (b : Bool) : Announced l alarms count (s.setWithin b) := ⟨h.line, h.waits, h.raised, h.alarms, h.count⟩

theorem finish : Announced l alarms count s.finish :=
  ((h.setWithin false).settle 128).of_same (publish_line _) (publish_safety _)

end Announced

/-! ## The whole command -/

/-- The state after the soft restart: what was on the line and an ANNOUNCE wait, and the alarms that last stand. -/
theorem softRestart_quiet {s : State} (none : s.safety.raised = []) (mask : s.cfg.reportMask = 0) (sends : s.sends = true)
    (few : (s.line.queue.filter SendFrame.onLine).length ≤ 1) (plain : ∀ f ∈ s.line.queue, f.onLine = true → f.cls ≠ 5) :
    ∃ alarms, Announced s.softRestart.line alarms (s.safety.count + BitVec.ofNat 8 (
        (Alarm.all.filter s.alarmSet).length + (Alarm.all.filter fun a => s.alarmSet a && s.lasts a).length)) s.softRestart ∧
      s.softRestart.line.queue = s.line.queue.filter SendFrame.onLine ++ [announceFrame] ∧
      ∀ a : Alarm, a.within alarms = (s.alarmSet a && s.lasts a) := by
  obtain ⟨alarms, after, stands⟩ := restartedAlarms_quiet mask
  obtain ⟨-, -, -, loader, line, -, -⟩ := restartedBlocks_kept s
  have own : ∀ f ∈ s.line.queue.filter SendFrame.onLine, f.cls ≠ annCls := fun f hf => by
    obtain ⟨mem, on⟩ := List.mem_filter.1 hf
    exact plain f mem on
  have start : Posting (s.line.queue.filter SendFrame.onLine) s.restartedAlarms.safety s.restartedAlarms := by
    refine ⟨?_, .inl ?_, rfl⟩
    · have same : s.restartedAlarms.loader = s.loader := by rw [after, ← loader]; rfl
      rw [State.sends, State.station, same]; exact sends
    · have same : s.restartedAlarms.line = s.restartedBlocks.line := by rw [after]; rfl
      rw [same, line]; rfl
  have safety : s.restartedAlarms.safety = { s.safety with alarms := alarms, count := s.safety.count + BitVec.ofNat 8 (
      (Alarm.all.filter s.alarmSet).length + (Alarm.all.filter fun a => s.alarmSet a && s.lasts a).length) } := by
    rw [after]; rfl
  have short : (s.line.queue.filter SendFrame.onLine).length < 8 := by omega
  obtain ⟨posted, queue⟩ := ((start.restartAxis own short .A).restartAxis own short .B).announceRequest own short
  rw [← softRestart_eq] at posted queue
  refine ⟨alarms, ⟨rfl, ⟨announceFrame, by rw [queue]; exact find_posted own, rfl⟩, ?_, ?_, ?_⟩, queue, stands⟩ <;>
    rw [posted.safety, safety]
  exact none

/-- The OUTCOME OK of a RESTART (R73). -/
def restartOutcome (a : Nat) (count pLow : Byte) : SendFrame :=
  { cls := 4, kind := 1, dest := a, onLine := false, payload := some [0x6D, 0, count, pLow] }

theorem Announced.replied {l : LineUnit} {alarms : BitVec 23} {count : Byte} {s : State} {a : Nat} (h : Announced l alarms count s)
    (sends : s.sends = true) (short : l.queue.length < 8) :
    Announced { l with queue := l.queue ++ [restartOutcome a count s.pLow] } alarms count (s.reply (fromPeer a 3 13 []) .ok) := by
  have offered : s.reply (fromPeer a 3 13 []) .ok =
      s.setLine { s.line with queue := s.line.queue ++ [restartOutcome a s.safety.count s.pLow] } :=
    offer_of_short_queue (restartOutcome a s.safety.count s.pLow) sends (by rw [h.line]; exact short)
  obtain ⟨f, found, waits⟩ := h.waits
  rw [offered, h.count]
  refine ⟨by rw [← h.line]; rfl, ⟨f, ?_, waits⟩, h.raised, h.alarms, h.count⟩
  show ((l.queue ++ _).find? _) = _
  rw [List.find?_append, found]; rfl

/-- The OUTCOME joins the send queue, behind the announcement (R73). -/
theorem restarted_quiet {s : State} {a : Nat} (none : s.safety.raised = []) (mask : s.cfg.reportMask = 0) (sends : s.sends = true)
    (few : (s.line.queue.filter SendFrame.onLine).length ≤ 1) (plain : ∀ f ∈ s.line.queue, f.onLine = true → f.cls ≠ 5) :
    (s.restarted a).finish.line.queue = s.line.queue.filter SendFrame.onLine ++ [announceFrame,
      { cls := 4, kind := 1, dest := a, onLine := false,
        payload := some [0x6D, 0, (s.restarted a).finish.safety.count, s.pLow] }] ∧
    (∀ al, (s.restarted a).finish.alarmSet al = (s.alarmSet al && s.lasts al)) ∧
    (s.restarted a).finish.safety.count = s.safety.count + BitVec.ofNat 8 (
      (Alarm.all.filter s.alarmSet).length + (Alarm.all.filter fun al => s.alarmSet al && s.lasts al).length) := by
  obtain ⟨alarms, announced, queue, stands⟩ := softRestart_quiet none mask sends few plain
  have settled := (announced.setWithin false).settle 128
  have whole : s.restarted a = ((s.softRestart.setWithin false).settle 128).reply (fromPeer a 3 13 []) .ok := rfl
  have trails := (trails_softRestart s).trailing.trans
    ((trailing_setWithin _ false).trans (trails_settle 128 (s.softRestart.setWithin false)).trailing)
  obtain ⟨time, -, -, -, loader, -⟩ := clearAlarms_kept s.restartedBlocks (BitVec.allOnes 23)
  obtain ⟨timeB, -, -, loaderB, -⟩ := restartedBlocks_kept s
  have loaderT := trails.loader.trans (loader.trans loaderB)
  have timeT := trails.time.trans (time.trans timeB)
  rw [whole]
  generalize (s.softRestart.setWithin false).settle 128 = w at *
  generalize s.softRestart.line = l at *
  have sendsW : w.sends = true := by rw [State.sends, State.station, loaderT]; exact sends
  have pLow : w.pLow = s.pLow := by rw [State.pLow, timeT]; rfl
  have answered := settled.replied (a := a) sendsW (by rw [queue]; simp only [List.length_append, List.length_singleton]; omega)
  have done := answered.finish
  refine ⟨?_, fun al => ?_, done.count⟩
  · rw [done.line, done.count, ← pLow]
    show l.queue ++ _ = _
    rw [queue, List.append_assoc]; rfl
  · rw [State.alarmSet, done.alarms]; exact stands al

/-- Settles O55: what the restart writes is kept to the end of the command, and the announcement and the OUTCOME find room. -/
theorem restartKeepsAndEmpties : Obligations.RestartKeepsAndEmpties := by
  intro s a running flies free
  have answers := restart_answers running flies free
  have ended := restarted_finish (s.endDecode (fromPeer a 3 13 [])) a
  have quiet (awake : s.awake = true) := restarted_quiet (s := s.endDecode (fromPeer a 3 13 [])) (a := a)
    ((calm_iff s).1 (calm_of_awake awake)).1
  generalize ((s.endDecode (fromPeer a 3 13 [])).restarted a).finish = t at *
  have line := ended.line
  have light := ended.light
  refine ⟨t, answers, ended.time, ?_, ?_, ?_, fun k => ?_, fun i => ?_, ended.pool, ?_, ?_, ?_, ?_, ended.axis, ended.cfg,
    ended.loader, ?_, ?_, ended.table, ended.holdOff, fun awake sends mask few plain => ?_⟩
  · rw [ended.cmd]; rfl
  · rw [ended.cmd]; rfl
  · rw [ended.cmd]; rfl
  · rw [ended.cmd]; simp [State.restartCmd, State.endDecode]
  · rw [ended.channel]; rfl
  · rw [light]
  · rw [light]
  · rw [light]; rfl
  · rw [light]; rfl
  · rw [line]; rfl
  · rw [line]; rfl
  · obtain ⟨queue, stands, count⟩ := quiet awake mask sends few plain
    exact ⟨by rw [line]; rfl, queue, stands, count⟩

end Sys2Proof.Machine
end

section
/-! PROOFS. The Time Base alone: the offset of a beacon, and the ends of its own counts. -/

namespace Sys2Proof.Machine

/-! ## The offset of a beacon -/

/-- The three period numbers of the table differ, so its rows exclude each other (R33). -/
theorem period_neighbours_differ (p : BitVec 16) : p + 1 ≠ p ∧ p - 1 ≠ p ∧ p - 1 ≠ p + 1 := by
  refine ⟨?_, ?_, ?_⟩ <;> bv_omega

/-- Settles O59: the rows of the table are the branches of the definition, and each keeps Δ within two periods. -/
theorem beaconOffsetFollowsTheTable : Obligations.BeaconOffsetFollowsTheTable := by
  intro p pb phi phib age hphi hphib
  obtain ⟨next, previous, apart⟩ := period_neighbours_differ p
  refine ⟨?_, ?_, ?_, ?_, ?_⟩
  · rintro rfl
    simp [beaconDelta]
  · rintro rfl
    simp only [beaconDelta, if_neg next, if_true]
  · rintro rfl
    simp only [beaconDelta, if_neg previous, if_neg apart, if_true]
  · intro same after before
    simp only [beaconDelta, if_neg same, if_neg after, if_neg before]
  · intro d h
    unfold beaconDelta at h
    dsimp only at h
    split at h
    · cases h; omega
    split at h
    · cases h; omega
    split at h
    · cases h; omega
    · cases h

/-! ## The silence timer and the reference -/

/-- Settles O21: either step ends in `freeRun`, and the end of the command writes neither block. -/
theorem theTimeBaseRunsFree : Obligations.TheTimeBaseRunsFree := by
  intro s awake
  refine ⟨fun owed standby ends => ?_, fun owed held old => ?_⟩
  · have step : (s.disown .silenceTimerExpiry).silenceTimerStep =
        ((s.disown .silenceTimerExpiry).setTime
          { s.time with engine := .timekeeper, silenceTimer := 0 }).freeRun := by
      simp [State.silenceTimerStep, State.disown, standby, Nat.not_lt.2 ends]
    refine ⟨_, event_of_due awake (List.contains_iff_mem.2 owed) _, ?_, ?_⟩
    · rw [finish_cmd, step]; rfl
    · rw [finish_time, step]; rfl
  · have step : (s.disown .referenceLost).referenceStep = (s.disown .referenceLost).freeRun := by
      have last : ¬ s.time.referenceAge + 1 < 25 := by omega
      simp [State.referenceStep, State.disown, Option.isNone_iff_eq_none, held, last]
    refine ⟨_, event_of_due awake (List.contains_iff_mem.2 owed) _, ?_, ?_⟩
    · rw [finish_cmd, step]; rfl
    · rw [finish_time, step]; rfl

end Sys2Proof.Machine
end

section
/-! PROOFS. Which parts a command may change, and what the operations on axes leave of the laws for tokens and for baselines. -/

namespace Sys2Proof.Machine

/-! ## The parts -/

/-- Which way a command can take an axis: to rest; through an end switch, where FAULT comes last; or from rest into movement. -/
inductive Course where
  | stopping
  | switching
  | starting
deriving DecidableEq

/-- The parts of the station that a command may change; `held` says whether a hold cause other than an alarm stands once it is
done, `tokens` that an axis may take any way, `tracks` that an axis may become motor-powered or a baseline move at will. -/
structure Parts where
  course : Course
  held : Bool
  config : Bool
  pins : Bool
  time : Bool
  arrivals : Bool
  places : Bool
  scenes : Bool
  sense : Bool
  baseline : Bool
  intake : Bool
  allstop : Bool
  holdOff : Bool
  begins : Bool
  ends : Bool
  tokens : Bool
  tracks : Bool

/-- Where an axis state stands on the way that the command can take an axis. -/
def Parts.rank (m : Parts) : AxisState → Nat
  | .stopped => (if m.course = .starting then 0 else 6) + if m.held then 0 else 1
  | .held => (if m.course = .starting then 0 else 6) + if m.held then 1 else 0
  | .starting => 2
  | .running => 3
  | .stopping | .reversing => 4
  | .fault => if m.course = .switching then 8 else 5
  | .disabled => 9

theorem Parts.rank_le (m : Parts) (a : AxisState) : m.rank a ≤ 9 := by
  cases a <;> simp only [Parts.rank] <;> (try split) <;> (try split) <;> omega

/-- An axis has taken `n` steps up, and its token with it. -/
def Climb (rank : AxisState → Nat) (r r' : AxisRecord) : Prop :=
  ∃ n, r'.token = r.token + BitVec.ofNat 8 n ∧ rank r.state + n ≤ rank r'.state ∧ (n = 0 → r'.state = r.state)

theorem Climb.refl (rank : AxisState → Nat) (r : AxisRecord) : Climb rank r r := ⟨0, by simp, by simp, fun _ => rfl⟩

theorem Climb.of_same {rank : AxisState → Nat} {r r' : AxisRecord} (state : r'.state = r.state)
    (token : r'.token = r.token) : Climb rank r r' := ⟨0, by simp [token], by simp [state], fun _ => state⟩

theorem Climb.trans {rank : AxisState → Nat} {r r' r'' : AxisRecord} (h : Climb rank r r') (k : Climb rank r' r'') :
    Climb rank r r'' := by
  obtain ⟨n, token, rise, still⟩ := h
  obtain ⟨l, token', rise', still'⟩ := k
  refine ⟨n + l, ?_, by omega, fun none => ?_⟩
  · rw [token', token, BitVec.add_assoc, BitVec.ofNat_add]
  · rw [still' (by omega), still (by omega)]

/-- Fewer than 256 steps up never bring a token back: it stands exactly where the state stands (R139). -/
theorem Climb.token_iff {m : Parts} {r r' : AxisRecord} (h : Climb m.rank r r') :
    r'.token = r.token ↔ r'.state = r.state := by
  obtain ⟨n, token, rise, still⟩ := h
  have top := m.rank_le r'.state
  constructor
  · intro same
    refine still ?_
    rw [token] at same
    bv_omega
  · intro same
    have none : n = 0 := by rw [same] at rise; omega
    simp [token, none]

/-- An axis may go from the one state to the other. -/
structure Parts.Allows (m : Parts) (a b : AxisState) : Prop where
  rank : m.tokens = false → a ≠ b → m.rank a < m.rank b
  powered : m.tracks = false → b.motorPowered = true → a.motorPowered = true

/-- The command brings axes to rest, or may take them any way. -/
def Parts.Stops (m : Parts) : Prop := m.tokens = true ∨ m.course ≠ .starting

theorem Parts.allows_stopping (m : Parts) {a : AxisState} (moves : a.moves = true) :
    m.Allows a .stopping where
  rank := fun _ _ => by cases a <;> simp_all [Parts.rank, AxisState.moves]
  powered := fun _ _ => by cases a <;> simp_all [AxisState.motorPowered, AxisState.moves]

/-- An axis that is motor-powered may come to rest. -/
theorem Parts.Stops.allows_rest {m : Parts} (h : m.Stops) {a b : AxisState} (powered : a.motorPowered = true)
    (rests : b.rests = true) : m.Allows a b where
  rank := fun t _ => by
    have course : m.course ≠ .starting := h.resolve_left (by simp [t])
    cases a <;> cases b <;> simp_all [Parts.rank, AxisState.motorPowered, AxisState.rests] <;> omega
  powered := fun _ => by cases b <;> simp_all [AxisState.motorPowered, AxisState.rests]

/-- Past an end switch FAULT is the last state. -/
def Parts.Faults (m : Parts) (a : AxisState) : Prop :=
  m.tokens = true ∨ a.motorPowered = true ∧ m.course ≠ .starting ∨ a ≠ .disabled ∧ m.course = .switching

theorem Parts.Faults.allows_fault {m : Parts} {a : AxisState} (h : m.Faults a) : m.Allows a .fault where
  rank := fun t n => by
    rcases h.resolve_left (by simp [t]) with ⟨powered, course⟩ | ⟨formed, course⟩
    · cases a <;> simp_all [Parts.rank, AxisState.motorPowered] <;> split <;> omega
    · cases a <;> simp_all [Parts.rank] <;> split <;> omega
  powered := fun _ p => by cases p

/-! ## What a command leaves of the axes -/

/-- From `s` to `t` the axes have gone only the way that the parts allow. -/
structure Drives (m : Parts) (s t : State) : Prop where
  cfg : t.cfg = s.cfg
  places : m.places = false → ∀ ax,
    (t.axis ax).position = (s.axis ax).position ∧ (t.axis ax).referenced = (s.axis ax).referenced
  tokens : m.tokens = false → (∀ ax, (s.axisCfg ax).holdMask = 0) → ∀ ax, Climb m.rank (s.axis ax) (t.axis ax)
  powered : m.tracks = false → ∀ ax, (t.axis ax).state.motorPowered = true → (s.axis ax).state.motorPowered = true

theorem axisCfg_of_cfg {s t : State} (h : t.cfg = s.cfg) (ax : Axis) : t.axisCfg ax = s.axisCfg ax := by
  simp [State.axisCfg, h]

section
variable {m : Parts}

theorem Drives.of_motion {s t : State} (cfg : t.cfg = s.cfg) (motion : t.motion = s.motion) : Drives m s t where
  cfg := cfg
  places := fun _ ax => by simp [axis_of_motion motion]
  tokens := fun _ _ ax => by rw [axis_of_motion motion]; exact .refl _ _
  powered := fun _ ax => by rw [axis_of_motion motion]; exact id

theorem Drives.refl (s : State) : Drives m s s := .of_motion rfl rfl

theorem Drives.trans {s t u : State} (h : Drives m s t) (k : Drives m t u) : Drives m s u where
  cfg := k.cfg.trans h.cfg
  places := fun p ax =>
    ⟨(k.places p ax).1.trans (h.places p ax).1, (k.places p ax).2.trans (h.places p ax).2⟩
  tokens := fun p masks ax => (h.tokens p masks ax).trans
    (k.tokens p (fun x => by rw [axisCfg_of_cfg h.cfg]; exact masks x) ax)
  powered := fun p ax => h.powered p ax ∘ k.powered p ax

/-- A relation that lets an axis take any way says all but how its token goes. -/
theorem Drives.of_tokens {s t : State} (h : Drives { m with tokens := true } s t)
    (tokens : m.tokens = false → (∀ ax, (s.axisCfg ax).holdMask = 0) → ∀ ax, Climb m.rank (s.axis ax) (t.axis ax)) :
    Drives m s t where
  cfg := h.cfg
  places := h.places
  tokens := tokens
  powered := h.powered

theorem drives_ite {c : Prop} [Decidable c] {s t u : State} (ht : c → Drives m s t) (hu : ¬c → Drives m s u) :
    Drives m s (if c then t else u) := by
  split
  · next h => exact ht h
  · next h => exact hu h

/-- A write to the record of one axis. -/
theorem drives_setAxis (s : State) (ax : Axis) {r : AxisRecord}
    (places : m.places = false → r.position = (s.axis ax).position ∧ r.referenced = (s.axis ax).referenced)
    (climb : m.tokens = false → Climb m.rank (s.axis ax) r)
    (powered : m.tracks = false → r.state.motorPowered = true → (s.axis ax).state.motorPowered = true) :
    Drives m s (s.setAxis ax r) where
  cfg := by simp
  places := fun p x => by
    rw [setAxis_axis_eq]; split
    · next e => rw [e]; exact places p
    · exact ⟨rfl, rfl⟩
  tokens := fun p _ x => by
    rw [setAxis_axis_eq]; split
    · next e => rw [e]; exact climb p
    · exact .refl _ _
  powered := fun p x => by
    rw [setAxis_axis_eq]; split
    · next e => rw [e]; exact powered p
    · exact id

/-- A write that leaves state, token, position and reference. -/
theorem drives_setAxis_same (s : State) (ax : Axis) {r : AxisRecord} (state : r.state = (s.axis ax).state)
    (token : r.token = (s.axis ax).token) (position : r.position = (s.axis ax).position)
    (referenced : r.referenced = (s.axis ax).referenced) : Drives m s (s.setAxis ax r) :=
  drives_setAxis s ax (fun _ => ⟨position, referenced⟩) (fun _ => .of_same state token) fun _ => by rw [state]; exact id

theorem drives_enter (s : State) (ax : Axis) {st : AxisState} (h : m.Allows (s.axis ax).state st) :
    Drives m s (s.enter ax st) := by
  unfold State.enter; dsimp only; split
  · exact .refl s
  · next changes =>
    have entered : Drives m s (s.setAxis ax { s.axis ax with state := st, token := (s.axis ax).token + 1 }) :=
      drives_setAxis s ax (fun _ => ⟨rfl, rfl⟩)
        (fun p => ⟨1, rfl, Nat.succ_le_of_lt (h.rank p changes), fun none => by cases none⟩) (fun p => h.powered p)
    refine entered.trans ?_
    split
    · exact .of_motion ((keeps_clearObstruction _ ax).trans (keeps_syncContent _)).cfg (by simp [State.clearObstruction])
    · exact .of_motion (keeps_syncContent _).cfg (by simp)

/-- A command that writes one axis alone. -/
theorem Drives.at_axis {s t : State} (ax : Axis) (cfg : t.cfg = s.cfg) (others : ∀ x, x ≠ ax → t.axis x = s.axis x)
    (state : (t.axis ax).state = (s.axis ax).state) (token : (t.axis ax).token = (s.axis ax).token)
    (position : (t.axis ax).position = (s.axis ax).position)
    (referenced : (t.axis ax).referenced = (s.axis ax).referenced) : Drives m s t := by
  have each (x : Axis) : (t.axis x).state = (s.axis x).state ∧ (t.axis x).token = (s.axis x).token ∧
      (t.axis x).position = (s.axis x).position ∧ (t.axis x).referenced = (s.axis x).referenced := by
    by_cases e : x = ax
    · subst e; exact ⟨state, token, position, referenced⟩
    · simp [others x e]
  exact {
    cfg := cfg
    places := fun _ x => (each x).2.2
    tokens := fun _ _ x => .of_same (each x).1 (each x).2.1
    powered := fun _ x => by rw [(each x).1]; exact id }

theorem drives_releaseSlot (s : State) (ax : Axis) : Drives m s (s.releaseSlot ax) := by
  have self := releaseSlot_axis_self s ax
  exact .at_axis ax (keeps_releaseSlot s ax).cfg (fun _ => releaseSlot_axis_ne s) (by rw [self]) (by rw [self])
    (by rw [self]) (by rw [self])

theorem drives_cut (s : State) (ax : Axis) : Drives m s (s.cut ax) := by
  have self := cut_axis_self s ax
  exact .at_axis ax (keeps_cut s ax).cfg (fun _ => cut_axis_ne s) (by rw [self]) (by rw [self]) (by rw [self])
    (by rw [self])

theorem cut_state (s : State) (ax : Axis) : ((s.cut ax).axis ax).state = (s.axis ax).state := by rw [cut_axis_self]

/-- An axis may come to rest from its state. -/
def Parts.RestsFrom (m : Parts) (a : AxisState) : Prop := ∀ b : AxisState, b.rests = true → m.Allows a b

theorem drives_rest (s : State) (ax : Axis) (h : m.RestsFrom (s.axis ax).state) : Drives m s (s.rest ax) := by
  refine (drives_cut s ax).trans (drives_enter _ ax ?_)
  rw [cut_state]
  exact h _ (by split <;> rfl)

theorem drives_setReason (s : State) (ax : Axis) (reason : StopReason) : Drives m s (s.setReason ax reason) :=
  drives_setAxis_same s ax rfl rfl rfl rfl

theorem drives_restFor (s : State) (ax : Axis) (reason : StopReason) (h : m.RestsFrom (s.axis ax).state) :
    Drives m s (s.restFor ax reason) :=
  (drives_setReason s ax reason).trans (drives_rest _ ax (by rw [setReason_state]; exact h))

theorem drives_faultFor (s : State) (ax : Axis) (reason : StopReason) (h : m.Faults (s.axis ax).state) :
    Drives m s (s.faultFor ax reason) :=
  (drives_setReason s ax reason).trans ((drives_cut _ ax).trans (drives_enter _ ax
    (by rw [cut_state, setReason_state]; exact h.allows_fault)))

theorem drives_raise (s : State) (a : Alarm) : Drives m s (s.raise a) := .of_motion (raise_cfg s a) (raise_motion s a)

theorem drives_askMotor (s : State) (ax : Axis) (n a b : Nat) : Drives m s (s.askMotor ax n a b) := by
  have others (x : Axis) (h : x ≠ ax) := askMotor_axis_ne s n a b h
  have cfg := (keeps_askMotor s ax n a b).cfg
  rcases askMotor_axis_self s ax n a b with self | ⟨k, self⟩ <;>
    exact .at_axis ax cfg others (by rw [self]) (by rw [self]) (by rw [self]) (by rw [self])

theorem drives_setDuty (s : State) (ax : Axis) (duty : Nat) :
    Drives m s (s.setAxis ax { s.axis ax with duty := duty }) := drives_setAxis_same s ax rfl rfl rfl rfl

theorem drives_toStopping (s : State) (ax : Axis) (reason : StopReason)
    (moves : (s.axis ax).state.moves = true) : Drives m s (s.toStopping ax reason) := by
  have released : Drives m (s.releaseSlot ax) ((s.releaseSlot ax).setAxis ax { (s.releaseSlot ax).axis ax with
      reason := reason, lease := none, stallCount := 0 }) := drives_setAxis_same _ ax rfl rfl rfl rfl
  refine ((drives_releaseSlot s ax).trans released).trans (drives_enter _ ax ?_)
  rw [State.setAxis_axis, releaseSlot_axis_self]
  exact m.allows_stopping moves

theorem drives_enterStopping (s : State) (ax : Axis) (reason : StopReason) (stops : m.Stops)
    (moves : (s.axis ax).state.moves = true) : Drives m s (s.enterStopping ax reason) := by
  rw [enterStopping_eq]; dsimp only
  refine (drives_toStopping s ax reason moves).trans
    (drives_ite (fun _ => ?_) (fun _ => drives_askMotor _ ax _ _ _))
  refine (drives_setDuty _ ax 0).trans (drives_rest _ ax fun b rests => stops.allows_rest ?_ rests)
  rw [State.setAxis_axis]
  simp [toStopping_state, AxisState.motorPowered]

theorem drives_stopMoving (s : State) (reason : StopReason) (ax : Axis) (stops : m.Stops) :
    Drives m s (s.stopMoving reason ax) :=
  drives_ite (fun moves => drives_enterStopping s ax reason stops moves) (fun _ => .refl s)

theorem drives_lineStopAxis (s : State) (action : AxisAction) (ax : Axis) (stops : m.Stops) :
    Drives m s (s.lineStopAxis action ax) := by
  have ends (powered : (s.axis ax).state.motorPowered = true) : Drives m s (s.restFor ax .allstop) :=
    drives_restFor s ax _ fun b rests => stops.allows_rest powered rests
  have moving (moves : (s.axis ax).state.moves = true) (powered : (s.axis ax).state.motorPowered = true) : Drives m s
      (if action = .stopRamp then s.enterStopping ax .allstop else s.restFor ax .allstop) :=
    drives_ite (fun _ => drives_enterStopping s ax _ stops moves) (fun _ => ends powered)
  unfold State.lineStopAxis
  split
  · next st => exact moving (by rw [st]; rfl) (by rw [st]; rfl)
  · next st => exact moving (by rw [st]; rfl) (by rw [st]; rfl)
  · next st => exact ends (by rw [st]; rfl)
  all_goals exact .refl s

theorem drives_lineStop (s : State) (stops : m.Stops) : Drives m s s.lineStop :=
  (drives_lineStopAxis s _ .A stops).trans (drives_lineStopAxis _ _ .B stops)

theorem drives_loseDirection (s : State) (ax : Axis) (d : Direction) (stops : m.Stops) :
    Drives m s (s.loseDirection ax d) := by
  refine drives_ite (fun moving => ?_) (fun _ => .refl s)
  simp only [Bool.and_eq_true] at moving
  exact (drives_raise s _).trans (drives_enterStopping _ ax _ stops (by simpa using moving.1))

/-! ## The end of a command -/

theorem offer_cfg (s : State) (f : SendFrame) : (s.offer f).cfg = s.cfg := (keeps_offer s f).cfg

theorem drives_setAlarm (s : State) (a : Alarm) : Drives m s (s.setAlarm a) := by
  refine .of_motion (keeps_setAlarm s a).cfg ?_
  unfold State.setAlarm; dsimp only; split
  · rw [offer_motion]; rfl
  · rfl

/-- An alarm in no hold mask stops no axis (R179). -/
theorem newlySet_of_unmasked {s : State} {ax : Axis} (h : (s.axisCfg ax).holdMask = 0) (a : Alarm) :
    s.newlySet a ax = s := by
  simp [State.newlySet, Alarm.within, h]

theorem drives_newlySet (s : State) (a : Alarm) (ax : Axis) : Drives m s (s.newlySet a ax) :=
  .of_tokens (drives_ite (fun _ => drives_stopMoving s _ ax (.inl rfl)) (fun _ => .refl s)) fun _ masks x => by
    rw [newlySet_of_unmasked (masks ax)]; exact .refl _ _

theorem drives_takeReport (s : State) (a : Alarm) : Drives m s (s.takeReport a) :=
  drives_ite (fun _ => .refl s) fun _ =>
    ((drives_setAlarm s a).trans (drives_newlySet _ a .A)).trans (drives_newlySet _ a .B)

/-- The holds that the settling of `s` may find are those that the command leaves: the causes that stand, or, while further
events of the instant are to come, a cause that one of them brings (R181). -/
def Parts.Follows (m : Parts) (s : State) : Prop :=
  (∀ ax, (s.axisCfg ax).holdMask = 0) → m.held = s.motionHeld ∨ s.safety.within = true ∧ m.held = true

/-- Without hold masks the causes of a hold are the three that are not alarms (R71, R171). -/
theorem heldNow_of_unmasked {s : State} {ax : Axis} (h : (s.axisCfg ax).holdMask = 0) : s.heldNow ax = s.motionHeld := by
  simp [State.heldNow, State.causes, Causes.any, State.motionHeld, Alarm.within, h]

theorem Trails.motionHeld {s t : State} (h : Trails s t) : t.motionHeld = s.motionHeld := by
  simp only [State.motionHeld, h.holdOff]
  rw [h.line]

theorem Trails.follows {s t : State} (h : Trails s t) (f : m.Follows s) : m.Follows t := fun masks => by
  rw [h.motionHeld, h.within]
  exact f fun ax => by rw [← axisCfg_of_cfg h.cfg]; exact masks ax

/-- STOPPED and HELD stand in the order of the causes that stand (R171). -/
theorem Parts.allows_held {m : Parts} (h : m.tokens = false → m.held = true) : m.Allows .stopped .held where
  rank := fun t _ => by simp [Parts.rank, h t]
  powered := fun _ p => by cases p

theorem Parts.allows_stopped {m : Parts} (h : m.tokens = false → m.held = false) : m.Allows .held .stopped where
  rank := fun t _ => by simp [Parts.rank, h t]
  powered := fun _ p => by cases p

/-- The hold that a change brings is the one that the command leaves (R171, R181). -/
theorem held_of_stale {held cause within flag : Bool} (stands : held = cause ∨ within = true ∧ held = true)
    (stale : flag ≠ (cause || within && flag)) : held = (cause || within && flag) := by
  revert held cause within flag; decide

/-- Where the hold of an axis changes, the axis follows it. -/
theorem drives_followHold_of (s : State) (ax : Axis)
    (h : (s.axisSafety ax).held ≠ s.holdOn ax → m.tokens = false → m.held = s.holdOn ax) :
    Drives m s (s.followHold ax) := by
  unfold State.followHold; dsimp only; split
  · exact .refl s
  · next stale =>
    have noted : Drives m s (s.setAxisSafety ax { s.axisSafety ax with held := s.holdOn ax }) :=
      .of_motion (by simp) (by simp)
    refine noted.trans ?_
    split
    · next st now => exact drives_enter _ ax (by rw [st]; exact Parts.allows_held fun t => (h stale t).trans now)
    · next st now => exact drives_enter _ ax (by rw [st]; exact Parts.allows_stopped fun t => (h stale t).trans now)
    · exact .refl _

theorem drives_followHold (s : State) (ax : Axis) (f : m.tokens = false → m.Follows s) :
    Drives m s (s.followHold ax) := by
  by_cases masks : ∀ ax, (s.axisCfg ax).holdMask = 0
  · refine drives_followHold_of s ax fun stale t => ?_
    simp only [State.holdOn, heldNow_of_unmasked (masks ax)] at stale ⊢
    exact held_of_stale (f t masks) stale
  · exact .of_tokens (drives_followHold_of s ax fun _ t => by cases t) fun _ k => absurd k masks

theorem drives_settle (n : Nat) (s : State) (f : m.tokens = false → m.Follows s) : Drives m s (s.settle n) := by
  induction n generalizing s with
  | zero => exact .of_motion rfl rfl
  | succ n ih =>
    have synced : Drives m s s.syncContent := .of_motion (keeps_syncContent s).cfg (syncContent_motion s)
    have sync := trails_syncContent s
    unfold State.settle; dsimp only; split
    · next a rest _ =>
      have taken : Drives m s.syncContent
          (s.syncContent.setSafety { s.syncContent.safety with raised := rest }) := .of_motion rfl rfl
      exact (synced.trans taken).trans ((drives_takeReport _ a).trans (ih _ fun t =>
        (sync.trans ((trails_setRaised _ rest).trans (trails_takeReport _ a))).follows (f t)))
    · refine drives_ite (fun _ => ?_) (fun _ => synced)
      have first := sync.trans (trails_followHold _ .A)
      exact (synced.trans (drives_followHold _ .A fun t => sync.follows (f t))).trans
        ((drives_followHold _ .B fun t => first.follows (f t)).trans
          (ih _ fun t => (first.trans (trails_followHold _ .B)).follows (f t)))

theorem drives_settled (s : State) (f : m.tokens = false → m.Follows s) : Drives m s s.settled := drives_settle _ s f

end
end Sys2Proof.Machine
end

section
/-! PROOFS. What each operation of the model may change: the relation, and its rule for every write and every operation. -/

namespace Sys2Proof.Machine

/-! ## The relation -/

/-- The registers of a channel that only modulator bits move. -/
def SenseChannel.SameBits (a b : SenseChannel) : Prop :=
  b.i1 = a.i1 ∧ b.i2 = a.i2 ∧ b.i3 = a.i3 ∧ b.bitCount = a.bitCount ∧ b.sample = a.sample ∧ b.state = a.state ∧
    b.runLength = a.runLength

theorem SenseChannel.SameBits.refl (a : SenseChannel) : a.SameBits a := ⟨rfl, rfl, rfl, rfl, rfl, rfl, rfl⟩

theorem SenseChannel.SameBits.trans {a b c : SenseChannel} (h : a.SameBits b) (k : b.SameBits c) : a.SameBits c := by
  obtain ⟨i1, i2, i3, count, sample, state, run⟩ := h
  obtain ⟨i1', i2', i3', count', sample', state', run'⟩ := k
  exact ⟨i1'.trans i1, i2'.trans i2, i3'.trans i3, count'.trans count, sample'.trans sample, state'.trans state,
    run'.trans run⟩

/-- A channel in RUNNING stays so, and its baseline moves only at rest (R122). -/
def State.tracks (s t : State) : Prop :=
  ∀ x : Fin 4, s.sense[x].state = .running → t.sense[x].state = .running ∧
    ∀ ax, s.boundAxis x = some ax → (t.axis ax).state.motorPowered = true → t.sense[x].baseline = s.sense[x].baseline

/-- From `s` to `t` no part has changed but those that `m` gives free. -/
structure Touches (m : Parts) (s t : State) : Prop where
  pending : t.pending = s.pending
  inReset : t.inReset = s.inReset
  config : m.config = false → t.loader = s.loader ∧ t.cfg = s.cfg ∧
    ∀ i : Fin 24, t.light.channels[i].groups = s.light.channels[i].groups
  pins : m.pins = false → t.pins = s.pins
  time : m.time = false → t.time.p = s.time.p ∧ t.time.elapsed = s.time.elapsed
  arrivals : m.arrivals = false → t.time.arrivals = s.time.arrivals
  scenes : m.scenes = false → t.light.scenes = s.light.scenes
  sense : m.sense = false → ∀ x : Fin 4, s.sense[x].SameBits t.sense[x]
  baseline : m.baseline = false → ∀ x : Fin 4, t.sense[x].baseline = s.sense[x].baseline
  intake : m.intake = false → t.cmd.intake = s.cmd.intake
  allstop : m.allstop = false → t.line.allstop = s.line.allstop
  holdOff : m.holdOff = false → t.safety.holdOff = s.safety.holdOff
  begins : m.begins = false → t.motionHeld = true → s.motionHeld = true
  ends : m.ends = false → s.motionHeld = true → t.motionHeld = true
  drives : m.config = false → Drives m s t
  tracks : m.config = false → m.tracks = false → s.tracks t

theorem State.tracks_of_baseline {s t : State} (h : ∀ x : Fin 4, t.sense[x].state = s.sense[x].state ∧
    t.sense[x].baseline = s.sense[x].baseline) : s.tracks t := fun x running =>
  ⟨(h x).1.trans running, fun _ _ _ => (h x).2⟩

theorem boundAxis_of_cfg {s t : State} (h : t.cfg = s.cfg) (x : Fin 4) : t.boundAxis x = s.boundAxis x := by
  simp [State.boundAxis, h]

section
variable {m : Parts}

theorem Touches.refl (s : State) : Touches m s s where
  pending := rfl
  inReset := rfl
  config := fun _ => ⟨rfl, rfl, fun _ => rfl⟩
  pins := fun _ => rfl
  time := fun _ => ⟨rfl, rfl⟩
  arrivals := fun _ => rfl
  scenes := fun _ => rfl
  sense := fun _ _ => .refl _
  baseline := fun _ _ => rfl
  intake := fun _ => rfl
  allstop := fun _ => rfl
  holdOff := fun _ => rfl
  begins := fun _ => id
  ends := fun _ => id
  drives := fun _ => .refl s
  tracks := fun _ _ => State.tracks_of_baseline fun _ => ⟨rfl, rfl⟩

theorem Touches.trans {s t u : State} (h : Touches m s t) (k : Touches m t u) : Touches m s u where
  pending := k.pending.trans h.pending
  inReset := k.inReset.trans h.inReset
  config := fun p => ⟨(k.config p).1.trans (h.config p).1, (k.config p).2.1.trans (h.config p).2.1,
    fun i => ((k.config p).2.2 i).trans ((h.config p).2.2 i)⟩
  pins := fun p => (k.pins p).trans (h.pins p)
  time := fun p => ⟨(k.time p).1.trans (h.time p).1, (k.time p).2.trans (h.time p).2⟩
  arrivals := fun p => (k.arrivals p).trans (h.arrivals p)
  scenes := fun p => (k.scenes p).trans (h.scenes p)
  sense := fun p x => (h.sense p x).trans (k.sense p x)
  baseline := fun p x => (k.baseline p x).trans (h.baseline p x)
  intake := fun p => (k.intake p).trans (h.intake p)
  allstop := fun p => (k.allstop p).trans (h.allstop p)
  holdOff := fun p => (k.holdOff p).trans (h.holdOff p)
  begins := fun p => h.begins p ∘ k.begins p
  ends := fun p => k.ends p ∘ h.ends p
  drives := fun p => (h.drives p).trans (k.drives p)
  tracks := fun c p x running => by
    obtain ⟨still, same⟩ := h.tracks c p x running
    obtain ⟨still', same'⟩ := k.tracks c p x still
    refine ⟨still', fun ax bound powered => ?_⟩
    rw [same' ax ((boundAxis_of_cfg (h.config c).2.1 x).trans bound) powered,
      same ax bound ((k.drives c).powered p ax powered)]

theorem touches_ite {c : Prop} [Decidable c] {s t u : State} (ht : c → Touches m s t) (hu : ¬c → Touches m s u) :
    Touches m s (if c then t else u) := by
  split
  · next h => exact ht h
  · next h => exact hu h

theorem touches_foldl {α : Type} {step : State → α → State} (h : ∀ s a, Touches m s (step s a)) (l : List α) (s : State) :
    Touches m s (l.foldl step s) := by
  induction l generalizing s with
  | nil => exact .refl s
  | cons a l ih => exact (h s a).trans (ih _)

/-- What the operations on axes, alarms and announce requests leave, with the way the axes have gone. -/
theorem Touches.of_spares {s t : State} (h : Spares s t) (d : Drives m s t) : Touches m s t := by
  have line : t.line.allstop = s.line.allstop ∧ t.line.estop = s.line.estop := by rw [h.line]; exact ⟨rfl, rfl⟩
  have held : t.motionHeld = s.motionHeld := by simp [State.motionHeld, line, h.holdOff]
  have channel (i : Fin 24) : t.light.channels[i].groups = s.light.channels[i].groups := by
    rcases h.channels i with e | ⟨f, -, e⟩ <;> rw [e]
  exact {
    pending := h.pending
    inReset := h.inReset
    config := fun _ => ⟨h.loader, h.cfg, channel⟩
    pins := fun _ => h.pins
    time := fun _ => by rw [h.time]; exact ⟨rfl, rfl⟩
    arrivals := fun _ => by rw [h.time]
    scenes := fun _ => by rw [h.light]
    sense := fun _ x => by rw [h.sense]; exact ⟨rfl, rfl, rfl, rfl, rfl, rfl, rfl⟩
    baseline := fun _ x => by rw [h.sense]
    intake := fun _ => by rw [h.cmd]
    allstop := fun _ => line.1
    holdOff := fun _ => h.holdOff
    begins := fun _ => by rw [held]; exact id
    ends := fun _ => by rw [held]; exact id
    drives := fun _ => d
    tracks := fun _ _ => State.tracks_of_baseline fun x => by rw [h.sense]; exact ⟨rfl, rfl⟩ }

theorem Touches.motionHeld {s t : State} (h : Touches m s t) (begins : m.begins = false) (ends : m.ends = false) :
    t.motionHeld = s.motionHeld := by
  rw [Bool.eq_iff_iff]; exact ⟨h.begins begins, h.ends ends⟩

/-! ## Writing a block -/

theorem touches_setPins (s : State) {x : Pins} (h : m.pins = false → x = s.pins) : Touches m s (s.setPins x) :=
  { Touches.refl s with pins := h, drives := fun _ => .of_motion rfl rfl, tracks := fun _ _ => State.tracks_of_baseline fun _ => ⟨rfl, rfl⟩ }

theorem touches_setLine (s : State) {x : LineUnit} (allstop : x.allstop = s.line.allstop)
    (estop : x.estop = s.line.estop) : Touches m s (s.setLine x) := by
  have held : (s.setLine x).motionHeld = s.motionHeld := by
    show (x.allstop || x.estop || decide (0 < s.safety.holdOff)) = s.motionHeld
    rw [allstop, estop]; rfl
  exact { Touches.refl s with
    allstop := fun _ => allstop
    begins := fun _ => by rw [held]; exact id
    ends := fun _ => by rw [held]; exact id
    drives := fun _ => .of_motion rfl rfl
    tracks := fun _ _ => State.tracks_of_baseline fun _ => ⟨rfl, rfl⟩ }

/-- A write to the Line Unit that enters or leaves a line condition. -/
theorem touches_setLine_turning (s : State) {x : LineUnit} (allstop : m.allstop = false → x.allstop = s.line.allstop)
    (begins : m.begins = false → (s.setLine x).motionHeld = true → s.motionHeld = true) (ends : m.ends = true) :
    Touches m s (s.setLine x) :=
  { Touches.refl s with
    allstop := allstop
    begins := begins
    ends := fun e => by rw [ends] at e; cases e
    drives := fun _ => .of_motion rfl rfl
    tracks := fun _ _ => State.tracks_of_baseline fun _ => ⟨rfl, rfl⟩ }

theorem touches_setTime (s : State) {x : TimeBase} (time : m.time = false → x.p = s.time.p ∧ x.elapsed = s.time.elapsed)
    (arrivals : m.arrivals = false → x.arrivals = s.time.arrivals) : Touches m s (s.setTime x) :=
  { Touches.refl s with
    time := time
    arrivals := arrivals
    drives := fun _ => .of_motion rfl rfl
    tracks := fun _ _ => State.tracks_of_baseline fun _ => ⟨rfl, rfl⟩ }

theorem touches_setPeer (s : State) (x : PeerUnit) : Touches m s (s.setPeer x) :=
  { Touches.refl s with
    drives := fun _ => .of_motion rfl rfl
    tracks := fun _ _ => State.tracks_of_baseline fun _ => ⟨rfl, rfl⟩ }

theorem touches_setCmd (s : State) {x : CommandUnit} (intake : m.intake = false → x.intake = s.cmd.intake) :
    Touches m s (s.setCmd x) :=
  { Touches.refl s with
    intake := intake
    drives := fun _ => .of_motion rfl rfl
    tracks := fun _ _ => State.tracks_of_baseline fun _ => ⟨rfl, rfl⟩ }

theorem touches_setLight (s : State) {x : LightUnit} (scenes : m.scenes = false → x.scenes = s.light.scenes)
    (groups : ∀ i : Fin 24, x.channels[i].groups = s.light.channels[i].groups) : Touches m s (s.setLight x) :=
  { Touches.refl s with
    config := fun _ => ⟨rfl, rfl, groups⟩
    scenes := scenes
    drives := fun _ => .of_motion rfl rfl
    tracks := fun _ _ => State.tracks_of_baseline fun _ => ⟨rfl, rfl⟩ }

/-- A write to the Light Unit beside the channels and the scenes. -/
theorem touches_setLight_same (s : State) {x : LightUnit} (scenes : x.scenes = s.light.scenes)
    (channels : x.channels = s.light.channels) : Touches m s (s.setLight x) :=
  touches_setLight s (fun _ => scenes) fun i => by rw [channels]

theorem touches_setPool (s : State) (x : Vector (Option Slot) 16) : Touches m s (s.setPool x) :=
  { Touches.refl s with
    drives := fun _ => .of_motion rfl rfl
    tracks := fun _ _ => State.tracks_of_baseline fun _ => ⟨rfl, rfl⟩ }

theorem touches_setOwed (s : State) (x : List Owed) : Touches m s (s.setOwed x) :=
  { Touches.refl s with
    drives := fun _ => .of_motion rfl rfl
    tracks := fun _ _ => State.tracks_of_baseline fun _ => ⟨rfl, rfl⟩ }

theorem touches_owe (s : State) (o : Owed) : Touches m s (s.owe o) := touches_setOwed s _
theorem touches_disown (s : State) (o : Owed) : Touches m s (s.disown o) := touches_setOwed s _
theorem touches_oweIf (s : State) (c : Bool) (o : Owed) : Touches m s (s.oweIf c o) :=
  touches_ite (fun _ => touches_owe s o) (fun _ => .refl s)

/-- A write to the Safety Unit that leaves the hold-off. -/
theorem touches_setSafety (s : State) {x : SafetyUnit} (holdOff : x.holdOff = s.safety.holdOff) :
    Touches m s (s.setSafety x) := by
  have held : (s.setSafety x).motionHeld = s.motionHeld := by simp [State.motionHeld, holdOff]
  exact { Touches.refl s with
    holdOff := fun _ => holdOff
    begins := fun _ => by rw [held]; exact id
    ends := fun _ => by rw [held]; exact id
    drives := fun _ => .of_motion rfl rfl
    tracks := fun _ _ => State.tracks_of_baseline fun _ => ⟨rfl, rfl⟩ }

/-- A write that loads or steps the hold-off. -/
theorem touches_setHoldOff (s : State) {x : SafetyUnit} (holdOff : m.holdOff = false → x.holdOff = s.safety.holdOff)
    (begins : m.begins = false → (s.setSafety x).motionHeld = true → s.motionHeld = true) (ends : m.ends = true) :
    Touches m s (s.setSafety x) :=
  { Touches.refl s with
    holdOff := holdOff
    begins := begins
    ends := fun e => by rw [ends] at e; cases e
    drives := fun _ => .of_motion rfl rfl
    tracks := fun _ _ => State.tracks_of_baseline fun _ => ⟨rfl, rfl⟩ }

theorem touches_setWithin (s : State) (b : Bool) : Touches m s (s.setWithin b) := touches_setSafety s rfl

theorem touches_setAxisSafety (s : State) (ax : Axis) (x : AxisSafety) : Touches m s (s.setAxisSafety ax x) := by
  cases ax <;> exact touches_setSafety s rfl

/-- A write to one sense channel. -/
theorem touches_setChannel (s : State) (c : Fin 4) {ch : SenseChannel} (sense : m.sense = false → s.sense[c].SameBits ch)
    (baseline : m.baseline = false → ch.baseline = s.sense[c].baseline)
    (tracks : m.tracks = false → s.sense[c].state = .running → ch.state = .running ∧
      ∀ ax, s.boundAxis c = some ax → (s.axis ax).state.motorPowered = true → ch.baseline = s.sense[c].baseline) :
    Touches m s (s.setChannel c ch) := by
  have channel (x : Fin 4) : (s.setChannel c ch).sense[x] = if x = c then ch else s.sense[x] := by
    simp only [State.setChannel, State.setSense_sense, Fin.getElem_fin, Vector.getElem_set, Fin.ext_iff, eq_comm]
  exact { Touches.refl s with
    sense := fun p x => by
      rw [channel]; split
      · next e => rw [e]; exact sense p
      · exact .refl _
    baseline := fun p x => by
      rw [channel]; split
      · next e => rw [e]; exact baseline p
      · rfl
    drives := fun _ => .of_motion rfl rfl
    tracks := fun _ p x running => by
      rw [channel]; split
      · next e =>
        subst e
        obtain ⟨still, same⟩ := tracks p running
        exact ⟨still, fun ax bound powered => same ax bound (by simpa [State.setChannel] using powered)⟩
      · exact ⟨running, fun _ _ _ => rfl⟩ }

/-- A write to one sense channel beside what its bits move. -/
theorem touches_setChannel_same (s : State) (c : Fin 4) {ch : SenseChannel} (same : s.sense[c].SameBits ch)
    (baseline : ch.baseline = s.sense[c].baseline) : Touches m s (s.setChannel c ch) :=
  touches_setChannel s c (fun _ => same) (fun _ => baseline) fun _ running =>
    ⟨same.2.2.2.2.2.1.trans running, fun _ _ _ => baseline⟩

/-- A write to the axes alone. -/
theorem Touches.of_drives {s : State} {x : MotionUnit} (d : Drives m s (s.setMotion x)) : Touches m s (s.setMotion x) :=
  { Touches.refl s with
    drives := fun _ => d
    tracks := fun _ _ => State.tracks_of_baseline fun _ => ⟨rfl, rfl⟩ }

theorem touches_setAxis (s : State) (ax : Axis) {r : AxisRecord} (d : Drives m s (s.setAxis ax r)) :
    Touches m s (s.setAxis ax r) := by
  cases ax <;> exact .of_drives d

theorem touches_setAxis_same (s : State) (ax : Axis) {r : AxisRecord} (state : r.state = (s.axis ax).state)
    (token : r.token = (s.axis ax).token) (position : r.position = (s.axis ax).position)
    (referenced : r.referenced = (s.axis ax).referenced) : Touches m s (s.setAxis ax r) :=
  touches_setAxis s ax (drives_setAxis_same s ax state token position referenced)

/-! ## Alarms, announcements and the end of a command -/

theorem touches_raise (s : State) (a : Alarm) : Touches m s (s.raise a) :=
  .of_spares (trails_raise s a).toSpares (drives_raise s a)

theorem touches_offer (s : State) (f : SendFrame) : Touches m s (s.offer f) :=
  .of_spares (trails_offer s f).toSpares (.of_motion (keeps_offer s f).cfg (offer_motion s f))

theorem touches_announceRequest (s : State) : Touches m s s.announceRequest :=
  .of_spares (trails_announceRequest s).toSpares
    (.of_motion (keeps_announceRequest s).cfg (announceRequest_motion s))

theorem touches_syncContent (s : State) : Touches m s s.syncContent :=
  .of_spares (trails_syncContent s).toSpares (.of_motion (keeps_syncContent s).cfg (syncContent_motion s))

theorem touches_setAlarm (s : State) (a : Alarm) : Touches m s (s.setAlarm a) :=
  .of_spares (trails_setAlarm s a).toSpares (drives_setAlarm s a)

theorem touches_settled (s : State) (f : m.tokens = false → m.Follows s) : Touches m s s.settled :=
  .of_spares (trails_settled s).toSpares (drives_settled s f)

theorem touches_publish (s : State) : Touches m s s.publish :=
  .of_spares (trails_publish s).toSpares (.of_motion (publish_cfg s) (publish_motion s))

theorem touches_finish (s : State) (held : m.tokens = false → m.held = s.motionHeld) : Touches m s s.finish :=
  ((touches_setWithin s false).trans (touches_settled _ fun t _ => .inl (held t))).trans (touches_publish _)

theorem touches_setAlarms (s : State) (l : List Alarm) : Touches m s (l.foldl State.setAlarm s) :=
  touches_foldl touches_setAlarm l s

/-! ## Stops -/

theorem not_disabled_of_powered {st : AxisState} (h : st.motorPowered = true) : st ≠ .disabled := by
  rintro rfl; cases h

theorem Parts.Stops.restsFrom {a : AxisState} (h : m.Stops) (powered : a.motorPowered = true) : m.RestsFrom a :=
  fun _ rests => h.allows_rest powered rests

theorem touches_rest (s : State) (ax : Axis) (h : m.RestsFrom (s.axis ax).state) (formed : (s.axis ax).state ≠ .disabled) :
    Touches m s (s.rest ax) := .of_spares (trails_rest s ax formed).toSpares (drives_rest s ax h)

/-- A motor-powered axis comes to rest. -/
theorem touches_restFor (s : State) (ax : Axis) (reason : StopReason) (stops : m.Stops)
    (powered : (s.axis ax).state.motorPowered = true) : Touches m s (s.restFor ax reason) :=
  .of_spares (trails_restFor s ax reason (not_disabled_of_powered powered)).toSpares
    (drives_restFor s ax reason (stops.restsFrom powered))

theorem touches_faultFor (s : State) (ax : Axis) (reason : StopReason) (h : m.Faults (s.axis ax).state)
    (formed : (s.axis ax).state ≠ .disabled) : Touches m s (s.faultFor ax reason) :=
  .of_spares (trails_faultFor s ax reason formed).toSpares (drives_faultFor s ax reason h)

theorem touches_enterStopping (s : State) (ax : Axis) (reason : StopReason) (stops : m.Stops)
    (moves : (s.axis ax).state.moves = true) : Touches m s (s.enterStopping ax reason) :=
  .of_spares (trails_enterStopping s ax reason (not_disabled_of_moves moves)).toSpares
    (drives_enterStopping s ax reason stops moves)

theorem touches_stopMoving (s : State) (reason : StopReason) (ax : Axis) (stops : m.Stops) :
    Touches m s (s.stopMoving reason ax) :=
  .of_spares (trails_stopMoving s reason ax).toSpares (drives_stopMoving s reason ax stops)

theorem touches_lineStop (s : State) (stops : m.Stops) : Touches m s s.lineStop :=
  .of_spares (trails_lineStop s).toSpares (drives_lineStop s stops)

theorem touches_loseDirection (s : State) (ax : Axis) (d : Direction) (stops : m.Stops) :
    Touches m s (s.loseDirection ax d) :=
  .of_spares (trails_loseDirection s ax d).toSpares (drives_loseDirection s ax d stops)

/-! ## Levels and fades -/

theorem touches_leaveFades (s : State) (sel : Fin 24 → Bool) : Touches m s (s.leaveFades sel) := by
  unfold State.leaveFades
  refine (touches_setPool s _).trans (touches_setLight _ (fun _ => rfl) fun i => ?_)
  simp only [Fin.getElem_fin, Vector.getElem_ofFn]
  split <;> rfl

theorem touches_takeLevels (s : State) (aims : Fin 24 → Option Nat) : Touches m s (s.takeLevels aims) :=
  touches_setLight s (fun _ => rfl) fun i => by
    simp only [Fin.getElem_fin, Vector.getElem_ofFn]
    cases aims i <;> rfl

theorem touches_joinSlot (s : State) (aims : Fin 24 → Option Nat) (k : Fin 16) : Touches m s (s.joinSlot aims k) :=
  touches_setLight s (fun _ => rfl) fun i => by
    simp only [Fin.getElem_fin, Vector.getElem_ofFn]
    cases aims i <;> rfl

theorem touches_giveSlot (s : State) (k : Fin 16) (slot : Slot) : Touches m s (s.giveSlot k slot) :=
  (touches_setPool s _).trans (touches_disown _ _)

theorem touches_changeLevels (s : State) (aims : Fin 24 → Option Nat) (fade : Nat) :
    Touches m s (s.changeLevels aims fade) := by
  unfold State.changeLevels
  refine touches_ite (fun _ => .refl s) fun _ => ?_
  dsimp only
  refine (touches_leaveFades s _).trans (touches_ite (fun _ => touches_takeLevels _ aims) fun _ => ?_)
  split
  · exact (touches_giveSlot _ _ _).trans (touches_joinSlot _ aims _)
  · exact (touches_takeLevels _ aims).trans (touches_raise _ _)

theorem touches_markScene (s : State) (aims : Fin 24 → Option Nat) (scene : Option (Fin 8)) :
    Touches m s (s.markScene aims scene) :=
  touches_setLight s (fun _ => rfl) fun i => by
    simp only [Fin.getElem_fin, Vector.getElem_ofFn]
    split <;> rfl

theorem touches_recallScene (s : State) (scene : Fin 8) (sel : Fin 24 → Bool) (fade : Option Nat) :
    Touches m s (s.recallScene scene sel fade) := (touches_changeLevels s _ _).trans (touches_markScene _ _ _)

theorem touches_recallAlert (s : State) : Touches m s s.recallAlert := by
  unfold State.recallAlert; split
  · exact touches_recallScene s _ _ _
  · exact .refl s

theorem touches_stopRun (s : State) : Touches m s s.stopRun := by
  refine .trans ?_ (touches_disown _ .runStep)
  exact touches_setLight_same s rfl rfl

theorem touches_beginOverride (s : State) : Touches m s s.beginOverride := by
  refine .trans (.trans ?_ (touches_stopRun _)) (touches_recallAlert _)
  exact touches_setLight_same s rfl rfl

theorem touches_applyRow (s : State) (row : TriggerRow) (reason : StopReason) (stops : m.Stops) :
    Touches m s (s.applyRow row reason) := by
  have axes : Touches m s
      (if row.axisAction = .stopRamp then (s.stopMoving reason .A).stopMoving reason .B else s) :=
    touches_ite (fun _ => (touches_stopMoving s _ .A stops).trans (touches_stopMoving _ _ .B stops)) (fun _ => .refl s)
  exact axes.trans (touches_ite (fun _ => touches_recallAlert _) (fun _ => .refl _))

theorem touches_completeLight (s : State) (k : Fin 16) : Touches m s (s.completeLight k) :=
  .of_spares (spares_completeLight s k) (.of_motion (keeps_completeLight s k).cfg (completeLight_motion s k))

end
end Sys2Proof.Machine
end

section
/-! PROOFS. What each operation of the model may change, block by block. -/

namespace Sys2Proof.Machine

section
variable {m : Parts}

/-! ## The stepping of the pool, and the counts of an axis -/

theorem Channel.stepped_groups (c : Channel) (stepping : Vector (Option Slot) 16) :
    (c.stepped stepping).groups = c.groups := by
  unfold Channel.stepped
  split
  · split <;> rfl
  · rfl

theorem touches_stepSlots (s : State) (due : Fin 16 → Bool) : Touches m s (s.stepSlots due) := by
  have duties (a b : Nat) : Drives m s (s.setMotion
      { a := { s.motion.a with duty := a }, b := { s.motion.b with duty := b } }) := {
    cfg := rfl
    places := fun _ ax => by cases ax <;> exact ⟨rfl, rfl⟩
    tokens := fun _ _ ax => by cases ax <;> exact .of_same rfl rfl
    powered := fun _ ax => by cases ax <;> exact id }
  have lights (t : State) (stepping : Vector (Option Slot) 16) : Touches m t (t.setLight { t.light with
      channels := Vector.ofFn fun i => (t.light.channels[i]).stepped stepping }) :=
    touches_setLight t (fun _ => rfl) fun i => by
      simp only [Fin.getElem_fin, Vector.getElem_ofFn, Channel.stepped_groups]
  have moved := (Touches.of_drives (duties ((s.motion.a).steppedDuty (dueSlots s.pool due))
    ((s.motion.b).steppedDuty (dueSlots s.pool due)))).trans (lights _ (dueSlots s.pool due))
  exact moved.trans (touches_setPool _ _)

theorem Parts.allows_running (m : Parts) : m.Allows .starting .running where
  rank := fun _ _ => by simp [Parts.rank]
  powered := fun _ _ => rfl

theorem drives_enterRunning (s : State) (ax : Axis) (starting : (s.axis ax).state = .starting) :
    Drives m s (s.enterRunning ax) := by
  have written : Drives m s (s.setAxis ax { s.axis ax with
      slot := none, stallCount := 0, duty := movingDuty (s.axisCfg ax) (s.axis ax) }) :=
    drives_setAxis_same s ax rfl rfl rfl rfl
  refine written.trans (drives_enter _ ax ?_)
  rw [State.setAxis_axis]
  simpa [starting] using m.allows_running

theorem touches_enterRunning (s : State) (ax : Axis) (starting : (s.axis ax).state = .starting) :
    Touches m s (s.enterRunning ax) :=
  .of_spares (spares_enterRunning s ax (by rw [starting]; decide)) (drives_enterRunning s ax starting)

theorem touches_completeRamp (s : State) (k : Fin 16) (stops : m.Stops) : Touches m s (s.completeRamp k) := by
  unfold State.completeRamp
  split
  · exact touches_completeLight s k
  · next ax start goal _ _ _ _ =>
    have freed : Touches m s (s.setPool (s.pool.set k none)) := touches_setPool s _
    have dropped (t : State) : Touches m t (t.setAxis ax { t.axis ax with slot := none, duty := goal }) :=
      touches_setAxis_same t ax rfl rfl rfl rfl
    dsimp only; split
    · next st =>
      exact (freed.trans (dropped _)).trans (touches_enterRunning _ ax (by rw [State.setAxis_axis]; exact st))
    · next st =>
      refine (freed.trans (dropped _)).trans (touches_rest _ ax (stops.restsFrom ?_) ?_) <;> rw [State.setAxis_axis]
      · exact congrArg _ st
      · exact fun e => by cases st.symm.trans e
    all_goals exact freed
  · exact .refl s

theorem touches_takeSteps (s : State) (stops : m.Stops) : Touches m s s.takeSteps :=
  ((touches_stepSlots s _).trans (touches_setOwed _ _)).trans
    (touches_foldl (fun s k => touches_completeRamp s k stops) _ _)

theorem Parts.Stops.faults {a : AxisState} (h : m.Stops) (powered : a.motorPowered = true) : m.Faults a :=
  h.imp id fun course => .inl ⟨powered, course⟩

theorem moves_of_leaseAfter {r : AxisRecord} {n : Nat} (h : r.leaseAfter = some n) : r.state.moves = true := by
  unfold AxisRecord.leaseAfter at h
  split at h
  · split at h
    · assumption
    · cases h
  · cases h

theorem touches_leaseStep (s : State) (ax : Axis) (stops : m.Stops) : Touches m s (s.leaseStep ax) := by
  unfold State.leaseStep; dsimp only; split
  · next h => exact touches_enterStopping s ax _ stops (moves_of_leaseAfter h)
  · exact touches_setAxis_same s ax rfl rfl rfl rfl
  · exact .refl s

theorem powered_of_guarded {st : AxisState} (h : st.guarded = true) : st.motorPowered = true := by
  cases st <;> simp_all [AxisState.guarded, AxisState.motorPowered]

theorem touches_stallStep (s : State) (ax : Axis) (stops : m.Stops) : Touches m s (s.stallStep ax) := by
  unfold State.stallStep; dsimp only
  refine touches_ite (fun _ => .refl s) fun guarded => ?_
  refine touches_ite (fun _ => touches_setAxis_same s ax rfl rfl rfl rfl) fun _ => ?_
  have powered := powered_of_guarded (by simpa using guarded)
  refine (touches_raise s _).trans (touches_faultFor _ ax .stall ?_ ?_) <;> rw [raise_axis]
  · exact stops.faults powered
  · exact not_disabled_of_powered powered

theorem touches_blankingStep (s : State) (ax : Axis) : Touches m s (s.blankingStep ax) :=
  touches_ite (fun _ => touches_setAxis_same s ax rfl rfl rfl rfl) (fun _ => .refl s)

/-! ## The peer table and the terms -/

theorem touches_reevaluate (s : State) (ax : Axis) (stops : m.Stops) : Touches m s (s.reevaluate ax) := by
  unfold State.reevaluate; dsimp only
  have lose (t : State) (d : Direction) (c : Bool) : Touches m t (if c then t.loseDirection ax d else t) :=
    touches_ite (fun _ => touches_loseDirection t ax d stops) (fun _ => .refl t)
  exact ((touches_setAxisSafety s ax _).trans (lose _ .plus _)).trans (lose _ .minus _)

theorem touches_reportPeer (s : State) (stops : m.Stops) : Touches m s s.reportPeer :=
  (touches_reevaluate s .A stops).trans (touches_reevaluate _ .B stops)

theorem touches_freshnessStep (s : State) (a : Nat) (stops : m.Stops) : Touches m s (s.freshnessStep a) :=
  (touches_setPeer s _).trans (touches_ite (fun _ => touches_reportPeer _ stops) (fun _ => .refl _))

theorem touches_takeAnnounce (s : State) (a : Nat) (p : List Byte) (stops : m.Stops) :
    Touches m s (s.takeAnnounce a p) := (touches_setPeer s _).trans (touches_reportPeer _ stops)

/-! ## Requests at the blocks -/

/-- The command may start an axis. -/
def Parts.Starts (m : Parts) : Prop := m.tracks = true ∧ (m.tokens = true ∨ m.course = .starting)

theorem Parts.Starts.allows (h : m.Starts) : m.Allows .stopped .starting where
  rank := fun t _ => by
    have course := h.2.resolve_left (by simp [t])
    simp only [Parts.rank, course, if_true]; split <;> decide
  powered := fun t => by rw [h.1] at t; cases t

theorem drives_start (s : State) (ax : Axis) (d : Direction) (mode : Mode) (target : Target) (lease : Option Lease)
    (starts : m.Starts) (stopped : (s.axis ax).state = .stopped) : Drives m s (s.start ax d mode target lease) := by
  unfold State.start; dsimp only
  have written : Drives m s (s.setAxis ax { s.axis ax with
      direction := some d, mode := some mode, target := some target, lease := lease, reason := .none,
      peak := 0, stallCount := 0, backOff := 0, blanking := (s.axisCfg ax).startBlanking, duty := 0 }) :=
    drives_setAxis_same s ax rfl rfl rfl rfl
  refine (written.trans (drives_enter _ ax ?_)).trans (drives_ite (fun _ =>
    drives_enterRunning _ ax (enter_state_self _ _ _)) (fun _ => drives_askMotor _ ax _ _ _))
  rw [State.setAxis_axis]
  simpa [stopped] using starts.allows

theorem touches_start (s : State) (ax : Axis) (d : Direction) (mode : Mode) (target : Target) (lease : Option Lease)
    (starts : m.Starts) (stopped : (s.axis ax).state = .stopped) : Touches m s (s.start ax d mode target lease) :=
  .of_spares (trails_start s ax d mode target lease stopped).toSpares (drives_start s ax d mode target lease starts stopped)

theorem touches_snd_ite {c : Prop} [Decidable c] {s : State} {x y : Code × State} (hx : Touches m s x.2)
    (hy : Touches m s y.2) : Touches m s (if c then x else y).2 := by
  split <;> assumption

theorem touches_runGoto (s : State) (ax : Axis) (target : Target) (starts : m.Starts) :
    Touches m s (s.runGoto ax target).2 := by
  unfold State.runGoto; dsimp only
  split
  case h_8 st =>
    have done (reason : StopReason) :
        Touches m s (s.setAxis ax { s.axis ax with target := some target, reason := reason }) :=
      touches_setAxis_same s ax rfl rfl rfl rfl
    refine touches_snd_ite (.refl s) ?_
    split
    · exact done _
    · exact touches_snd_ite (touches_start s ax _ _ _ _ starts st) (.refl s)
  all_goals exact .refl s

theorem touches_stopAxis (s : State) (ax : Axis) (stops : m.Stops) : Touches m s (s.stopAxis ax) := by
  unfold State.stopAxis
  split
  · next st => exact touches_enterStopping s ax _ stops (by rw [st]; rfl)
  · next st => exact touches_enterStopping s ax _ stops (by rw [st]; rfl)
  · next st => exact touches_restFor s ax _ stops (by rw [st]; rfl)
  all_goals exact .refl s

/-- What a request that may carry an at byte does to an axis lies in the parts. -/
def Parts.Runs (m : Parts) : Timed → Prop
  | .goto _ _ _ => m.Starts
  | .stop _ => m.Stops
  | .sceneRecall _ _ | .levelSet _ _ _ | .runStart | .runStop => True

theorem touches_act (s : State) (addressing : Addressing) (x : Timed) (runs : m.Runs x) :
    Touches m s (s.act addressing x).2 := by
  cases x with
  | goto ax target token => exact touches_runGoto s ax target runs
  | stop ax => exact touches_stopAxis s ax runs
  | sceneRecall scene fade => exact touches_recallScene s scene _ fade
  | levelSet channel level fade => exact (touches_changeLevels s _ _).trans (touches_markScene _ _ _)
  | runStart =>
    show Touches m s s.runRunStart.2
    unfold State.runRunStart; split
    · exact .refl s
    · refine .trans ?_ (touches_disown _ .runStep)
      exact touches_setLight_same s rfl rfl
  | runStop => exact touches_stopRun s

theorem touches_perform (s : State) (addressing : Addressing) (x : Timed) (runs : m.Runs x) :
    Touches m s (s.perform addressing x).2 := by
  unfold State.perform; split
  · exact .refl s
  · exact touches_act s addressing x runs

/-- A write to the Time Base beside P, φ and the arrival map. -/
theorem touches_setTime_same (s : State) {x : TimeBase} (p : x.p = s.time.p) (elapsed : x.elapsed = s.time.elapsed)
    (arrivals : x.arrivals = s.time.arrivals) : Touches m s (s.setTime x) :=
  touches_setTime s (fun _ => ⟨p, elapsed⟩) (fun _ => arrivals)

theorem touches_runTimed (s : State) (r : Request) (x : Timed × Option Byte) (runs : m.Runs x.1) :
    Touches m s (s.runTimed r x).2 := by
  have performed (t : State) := touches_perform t r.addressing x.1 runs
  unfold State.runTimed
  split
  · exact performed s
  · dsimp only; split
    · exact performed s
    · split
      · split
        · exact .refl s
        · split
          · exact touches_setTime_same s rfl rfl rfl
          · exact .refl s
      · split
        · exact .refl s
        · exact (touches_raise s _).trans (performed _)

/-! ## The schedule list -/

/-- The parts in which axes may take any way, motor-powered or not. -/
def Parts.Free (m : Parts) : Prop := m.tokens = true ∧ m.tracks = true

theorem Parts.Free.runs (h : m.Free) (x : Timed) : m.Runs x := by
  cases x with
  | goto => exact ⟨h.2, .inl h.1⟩
  | stop => exact .inl h.1
  | _ => trivial

theorem Parts.Free.settled (h : m.Free) (s : State) : Touches m s s.settled :=
  touches_settled s fun t => by rw [h.1] at t; cases t

theorem touches_deferred (s : State) (e : Entry) (c : Code) : Touches m s (s.deferred e c) := by
  unfold State.deferred; split
  · exact touches_offer s _
  · exact .refl s

theorem touches_runEntry (s : State) (e : Entry) (free : m.Free) : Touches m s (s.runEntry e) :=
  (((touches_perform s _ _ (free.runs _)).trans (free.settled _)).trans (touches_deferred _ e _)).trans (free.settled _)

theorem touches_realignEntry (s : State) (e : Entry) (free : m.Free) : Touches m s (s.realignEntry e) := by
  have answered (t : State) (c : Code) : Touches m t (t.settled.deferred e c).settled :=
    ((free.settled t).trans (touches_deferred _ e c)).trans (free.settled _)
  unfold State.realignEntry; dsimp only
  refine touches_ite (fun _ => ?_) (fun _ => ?_)
  · exact ((touches_raise s _).trans (touches_perform _ _ _ (free.runs _))).trans (answered _ _)
  · exact (touches_raise s .scheduleLost).trans (answered _ _)

theorem touches_filterSchedule (s : State) (p : Entry → Bool) :
    Touches m s (s.setTime { s.time with schedule := s.time.schedule.filter p }) := touches_setTime_same s rfl rfl rfl

theorem touches_realignSchedule (s : State) (free : m.Free) : Touches m s s.realignSchedule :=
  (touches_filterSchedule s _).trans (touches_foldl (fun s e => touches_realignEntry s e free) _ _)

theorem touches_runDue (s : State) (free : m.Free) : Touches m s s.runDue :=
  (touches_filterSchedule s _).trans (touches_foldl (fun s e => touches_runEntry s e free) _ _)

/-! ## The Time Base -/

theorem touches_freeRun (s : State) : Touches m s s.freeRun := touches_setTime_same s rfl rfl rfl

theorem touches_silenceTimerStep (s : State) : Touches m s s.silenceTimerStep := by
  refine touches_ite (fun _ => .refl s) fun _ => touches_ite (fun _ => touches_setTime_same s rfl rfl rfl) fun _ => ?_
  refine .trans ?_ (touches_freeRun _)
  exact touches_setTime_same s rfl rfl rfl

theorem touches_referenceStep (s : State) : Touches m s s.referenceStep :=
  touches_ite (fun _ => .refl s) fun _ => touches_ite (fun _ => touches_setTime_same s rfl rfl rfl)
    (fun _ => touches_freeRun s)

theorem touches_hardRealign (s : State) (pb : BitVec 16) (phib age : Nat) (time : m.time = true) (free : m.Free) :
    Touches m s (s.hardRealign pb phib age) := by
  refine .trans ?_ ((touches_raise _ .realigned).trans ((free.settled _).trans (touches_realignSchedule _ free)))
  exact touches_setTime s (fun t => by rw [time] at t; cases t) fun _ => rfl

theorem touches_align (s : State) (pb : BitVec 16) (phib : Nat) (latch : Latch) (delta : Option Int)
    (time : m.time = true) (free : m.Free) : Touches m s (s.align pb phib latch delta) := by
  have noted (d : LastDelta) : Touches m s (s.setTime { s.time with lastDelta := d }) :=
    touches_setTime_same s rfl rfl rfl
  unfold State.align; dsimp only; split
  · split
    · exact (noted _).trans (touches_setTime_same _ rfl rfl rfl)
    · split
      · exact (noted _).trans (touches_setTime_same _ rfl rfl rfl)
      · exact (noted _).trans (touches_hardRealign _ _ _ _ time free)
  · exact (noted _).trans (touches_hardRealign _ _ _ _ time free)

theorem touches_deferTo (s : State) (a : Nat) : Touches m s (s.deferTo a) := by
  refine touches_ite (fun _ => ?_) (fun _ => .refl s)
  split
  · exact .refl s
  · exact touches_setTime_same s rfl rfl rfl
  · exact touches_setTime_same s rfl rfl rfl

theorem touches_takeBeacon (s : State) (a : Nat) (pb : BitVec 16) (received : Nat) (latch : Latch)
    (time : m.time = true) (arrivals : m.arrivals = true) (free : m.Free) :
    Touches m s (s.takeBeacon a pb received latch) := by
  have marked : Touches m s ((s.setTime { s.time with
      arrivals := markArrival s.time.arrivals (beaconDelta latch pb (takenPhase received)) }).deferTo a) := by
    refine .trans ?_ (touches_deferTo _ a)
    exact touches_setTime s (fun _ => ⟨rfl, rfl⟩) fun t => by rw [arrivals] at t; cases t
  unfold State.takeBeacon; dsimp only
  refine marked.trans (touches_ite (fun _ => ?_) (fun _ => .refl _))
  refine .trans ?_ (touches_align _ _ _ _ _ time free)
  exact touches_setTime_same _ rfl rfl rfl

/-! ## Announcing, beacons, the run and the keys -/

theorem touches_offerBeacon (s : State) : Touches m s s.offerBeacon :=
  touches_ite (fun _ => touches_offer s _) (fun _ => .refl s)

theorem touches_announceCountStep (s : State) : Touches m s s.announceCountStep :=
  touches_ite (fun _ => .refl s) fun _ =>
    touches_ite (fun _ => touches_setPeer s _) (fun _ => touches_announceRequest s)

theorem touches_runStepNow (s : State) : Touches m s s.runStepNow := by
  unfold State.runStepNow; split
  · exact .refl s
  · exact touches_ite (fun _ => .refl s) fun _ => touches_ite (fun _ => touches_setLight_same s rfl rfl)
      (fun _ => touches_setLight_same s rfl rfl)

theorem touches_setCmd_same (s : State) {x : CommandUnit} (h : x.intake = s.cmd.intake) : Touches m s (s.setCmd x) :=
  touches_setCmd s fun _ => h

theorem touches_keyStep (s : State) (k : Fin 8) : Touches m s (s.keyStep k) := touches_setCmd_same s rfl

/-! ## The Line Unit -/

theorem touches_endFrame (s : State) (place : LinePlace) : Touches m s (s.endFrame place) := by
  refine .trans (t := s.setLine { s.line with place := place, bits := [], idleCount := 0, ackDrive := false }) ?_ ?_
  · exact touches_setLine s rfl rfl
  · exact touches_setTime_same _ rfl rfl rfl

theorem touches_leaveLine (s : State) : Touches m s s.leaveLine := by
  have left : Touches m s (s.setLine { s.line with queue := waiting s.line.queue, own := .none, leaveOnLoss := false }) :=
    touches_setLine s rfl rfl
  unfold State.leaveLine; dsimp only
  refine left.trans (touches_ite (fun _ => ?_) (fun _ => .refl _))
  refine .trans ?_ (touches_offer _ _)
  exact touches_setLine _ rfl rfl

theorem touches_credit (s : State) : Touches m s s.credit := touches_setLine s rfl rfl

theorem touches_countError (s : State) (stops : m.Stops) : Touches m s s.countError := by
  have taken : Touches m s (s.setLine { s.line with budget := s.line.budget - 1 }) := touches_setLine s rfl rfl
  unfold State.countError; dsimp only
  refine taken.trans (touches_ite (fun _ => ?_) (fun _ => .refl _))
  refine .trans (.trans ?_ (touches_raise _ _)) (touches_applyRow _ _ _ stops)
  exact touches_setLine _ rfl rfl

theorem read_conditions (l : LineUnit) (b : LineBit) :
    (l.read b).allstop = l.allstop ∧ (l.read b).estop = l.estop := by
  unfold LineUnit.read; dsimp only; split <;> exact ⟨rfl, rfl⟩

theorem touches_read (s : State) (b : LineBit) : Touches m s (s.setLine (s.line.read b)) :=
  touches_setLine s (read_conditions _ b).1 (read_conditions _ b).2

theorem touches_endOwnSlot (s : State) (level : LineBit) : Touches m s (s.endOwnSlot level) :=
  touches_ite (fun _ => (touches_ite (fun _ => .refl s) (fun _ => touches_credit s)).trans (touches_leaveLine _))
    (fun _ => .refl s)

theorem touches_countOwedError (s : State) (b : LineBit) (stops : m.Stops) : Touches m s (s.countOwedError b) := by
  refine touches_ite (fun _ => .trans ?_ (touches_countError _ stops)) (fun _ => .refl s)
  exact touches_setLine s rfl rfl

theorem touches_readBit (s : State) (b : LineBit) (stops : m.Stops) : Touches m s (s.readBit b) :=
  ((touches_read s b).trans (touches_endOwnSlot _ b)).trans (touches_countOwedError _ b stops)

theorem touches_readBits (s : State) (bits : List LineBit) (stops : m.Stops) : Touches m s (s.readBits bits) :=
  touches_foldl (fun s b => touches_readBit s b stops) bits s

/-- The start bit of a frame, own or received, is one more bit read. -/
theorem touches_startBit (s : State) {x : LineUnit} (allstop : x.allstop = (s.line.read false).allstop)
    (estop : x.estop = (s.line.read false).estop) : Touches m s (s.setLine x) :=
  touches_setLine s (allstop.trans (read_conditions _ _).1) (estop.trans (read_conditions _ _).2)

theorem touches_loseContention (s : State) : Touches m s s.loseContention :=
  touches_ite (fun _ => touches_leaveLine s) (fun _ => touches_setLine s rfl rfl)

theorem touches_winContention (s : State) : Touches m s s.winContention := by
  have won : Touches m s (s.setLine { s.line with own := .sending, leaveOnLoss := false }) := touches_setLine s rfl rfl
  unfold State.winContention; dsimp only; split
  · exact won.trans (touches_ite (fun _ => touches_setLine _ rfl rfl) (fun _ => .refl _))
  · exact won

theorem touches_setErrorOwed (s : State) (b : Bool) : Touches m s (s.setLine { s.line with errorOwed := b }) :=
  touches_setLine s rfl rfl

theorem touches_bitErrorNow (s : State) (stops : m.Stops) : Touches m s s.bitErrorNow := by
  have ended := (touches_endFrame (m := m) s .outside).trans (touches_leaveLine _)
  unfold State.bitErrorNow; dsimp only; split
  · exact ended.trans (touches_countError _ stops)
  · exact ended.trans (touches_setErrorOwed _ true)

theorem touches_latchCount (s : State) : Touches m s s.latchCount :=
  touches_ite (fun _ => touches_setLine s rfl rfl) (fun _ => touches_setTime_same s rfl rfl rfl)

theorem touches_enterSlot (s : State) : Touches m s s.enterSlot := by
  refine (touches_endFrame s .slot).trans ?_
  exact touches_setLine _ rfl rfl

theorem touches_intake (s : State) (f : Frame) (intake : m.intake = true) : Touches m s (s.intake f) :=
  touches_ite (fun _ => .refl s) fun _ =>
    touches_ite (fun _ => touches_setCmd s fun t => by rw [intake] at t; cases t) (fun _ => touches_raise s _)

theorem touches_route (s : State) (f : Frame) (latch : Latch) (intake : m.intake = true) :
    Touches m s (s.route f latch) := by
  unfold State.route
  split
  iterate 4 exact touches_intake s f intake
  iterate 2 exact touches_ite (fun _ => touches_owe s _) (fun _ => .refl s)
  exact .refl s

theorem touches_receive (s : State) (f : Frame) (intake : m.intake = true) : Touches m s (s.receive f) := by
  have line (t : State) : Touches m t t.acknowledge := touches_setLine t rfl rfl
  have silence (t : State) : Touches m t t.endSilence := touches_setLine t rfl rfl
  have taken := (((touches_endFrame s .slot).trans (line _)).trans (touches_credit _)).trans (silence _)
  exact taken.trans (touches_ite (fun _ => touches_raise _ _) (fun _ => touches_route _ f _ intake))

theorem touches_receiveError (s : State) (stops : m.Stops) : Touches m s s.receiveError := by
  unfold State.receiveError
  split
  · exact (touches_endFrame s _).trans (touches_countError _ stops)
  · exact (touches_endFrame s _).trans (touches_countError _ stops)
  · exact (touches_endFrame s _).trans (touches_setErrorOwed _ true)
  · exact (touches_endFrame s _).trans (touches_countError _ stops)
  all_goals exact .refl s

/-! ## Line conditions -/

theorem touches_discardFrame (s : State) : Touches m s s.discardFrame := by
  unfold State.discardFrame; dsimp only
  have ended := touches_endFrame (m := m) s .outside
  split
  · exact ended
  · exact ended.trans (touches_loseContention _)
  all_goals exact ended.trans (touches_leaveLine _)

theorem motionHeld_iff (s : State) :
    s.motionHeld = true ↔ s.line.allstop = true ∨ s.line.estop = true ∨ 0 < s.safety.holdOff := by
  simp only [State.motionHeld, Bool.or_eq_true, decide_eq_true_eq, or_assoc]

/-- The causes of a hold may begin and end. -/
def Parts.Turns (m : Parts) : Prop := m.begins = true ∧ m.ends = true

theorem Parts.Turns.setLine (h : m.Turns) (s : State) {x : LineUnit} (allstop : m.allstop = false → x.allstop = s.line.allstop) :
    Touches m s (s.setLine x) :=
  touches_setLine_turning s allstop (fun b => by rw [h.1] at b; cases b) h.2

theorem Parts.Turns.setSafety (h : m.Turns) (s : State) {x : SafetyUnit}
    (holdOff : m.holdOff = false → x.holdOff = s.safety.holdOff) : Touches m s (s.setSafety x) :=
  touches_setHoldOff s holdOff (fun b => by rw [h.1] at b; cases b) h.2

/-- ALLSTOP is entered; where the parts hold no hold-off, none runs. -/
theorem touches_enterAllstop (s : State) (turns : m.Turns) (stops : m.Stops) (allstop : m.allstop = true)
    (none : m.holdOff = false → s.safety.holdOff = 0) : Touches m s s.enterAllstop := by
  have discarded := touches_discardFrame (m := m) s
  have entered (t : State) : Touches m t (t.setLine { t.line with allstop := true, errorOwed := false }) :=
    turns.setLine t fun a => by rw [allstop] at a; cases a
  have reported := (discarded.trans (entered _)).trans (touches_raise _ .allstopSeen)
  have stopped (t : State) (h : m.holdOff = false → t.safety.holdOff = s.safety.holdOff) :
      Touches m t (t.setSafety { t.safety with holdOff := 0 }) :=
    turns.setSafety t fun off => by rw [h off]; exact (none off).symm
  exact (((reported.trans (stopped _ reported.holdOff)).trans (touches_disown _ .holdOffEnd)).trans
    (touches_lineStop _ stops)).trans (touches_ite (fun _ => touches_beginOverride _) (fun _ => .refl _))

/-- A hold-off that counts down begins no hold cause (R170). -/
theorem touches_holdOffStep (s : State) (holdOff : m.holdOff = true) (ends : m.ends = true) :
    Touches m s s.holdOffStep := by
  refine touches_setHoldOff s (fun off => by rw [holdOff] at off; cases off) (fun _ => ?_) ends
  rw [motionHeld_iff, motionHeld_iff]
  exact Or.imp_right (Or.imp_right fun left => Nat.lt_of_lt_of_le left (Nat.sub_le _ _))

theorem touches_endHoldOff (s : State) (turns : m.Turns) (stops : m.Stops) (allstop : m.allstop = true)
    (holdOff : m.holdOff = true) : Touches m s s.endHoldOff :=
  ((touches_disown s _).trans (touches_holdOffStep _ holdOff turns.2)).trans
    (touches_ite (fun _ => touches_enterAllstop _ turns stops allstop fun off => by rw [holdOff] at off; cases off)
      (fun _ => .refl _))

theorem touches_exitAllstop (s : State) (turns : m.Turns) (allstop : m.allstop = true) (holdOff : m.holdOff = true) :
    Touches m s s.exitAllstop := by
  have left : Touches m s (s.setLine { s.line with allstop := false, dominantCount := 0 }) :=
    turns.setLine s fun a => by rw [allstop] at a; cases a
  have loaded (t : State) : Touches m t (t.setSafety { t.safety with holdOff := t.cfg.trigger.allstop.holdOff }) :=
    turns.setSafety t fun off => by rw [holdOff] at off; cases off
  have lights (t : State) : Touches m t (t.setLight { t.light with override := false }) :=
    touches_setLight_same t rfl rfl
  exact (left.trans (loaded _)).trans (lights _)

theorem touches_cutFrame (s : State) : Touches m s s.cutFrame := by
  unfold State.cutFrame
  split
  · exact (touches_endFrame s _).trans (touches_leaveLine _)
  · exact (touches_endFrame s _).trans (touches_leaveLine _)
  · exact touches_leaveLine s
  · exact touches_endFrame s _
  all_goals exact .refl s

theorem touches_sampleAsserted (s : State) (pins : m.pins = false → s.pins.estop = true) :
    Touches m s s.sampleAsserted := by
  have read : Touches m s (s.setPins { s.pins with estop := true }) :=
    touches_setPins s fun p => by rw [← pins p]
  refine read.trans ?_
  exact touches_setLine _ rfl rfl

/-- The emergency stop is asserted; where the parts hold no pins, its input reads so already. -/
theorem touches_assertEstop (s : State) (turns : m.Turns) (stops : m.Stops) (pins : m.pins = false → s.pins.estop = true) :
    Touches m s s.assertEstop := by
  refine (touches_sampleAsserted s pins).trans (touches_ite (fun _ => .refl _) fun _ => ?_)
  refine (touches_cutFrame _).trans (.trans ?_ (touches_lineStop _ stops))
  exact turns.setLine _ fun _ => rfl

/-- A release begins no hold cause (R19). -/
theorem touches_releaseEstop (s : State) (ends : m.ends = true) : Touches m s s.releaseEstop := by
  refine touches_ite (fun _ => touches_setLine_turning s (fun _ => rfl) (fun _ => ?_) ends) (fun _ => .refl s)
  rw [motionHeld_iff, motionHeld_iff]
  exact Or.imp_right (Or.imp_left fun estop => by cases estop)

theorem touches_silenceStep (s : State) (stops : m.Stops) : Touches m s s.silenceStep := by
  unfold State.silenceStep; dsimp only
  refine touches_ite (fun _ => .refl s) fun _ => touches_ite (fun _ => touches_setLine s rfl rfl) fun _ => ?_
  refine .trans (.trans ?_ (touches_raise _ _)) (touches_applyRow _ _ _ stops)
  exact touches_setLine s rfl rfl

/-! ## Pulses and switches -/

theorem Parts.allows_reversing (m : Parts) {a : AxisState} (moves : a.moves = true) : m.Allows a .reversing where
  rank := fun _ _ => by cases a <;> simp_all [Parts.rank, AxisState.moves]
  powered := fun _ _ => by cases a <;> simp_all [AxisState.motorPowered, AxisState.moves]

theorem powered_of_moves {st : AxisState} (h : st.moves = true) : st.motorPowered = true := by
  cases st <;> simp_all [AxisState.moves, AxisState.motorPowered]

theorem touches_backOff (s : State) (ax : Axis) (moves : (s.axis ax).state.moves = true) : Touches m s (s.backOff ax) := by
  have released : Touches m s (s.releaseSlot ax) :=
    .of_spares (trails_releaseSlot s ax).toSpares (drives_releaseSlot s ax)
  have turned (t : State) (d : Option Direction) (duty n : Nat) : Touches m t (t.setAxis ax { t.axis ax with
      lease := none, direction := d, duty := duty, backOff := n, stallCount := 0, reason := .obstruction }) :=
    touches_setAxis_same t ax rfl rfl rfl rfl
  unfold State.backOff; dsimp only
  refine (released.trans (turned _ _ _ _)).trans (.of_spares (trails_enter _ ax .reversing ?_ fun _ => .inl ?_).toSpares
    (drives_enter _ ax ?_)) <;> rw [State.setAxis_axis, releaseSlot_axis_self]
  · exact not_disabled_of_moves moves
  · exact m.allows_reversing moves

theorem touches_obstruct (s : State) (ax : Axis) (stops : m.Stops) : Touches m s (s.obstruct ax) := by
  have raised := touches_raise (m := m) s (.obstruction ax)
  have moving (moves : (s.axis ax).state.moves = true) : Touches m s
      (if backsOff (s.axisCfg ax) then (s.raise (.obstruction ax)).backOff ax
        else (s.raise (.obstruction ax)).restFor ax .obstruction) :=
    touches_ite (fun _ => raised.trans (touches_backOff _ ax (by rw [raise_axis]; exact moves)))
      (fun _ => raised.trans (touches_restFor _ ax _ stops (by rw [raise_axis]; exact powered_of_moves moves)))
  unfold State.obstruct
  split
  · next st => exact moving (by rw [st]; rfl)
  · next st => exact moving (by rw [st]; rfl)
  · next st => exact raised.trans (touches_restFor _ ax _ stops (by rw [raise_axis, st]; rfl))
  · next st =>
    refine raised.trans (touches_faultFor _ ax _ ?_ ?_) <;> rw [raise_axis, st]
    · exact stops.faults rfl
    · decide
  all_goals exact .refl s

theorem touches_creepSwitch (s : State) (ax : Axis) : Touches m s (s.creepSwitch ax) :=
  touches_ite (fun _ => touches_setAxis_same s ax rfl rfl rfl rfl) (fun _ => .refl s)

theorem touches_countBackOff (s : State) (ax : Axis) (stops : m.Stops)
    (powered : (s.axis ax).state.motorPowered = true) : Touches m s (s.countBackOff ax) := by
  have counted : Touches m s (s.setAxis ax { s.axis ax with backOff := (s.axis ax).backOff - 1 }) :=
    touches_setAxis_same s ax rfl rfl rfl rfl
  refine counted.trans (touches_ite (fun _ => touches_rest _ ax ?_ ?_) (fun _ => .refl _)) <;> rw [State.setAxis_axis]
  · exact stops.restsFrom powered
  · exact not_disabled_of_powered powered

theorem touches_afterPulse (s : State) (ax : Axis) (high : Bool) (stops : m.Stops) :
    Touches m s (s.afterPulse ax high) := by
  have moving (powered : (s.axis ax).state.motorPowered = true) : Touches m s
      (if softLimit (s.axisCfg ax) (s.axis ax) then s.restFor ax .endReached
        else if (s.axis ax).onTarget then s.restFor ax .target else s.creepSwitch ax) :=
    touches_ite (fun _ => touches_restFor s ax _ stops powered) fun _ =>
      touches_ite (fun _ => touches_restFor s ax _ stops powered) (fun _ => touches_creepSwitch s ax)
  unfold State.afterPulse; dsimp only
  split
  · next st => exact moving (by rw [st]; rfl)
  · next st => exact moving (by rw [st]; rfl)
  · next st => exact touches_ite (fun _ => touches_restFor s ax _ stops (by rw [st]; rfl)) (fun _ => .refl s)
  · next st => exact touches_ite (fun _ => touches_countBackOff s ax stops (by rw [st]; rfl)) (fun _ => .refl s)
  all_goals exact .refl s

/-- A write that places an axis. -/
theorem touches_setAxis_placed (s : State) (ax : Axis) {r : AxisRecord} (places : m.places = true)
    (state : r.state = (s.axis ax).state) (token : r.token = (s.axis ax).token) : Touches m s (s.setAxis ax r) :=
  touches_setAxis s ax (drives_setAxis s ax (fun p => by rw [places] at p; cases p) (fun _ => .of_same state token)
    fun _ => by rw [state]; exact id)

theorem touches_pulse (s : State) (ax : Axis) (high : Bool) (stops : m.Stops) (places : m.places = true) :
    Touches m s (s.pulse ax high) := by
  refine .trans ?_ (touches_afterPulse _ ax high stops)
  exact touches_setAxis_placed s ax places rfl rfl

theorem atSwitch_token (r : AxisRecord) (cfg : AxisConfig) (d : Direction) : (r.atSwitch cfg d).token = r.token := by
  cases d <;> rfl

theorem touches_conflict (s : State) (ax : Axis) (course : m.course = .switching)
    (formed : (s.axis ax).state ≠ .disabled) : Touches m s (s.conflict ax) := by
  refine (touches_raise s _).trans (touches_ite (fun _ => .refl _) fun _ => touches_faultFor _ ax _ ?_ ?_) <;>
    rw [raise_axis]
  · exact .inr (.inr ⟨formed, course⟩)
  · exact formed

theorem touches_afterSwitch (s : State) (ax : Axis) (which : Direction) (stops : m.Stops) :
    Touches m s (s.afterSwitch ax which) := by
  have arrives (powered : (s.axis ax).state.motorPowered = true) : Touches m s
      (if (s.axis ax).onTarget then s.restFor ax .target else s.creepSwitch ax) :=
    touches_ite (fun _ => touches_restFor s ax _ stops powered) (fun _ => touches_creepSwitch s ax)
  unfold State.afterSwitch; dsimp only
  refine touches_ite (fun _ => ?_) (fun _ => ?_)
  · split
    · next st => exact touches_restFor s ax _ stops (by rw [st]; rfl)
    · next st => exact touches_restFor s ax _ stops (by rw [st]; rfl)
    · next st => exact touches_restFor s ax _ stops (by rw [st]; rfl)
    · next st => exact touches_rest s ax (stops.restsFrom (by rw [st]; rfl)) (by rw [st]; decide)
    all_goals exact .refl s
  · split
    · next st => exact arrives (by rw [st]; rfl)
    · next st => exact arrives (by rw [st]; rfl)
    all_goals exact .refl s

theorem touches_activate (s : State) (ax : Axis) (which : Direction) (places : m.places = true)
    (course : m.course = .switching) (formed : (s.axis ax).state ≠ .disabled) : Touches m s (s.activate ax which) := by
  have stops : m.Stops := .inr (by rw [course]; decide)
  have placed : Touches m s (s.setAxis ax ((s.axis ax).atSwitch (s.axisCfg ax) which)) :=
    touches_setAxis_placed s ax places (atSwitch_state _ _ _) (atSwitch_token _ _ _)
  exact placed.trans (touches_ite
    (fun _ => touches_conflict _ ax course (by rw [State.setAxis_axis, atSwitch_state]; exact formed))
    (fun _ => touches_afterSwitch _ ax which stops))

/-! ## A modulator bit -/

theorem touches_countObstruction (s : State) (c : Fin 4) (ax : Axis) (stops : m.Stops) :
    Touches m s (s.countObstruction c ax) := by
  have counted (n : Nat) : Touches m s (s.setChannel c { s.sense[c] with obstruction := n }) :=
    touches_setChannel_same s c (.refl _) rfl
  exact touches_ite (fun _ => counted _) fun _ => touches_ite (fun _ => counted _)
    (fun _ => (counted 0).trans (touches_obstruct _ ax stops))

theorem touches_compareForce (s : State) (c : Fin 4) (stops : m.Stops) : Touches m s (s.compareForce c) := by
  unfold State.compareForce; split
  · refine touches_ite (fun _ => .trans ?_ (touches_countObstruction _ c _ stops))
      (fun _ => touches_setChannel_same s c (.refl _) rfl)
    exact touches_setAxis_same s _ rfl rfl rfl rfl
  · exact .refl s

/-- The command may take modulator bits. -/
structure Parts.Senses (m : Parts) : Prop where
  sense : m.sense = true
  baseline : m.baseline = true
  stops : m.Stops

/-- A channel takes registers in which, while it runs, the baseline moves only at rest (R122). -/
theorem Parts.Senses.setChannel (h : m.Senses) (s : State) (c : Fin 4) {ch : SenseChannel}
    (tracks : s.sense[c].state = .running → ch.state = .running ∧
      ∀ ax, s.boundAxis c = some ax → (s.axis ax).state.motorPowered = true → ch.baseline = s.sense[c].baseline) :
    Touches m s (s.setChannel c ch) :=
  touches_setChannel s c (fun p => by rw [h.sense] at p; cases p) (fun p => by rw [h.baseline] at p; cases p) fun _ => tracks

/-- While its axis is motor-powered a sample of a channel in RUNNING leaves the baseline (R121, R122). -/
theorem sampled_baseline {ch : SenseChannel} (running : ch.state = .running) (cfg : SenseConfig) (y : Int) :
    (ch.sampled cfg true y).baseline = ch.baseline := by
  simp [SenseChannel.sampled, SenseChannel.newBaseline, running]

theorem touches_decimate (s : State) (c : Fin 4) (senses : m.Senses) : Touches m s (s.decimate c) := by
  unfold State.decimate; dsimp only
  refine touches_ite (fun settling => ?_) fun _ => ?_
  · exact senses.setChannel s c fun running => by rw [settling.1] at running; cases running
  · refine ((senses.setChannel s c fun running => ⟨rfl, fun ax bound powered => ?_⟩).trans
      (touches_compareForce _ c senses.stops)).trans (touches_syncContent _)
    have frozen : s.frozen c = true := by simp [State.frozen, bound, powered]
    rw [frozen, sampled_baseline (ch := s.sense[c].comb) running]; rfl

theorem touches_takeBit (s : State) (c : Fin 4) (b : Bool) (senses : m.Senses) : Touches m s (s.takeBit c b) := by
  unfold State.takeBit; dsimp only
  have taken : Touches m s (s.setChannel c (s.sense[c].taken b)) :=
    senses.setChannel s c fun running => ⟨running, fun _ _ _ => rfl⟩
  exact (taken.trans (touches_ite (fun _ => .refl _) (fun _ => touches_decimate _ c senses))).trans (touches_oweIf _ _ _)

end
end Sys2Proof.Machine
end

section
/-! PROOFS. What carrying out an owed event, the end of a hold, a boundary, a request and the end of LOADING may change. -/

namespace Sys2Proof.Machine

section
variable {m : Parts}

/-! ## Carrying out what is owed -/

/-- The parts that an owed event may reach, whichever it is. -/
structure Parts.Carries (m : Parts) : Prop where
  time : m.time = true
  arrivals : m.arrivals = true
  sense : m.sense = true
  baseline : m.baseline = true
  holdOff : m.holdOff = true
  ends : m.ends = true
  tokens : m.tokens = true
  tracks : m.tracks = true

theorem Parts.Carries.free (h : m.Carries) : m.Free := ⟨h.tokens, h.tracks⟩
theorem Parts.Carries.stops (h : m.Carries) : m.Stops := .inl h.tokens
theorem Parts.Carries.senses (h : m.Carries) : m.Senses := ⟨h.sense, h.baseline, h.stops⟩

theorem touches_carryOut (s : State) (o : Owed) (h : m.Carries) : Touches m s (s.carryOut o) := by
  have noted := touches_disown (m := m) s o
  cases o with
  | slotStep k => exact touches_takeSteps s h.stops
  | silenceTimerExpiry => exact noted.trans (touches_silenceTimerStep _)
  | beaconOffer => exact noted.trans (touches_offerBeacon _)
  | referenceLost => exact noted.trans (touches_referenceStep _)
  | scheduleDueRun => exact noted.trans (touches_runDue _ h.free)
  | announceExpiry => exact noted.trans (touches_announceCountStep _)
  | freshnessLapse a => exact noted.trans (touches_freshnessStep _ a h.stops)
  | runStep => exact noted.trans (touches_runStepNow _)
  | keyEstablish k => exact noted.trans (touches_keyStep _ k)
  | keyPress k => exact noted.trans (touches_keyStep _ k)
  | keyRelease k => exact noted.trans (touches_keyStep _ k)
  | leaseEnd ax => exact noted.trans (touches_leaseStep _ ax h.stops)
  | stall ax => exact noted.trans (touches_stallStep _ ax h.stops)
  | blankingEnd ax => exact noted.trans (touches_blankingStep _ ax)
  | holdOffEnd => exact noted.trans (touches_holdOffStep _ h.holdOff h.ends)
  | silentEntry => exact noted.trans (touches_silenceStep _ h.stops)
  | estopRelease => exact noted.trans (touches_releaseEstop _ h.ends)
  | beacon a pb phib latch => exact noted.trans (touches_takeBeacon _ a pb phib latch h.time h.arrivals h.free)
  | announce a p => exact noted.trans (touches_takeAnnounce _ a p h.stops)
  | obstruction ax c b => exact noted.trans (touches_takeBit _ c b h.senses)
  | clip c => exact noted.trans (touches_raise _ _)

theorem touches_carryOwed (s : State) (o : Owed) (h : m.Carries) : Touches m s (s.carryOwed o) :=
  touches_ite (fun _ => (touches_carryOut s o h).trans (h.free.settled _)) (fun _ => .refl s)

theorem touches_carryTogether (s : State) (events : List Owed) (h : m.Carries) : Touches m s (s.carryTogether events) :=
  ((touches_setWithin s true).trans (touches_foldl (fun s o => touches_carryOwed s o h) events _)).trans
    (touches_setWithin _ false)

/-! ## The end of a hold -/

/-- The parts of a command that ends a hold cause, and may take what holds an axis again within the instant (R181). -/
structure Parts.Releases (m : Parts) : Prop where
  time : m.time = true
  arrivals : m.arrivals = true
  sense : m.sense = true
  baseline : m.baseline = true
  allstop : m.allstop = true
  begins : m.begins = true
  ends : m.ends = true
  tracks : m.tracks = true
  course : m.course ≠ .starting

theorem Parts.Releases.turns (h : m.Releases) : m.Turns := ⟨h.begins, h.ends⟩
theorem Parts.Releases.stops (h : m.Releases) : m.Stops := .inr h.course

/-- What carrying out owed events touches, where nothing but tokens and the hold-off is held tighter. -/
theorem Touches.tighten {s t : State} (h : Touches { m with tokens := true, holdOff := true, begins := false } s t)
    (tokens : m.tokens = false → (∀ ax, (s.axisCfg ax).holdMask = 0) → ∀ ax, Climb m.rank (s.axis ax) (t.axis ax))
    (holdOff : t.safety.holdOff = s.safety.holdOff) : Touches m s t where
  pending := h.pending
  inReset := h.inReset
  config := h.config
  pins := h.pins
  time := h.time
  arrivals := h.arrivals
  scenes := h.scenes
  sense := h.sense
  baseline := h.baseline
  intake := h.intake
  allstop := h.allstop
  holdOff := fun _ => holdOff
  begins := fun _ => h.begins rfl
  ends := h.ends
  drives := fun p =>
    ⟨(h.drives p).cfg, (h.drives p).places, tokens, (h.drives p).powered⟩
  tracks := h.tracks

/-- An axis that something holds again is held by none of the causes now (R181). -/
theorem not_heldNow_of_heldAgain {s : State} {ax : Axis} (h : s.axisHeldAgain ax = true) : s.heldNow ax = false := by
  cases e : s.heldNow ax
  · rfl
  · rw [not_heldAgain_of_heldNow e] at h; cases h

theorem not_motionHeld_of_heldAgain {s : State} {ax : Axis} (h : s.axisHeldAgain ax = true) : s.motionHeld = false := by
  have free := not_heldNow_of_heldAgain h
  simp only [State.heldNow, State.causes, Causes.any, Bool.or_eq_false_iff] at free
  simp only [State.motionHeld, Bool.or_eq_false_iff]
  exact free.1

theorem holdOff_of_not_motionHeld {s : State} (h : s.motionHeld = false) : s.safety.holdOff = 0 := by
  have off : ¬ 0 < s.safety.holdOff := fun left => by
    rw [(motionHeld_iff s).2 (.inr (.inr left))] at h; cases h
  omega

/-- The parts that carrying out owed events reaches, and no more. -/
def Parts.carrying : Parts where
  course := .stopping
  held := false
  config := false
  pins := false
  time := true
  arrivals := true
  places := false
  scenes := false
  sense := true
  baseline := true
  intake := false
  allstop := false
  holdOff := true
  begins := false
  ends := true
  tokens := true
  tracks := true

theorem Parts.carrying_carries : Parts.carrying.Carries := ⟨rfl, rfl, rfl, rfl, rfl, rfl, rfl, rfl⟩

/-- Carrying out owed events begins no hold cause but an alarm's (R171). -/
theorem carryTogether_motionHeld {s : State} (h : s.motionHeld = false) (events : List Owed) :
    (s.carryTogether events).motionHeld = false := by
  have touched := touches_carryTogether s events Parts.carrying_carries
  exact Bool.eq_false_iff.2 fun held => by rw [touched.begins rfl held] at h; cases h

theorem carryTogether_cfg (s : State) (events : List Owed) : (s.carryTogether events).cfg = s.cfg := by
  have touched := touches_carryTogether s events Parts.carrying_carries
  exact (touched.config rfl).2.1

/-- Without hold masks nothing that is owed holds an axis again. -/
theorem holders_of_unmasked {s : State} (ax : Axis) (masks : (s.axisCfg ax).holdMask = 0) (h : s.motionHeld = false) :
    s.holders ax = none := by
  refine List.find?_eq_none.2 fun events _ => ?_
  rw [heldNow_of_unmasked (by rw [axisCfg_of_cfg (carryTogether_cfg s events)]; exact masks),
    carryTogether_motionHeld h]
  decide

/-- What holds an axis again without hold masks is ALLSTOP or an emergency stop. -/
theorem reached_or_shown {s : State} {ax : Axis} (again : s.axisHeldAgain ax = true)
    (masks : (s.axisCfg ax).holdMask = 0) : s.allstopReached = true ∨ s.estopShown = true := by
  have none := holders_of_unmasked ax masks (not_motionHeld_of_heldAgain again)
  simp only [State.axisHeldAgain, none, Bool.and_eq_true, Bool.or_eq_true] at again
  simpa using again.2

theorem touches_takeHolders (s : State) (ax : Axis) (h : m.Releases) : Touches m s (s.takeHolders ax) := by
  refine touches_ite (fun _ => .refl s) fun notAgain => ?_
  have again : s.axisHeldAgain ax = true := by simpa using notAgain
  have free := not_motionHeld_of_heldAgain again
  have off := holdOff_of_not_motionHeld free
  refine touches_ite (fun _ => touches_enterAllstop s h.turns h.stops h.allstop fun _ => off) fun reached => ?_
  refine touches_ite (fun shown => touches_assertEstop s h.turns h.stops fun _ => ?_) fun shown => ?_
  · simp only [State.estopShown, Bool.and_eq_true] at shown
    exact shown.1
  · refine Touches.tighten (touches_carryTogether s _ ⟨h.time, h.arrivals, h.sense, h.baseline, rfl, h.ends, rfl, h.tracks⟩)
      (fun _ masks => ?_) ?_
    · exact absurd (reached_or_shown again (masks ax)) (by simp [reached, shown])
    · rw [off]; exact holdOff_of_not_motionHeld (carryTogether_motionHeld free _)

theorem touches_oneInstant (s : State) (h : m.Releases) : Touches m s s.oneInstant :=
  touches_ite (fun _ => (touches_takeHolders s .A h).trans (touches_takeHolders _ .B h)) (fun _ => .refl s)

theorem touches_foresee (s : State) : Touches m s s.foresee := touches_setWithin s _

/-- Without hold masks what is taken for an axis is nothing, or a cause that holds both (R181). -/
theorem takeHolders_unmasked {s : State} (ax : Axis) (masks : (s.axisCfg ax).holdMask = 0) :
    s.takeHolders ax = s ∨ (s.takeHolders ax).motionHeld = true := by
  unfold State.takeHolders
  split
  · exact .inl rfl
  · next notAgain =>
    right
    split
    · rw [motionHeld_iff, (allstopEntered s).line]; exact .inl rfl
    · next reached =>
      have shown := (reached_or_shown (by simpa using notAgain) masks).resolve_left reached
      rw [if_pos shown, motionHeld_iff]
      exact .inr (.inl (assertEstop_line s).1)

/-- Without hold masks one instant takes nothing more, or ends in a hold. -/
theorem oneInstant_unmasked {s : State} (masks : ∀ ax, (s.axisCfg ax).holdMask = 0) :
    s.oneInstant = s ∨ s.safety.within = true ∧ s.oneInstant.motionHeld = true := by
  unfold State.oneInstant
  split
  · next within =>
    rcases takeHolders_unmasked .A (masks .A) with none | held
    · rw [none]
      exact (takeHolders_unmasked .B (masks .B)).imp_right fun held => ⟨within, held⟩
    · have holds : (s.takeHolders .A).heldNow .B = true := by
        simp only [State.heldNow, State.causes, Causes.any, Bool.or_eq_true]
        simp only [State.motionHeld, Bool.or_eq_true] at held
        exact .inl held
      have done : (s.takeHolders .A).takeHolders .B = s.takeHolders .A := by
        rw [State.takeHolders, not_heldAgain_of_heldNow holds]; rfl
      exact .inr ⟨within, by rw [done]; exact held⟩
  · exact .inl rfl

/-- The holds that a command settles before the end of its instant are those it leaves (R181). -/
theorem Parts.Follows.of_oneInstant {s : State} (held : m.held = s.oneInstant.motionHeld) : m.Follows s := fun masks => by
  rw [held]
  rcases oneInstant_unmasked masks with same | ⟨within, holds⟩
  · exact .inl (congrArg _ same)
  · exact .inr ⟨within, holds⟩

/-! ## The boundary -/

theorem touches_settleOwed (s : State) (h : m.Carries) (r : m.Releases) : Touches m s s.settleOwed :=
  touches_ite (fun _ => .refl s) fun _ =>
    (((((touches_carryTogether s _ h).trans (touches_setOwed _ [])).trans (touches_foresee _)).trans
      (touches_oneInstant _ r)).trans (touches_setWithin _ false)).trans (h.free.settled _)

theorem touches_stepOrOwe (s : State) (ends : Bool) (o : Owed) {step : State → State}
    (h : ∀ s, Touches m s (step s)) : Touches m s (s.stepOrOwe ends o step) :=
  touches_ite (fun _ => touches_owe s o) (fun _ => h s)

theorem touches_countRelease (s : State) (asserted : Bool) (pins : m.pins = true) :
    Touches m s (s.countRelease asserted) := by
  have read : Touches m s (s.setPins { s.pins with estop := asserted }) :=
    touches_setPins s fun p => by rw [pins] at p; cases p
  have sampled (t : State) : Touches m t (t.setLine { t.line with estopSeen := false }) := touches_setLine t rfl rfl
  exact (read.trans (sampled _)).trans (touches_ite (fun _ => touches_setLine _ rfl rfl) fun _ =>
    touches_ite (fun _ => touches_owe _ _) (fun _ => touches_setLine _ rfl rfl))

theorem touches_countAges (s : State) : Touches m s s.countAges := (touches_setPeer s _).trans (touches_setOwed _ _)

theorem touches_countKeys (s : State) (keys : BitVec 8) (pins : m.pins = true) : Touches m s (s.countKeys keys) := by
  have read : Touches m s (s.setPins { s.pins with keys := keys }) :=
    touches_setPins s fun p => by rw [pins] at p; cases p
  exact read.trans (touches_ite (fun _ => .refl _) (fun _ => touches_foldl
    (fun s k => touches_stepOrOwe s _ _ fun s => touches_keyStep s k) _ _))

theorem touches_countAxis (s : State) (ax : Axis) (stops : m.Stops) : Touches m s (s.countAxis ax) :=
  ((touches_stepOrOwe s _ _ fun s => touches_leaseStep s ax stops).trans
    (touches_stepOrOwe _ _ _ fun s => touches_stallStep s ax stops)).trans
    (touches_stepOrOwe _ _ _ fun s => touches_blankingStep s ax)

theorem touches_countPeriod (s : State) (keys : BitVec 8) (asserted : Bool) (h : m.Carries) (pins : m.pins = true) :
    Touches m s (s.countPeriod keys asserted) := by
  have clock (t : State) : Touches m t (t.countSilenceTimer.countReference.countSilence) :=
    ((touches_stepOrOwe t _ _ touches_silenceTimerStep).trans (touches_stepOrOwe _ _ _ touches_referenceStep)).trans
      (touches_stepOrOwe _ _ _ fun s => touches_silenceStep s h.stops)
  have line := ((clock s).trans (touches_countRelease _ asserted pins)).trans (touches_countAges _)
  have run (t : State) : Touches m t t.countRun := touches_stepOrOwe t _ _ touches_runStepNow
  have axes := (((line.trans (touches_countKeys _ keys pins)).trans (run _)).trans
    (touches_countAxis _ .A h.stops)).trans (touches_countAxis _ .B h.stops)
  have off (t : State) : Touches m t t.countHoldOff :=
    touches_stepOrOwe t _ _ fun s => touches_holdOffStep s h.holdOff h.ends
  have due (t : State) : Touches m t t.countSchedule.countBeacon :=
    (touches_oweIf t _ _).trans (touches_oweIf _ _ _)
  have announce (t : State) : Touches m t t.countAnnounce := touches_stepOrOwe t _ _ touches_announceCountStep
  exact ((axes.trans (off _)).trans (due _)).trans (announce _)

theorem touches_stepPool (s : State) (found : BoundaryFound) (h : m.Carries) : Touches m s (s.stepPool found) := by
  have early := (touches_setOwed s _).trans (touches_foldl (fun s e => touches_carryOwed s (owedBy e) h) found.early
    (s.oweSteps found.given))
  exact early.trans (touches_ite (fun _ => touches_takeSteps _ h.stops) (fun _ => .refl _))

/-! ## The requests -/

theorem touches_endDecode (s : State) (r : Request) : Touches m s (s.endDecode r) := touches_setCmd_same s rfl

theorem touches_reply (s : State) (r : Request) (c : Code) : Touches m s (s.reply r c) := by
  unfold State.reply; split
  · exact touches_offer s _
  · exact .refl s

/-- A request's answer, where the holds that it settles are those that the command leaves. -/
theorem touches_respond {α : Type} {r : Request} {parsed : Except Code α} {run : α → State → Code × State} {s : State}
    (h : ∀ x, parsed = .ok x → Touches m s (run x s).2)
    (f : m.tokens = false → ∀ x, parsed = .ok x → m.Follows (run x s).2) : Touches m s (respond r parsed run s) := by
  unfold respond; split
  · exact touches_reply s r _
  · next x => exact ((h x rfl).trans (touches_settled _ fun t => f t x rfl)).trans (touches_reply _ r _)

/-- A request that neither begins nor ends a hold cause. -/
theorem touches_respond_plain {α : Type} {r : Request} {parsed : Except Code α} {run : α → State → Code × State}
    {s : State} (begins : m.begins = false) (ends : m.ends = false) (held : m.held = s.motionHeld)
    (h : ∀ x, parsed = .ok x → Touches m s (run x s).2) : Touches m s (respond r parsed run s) :=
  touches_respond h fun _ x e _ => .inl (held.trans ((h x e).motionHeld begins ends).symm)

theorem touches_stationOnly {r : Request} {answered s : State} (h : Touches m s answered) :
    Touches m s (stationOnly r answered s) := touches_ite (fun _ => h) (fun _ => .refl s)

/-- TARE moves the baseline of a channel only while its axis is not motor-powered (R123). -/
theorem touches_tareChannel (s : State) (c : Fin 4) (baseline : m.baseline = true) :
    Touches m s (s.tareChannel c).2 := by
  unfold State.tareChannel; dsimp only; split
  · exact .refl s
  · split
    · exact .refl s
    · next frozen =>
      refine touches_setChannel s c (fun _ => .refl _) (fun p => by rw [baseline] at p; cases p) fun _ running =>
        ⟨running, fun ax bound powered => absurd ?_ frozen⟩
      simp [State.frozen, bound, powered]

theorem touches_lighting {s : State} {effect : Code × State} (h : Touches m s effect.2) :
    Touches m s (s.lighting effect).2 := by
  unfold State.lighting; split
  · exact .refl s
  · exact h

theorem touches_groupRecall (s : State) (scene group : Nat) : Touches m s (s.groupRecall scene group) :=
  (touches_offer s _).trans (touches_ite (fun _ => touches_recallScene _ _ _ _) (fun _ => .refl _))

theorem touches_enableChannels (s : State) (addressing : Addressing) (set : BitVec 24) (on : Bool) :
    Touches m s (s.enableChannels addressing set on) :=
  touches_setLight s (fun _ => rfl) fun i => by
    simp only [Fin.getElem_fin, Vector.getElem_ofFn]
    split <;> rfl

theorem touches_setRegion (s : State) (region : RunRegion) : Touches m s (s.setRegion region).2 := by
  unfold State.setRegion; split
  · exact .refl s
  · exact touches_setLight_same s rfl rfl

theorem touches_setSceneTime (s : State) (scene : Fin 8) (fade : Nat) (scenes : m.scenes = true) :
    Touches m s (s.setSceneTime scene fade).2 := by
  unfold State.setSceneTime; split
  · exact .refl s
  · exact touches_setLight s (fun p => by rw [scenes] at p; cases p) fun _ => rfl

theorem touches_openWindow (s : State) (owner : Nat) (x : Fin 8 × Nat × Nat) : Touches m s (s.openWindow owner x).2 := by
  unfold State.openWindow; split
  · exact .refl s
  · exact touches_setCmd_same s rfl

theorem touches_writeLevels (s : State) (source : Source) (p : List Byte) (scenes : m.scenes = true) :
    Touches m s (s.writeLevels source p).2 := by
  unfold State.writeLevels; split
  · exact .refl s
  · split
    · exact .refl s
    · split
      · exact .refl s
      · next w _ _ =>
        obtain ⟨w', scene⟩ := (levelValues p).foldl writeValue (w, s.light.scenes[w.scene])
        refine .trans (t := s.setCmd { s.cmd with window := some w' }) (touches_setCmd_same s rfl) ?_
        exact touches_setLight _ (fun p => by rw [scenes] at p; cases p) fun _ => rfl

theorem touches_runJog (s : State) (source : Source) (ax : Axis) (d : Direction) (starts : m.Starts) :
    Touches m s (s.runJog source ax d).2 := by
  unfold State.runJog; dsimp only; split
  · exact touches_setAxis_same s ax rfl rfl rfl rfl
  · split
    case h_8 st =>
      split
      · exact touches_setAxis_same s ax rfl rfl rfl rfl
      · split
        · exact touches_start s ax _ _ _ _ starts st
        · exact .refl s
    all_goals exact .refl s

theorem touches_jog (s : State) (source : Source) (x : Axis × Direction × Option Byte) (starts : m.Starts) :
    Touches m s (s.jog source x).2 := by
  unfold State.jog; split
  · exact .refl s
  · exact touches_runJog s source _ _ starts

theorem touches_releaseJog (s : State) (a d : Byte) (stops : m.Stops) : Touches m s (s.releaseJog a d) := by
  unfold State.releaseJog; split
  · exact touches_ite (fun _ => touches_stopAxis s _ stops) (fun _ => .refl s)
  · exact .refl s

/-- From FAULT an axis may come to rest by a command that no switch makes. -/
theorem Parts.restsFrom_fault (course : m.course = .stopping) : m.RestsFrom .fault := fun b rests =>
  { rank := fun _ _ => by cases b <;> simp_all [Parts.rank, AxisState.rests] <;> omega
    powered := fun _ p => by cases b <;> simp_all [AxisState.rests, AxisState.motorPowered] }

theorem touches_clearAxis (s : State) (x : Axis × Option Byte) (course : m.course = .stopping) :
    Touches m s (s.clearAxis x).2 := by
  unfold State.clearAxis; split
  · exact .refl s
  · split
    · exact .refl s
    · next notFault =>
      have fault := not_not.1 notFault
      split
      · exact .refl s
      · exact touches_rest s x.1 (by rw [fault]; exact Parts.restsFrom_fault course) (by rw [fault]; decide)

theorem touches_setReference (s : State) (x : Axis × Nat × Option Byte) (places : m.places = true) :
    Touches m s (s.setReference x).2 := by
  unfold State.setReference; dsimp only; split
  · exact .refl s
  · split
    case h_2 => exact touches_setAxis_placed s x.1 places rfl rfl
    all_goals exact .refl s

theorem touches_answerRead (r : Request) (selector parts : Nat) (content : Nat → Byte → Except Code (List Byte))
    (s : State) : Touches m s (answerRead r selector parts content s) := by
  unfold answerRead; split
  · exact touches_reply s r _
  · split
    · exact touches_reply s r _
    · exact touches_offer s _
    · exact .refl s

theorem touches_takeRequest (s : State) (intake : m.intake = true) : Touches m s s.takeRequest := by
  have taken (x : CommandUnit) : Touches m s (s.setCmd x) := touches_setCmd s fun p => by rw [intake] at p; cases p
  unfold State.takeRequest; split
  · split
    · exact taken _
    · exact .refl s
  · split
    · exact taken _
    · exact .refl s

theorem touches_clearAndSetAgain (s : State) (set : BitVec 23) : Touches m s (s.clearAndSetAgain set) :=
  .trans (t := s.clearAlarms set) (touches_setSafety s rfl) (touches_setAlarms _ _)

theorem touches_alarmClear (s : State) (x : BitVec 23 × Option Byte) : Touches m s (s.alarmClear x).2 := by
  unfold State.alarmClear; split
  · exact .refl s
  · exact (touches_clearAndSetAgain s _).trans (touches_foresee _)

theorem touches_restartAxis (s : State) (ax : Axis) (course : m.course = .stopping) : Touches m s (s.restartAxis ax) := by
  have stops : m.Stops := .inr (by rw [course]; decide)
  unfold State.restartAxis
  split
  iterate 4 next st => exact touches_restFor s ax _ stops (by rw [st]; rfl)
  · next st =>
    exact touches_ite (fun _ => .refl s)
      (fun _ => touches_rest s ax (by rw [st]; exact Parts.restsFrom_fault course) (by rw [st]; decide))
  all_goals exact .refl s

theorem touches_restartLights (s : State) : Touches m s s.restartLights := by
  have lights : Touches m s (s.setLight { s.light with
      channels := Vector.ofFn fun i => s.light.channels[i].completeAny }) :=
    touches_setLight s (fun _ => rfl) fun i => by
      simp only [Fin.getElem_fin, Vector.getElem_ofFn, Channel.completeAny]
      split <;> rfl
  have axes (t : State) : Touches m t (t.setMotion
      { a := { t.motion.a with slot := none }, b := { t.motion.b with slot := none } }) :=
    .of_drives {
      cfg := rfl
      places := fun _ ax => by cases ax <;> exact ⟨rfl, rfl⟩
      tokens := fun _ _ ax => by cases ax <;> exact .of_same rfl rfl
      powered := fun _ ax => by cases ax <;> exact id }
  exact ((lights.trans (touches_setPool _ _)).trans (axes _)).trans (touches_stopRun _)

theorem touches_softRestart (s : State) (intake : m.intake = true) (course : m.course = .stopping) :
    Touches m s s.softRestart := by
  have line : Touches m s s.restartLine := touches_setLine s rfl rfl
  have cmd (t : State) : Touches m t t.restartCmd := touches_setCmd t fun p => by rw [intake] at p; cases p
  have emptied (t : State) : Touches m t (t.setTime { t.time with schedule := [] }) := touches_setTime_same t rfl rfl rfl
  have blocks := ((line.trans (cmd _)).trans (emptied _)).trans (touches_restartLights _)
  exact (((blocks.trans (touches_clearAndSetAgain _ _)).trans (touches_restartAxis _ .A course)).trans
    (touches_restartAxis _ .B course)).trans (touches_announceRequest _)

/-! ## The end of LOADING -/

/-- The parts that the end of LOADING forms. -/
structure Parts.Forms (m : Parts) : Prop where
  config : m.config = true
  holdOff : m.holdOff = true
  begins : m.begins = true
  ends : m.ends = true

/-- Where the configuration is formed, the axes may be formed too. -/
theorem Touches.of_formed {s : State} {x : MotionUnit} (config : m.config = true) : Touches m s (s.setMotion x) :=
  { Touches.refl s with
    drives := fun p => by rw [config] at p; cases p
    tracks := fun p => by rw [config] at p; cases p }

theorem touches_formAxis (s : State) (ax : Axis) (config : m.config = true) : Touches m s (s.formAxis ax) := by
  rw [formAxis_eq]
  cases ax <;> exact .of_formed config

theorem touches_raiseIf (s : State) (c : Bool) (a : Alarm) : Touches m s (s.raiseIf c a) :=
  touches_ite (fun _ => touches_raise s a) (fun _ => .refl s)

theorem touches_startSafety (s : State) (formed : BitVec 23) (h : m.Forms) : Touches m s (s.startSafety formed) := by
  have turns : m.Turns := ⟨h.begins, h.ends⟩
  have cleared : Touches m s (s.setSafety { s.safety with alarms := formed, count := 0, holdOff := 0 }) :=
    turns.setSafety s fun p => by rw [h.holdOff] at p; cases p
  have alarms : Touches m s (s.formAlarms formed) := ((cleared.trans (touches_raiseIf _ _ .allstopSeen)).trans
    (touches_raiseIf _ _ (.endConflict .A))).trans (touches_raiseIf _ _ (.endConflict .B))
  have terms (t : State) (ax : Axis) : Touches m t (t.evaluate ax) := touches_setAxisSafety t ax _
  have hold (t : State) (ax : Axis) : Touches m t (t.formHold ax) := touches_setAxisSafety t ax _
  exact (((((alarms.trans (terms _ .A)).trans (terms _ .B)).trans (touches_formAxis _ .A h.config)).trans
    (touches_formAxis _ .B h.config)).trans (hold _ .A)).trans (hold _ .B)

theorem touches_startAnnouncing (s : State) : Touches m s s.startAnnouncing :=
  (touches_setPeer s _).trans (touches_announceRequest _)

theorem touches_powerOn (s : State) : Touches m s s.powerOn := by
  refine touches_ite (fun _ => touches_beginOverride s) (fun _ => ?_)
  split
  · exact touches_recallScene s _ _ _
  · exact .refl s

theorem touches_startEngine (s : State) : Touches m s s.startEngine :=
  touches_ite (fun _ => touches_setTime_same s rfl rfl rfl) (fun _ => touches_setTime_same s rfl rfl rfl)

/-- A write where the configuration is formed. -/
theorem touches_setLoader (s : State) (x : Loader) (config : m.config = true) : Touches m s (s.setLoader x) :=
  { Touches.refl s with
    config := fun p => by rw [config] at p; cases p
    drives := fun p => by rw [config] at p; cases p
    tracks := fun p => by rw [config] at p; cases p }

theorem touches_setCfg (s : State) (x : Configuration) (config : m.config = true) : Touches m s (s.setCfg x) :=
  { Touches.refl s with
    config := fun p => by rw [config] at p; cases p
    drives := fun p => by rw [config] at p; cases p
    tracks := fun p => by rw [config] at p; cases p }

theorem touches_endLoading (s : State) (station : Station) (cfg : Configuration) (config : m.config = true) :
    Touches m s (s.endLoading station cfg) := (touches_setLoader s _ config).trans (touches_setCfg _ _ config)

theorem touches_startLine (s : State) : Touches m s s.startLine := touches_setLine s rfl rfl

theorem touches_unconfigure (s : State) (h : m.Forms) : Touches m s s.unconfigure :=
  ((((touches_endLoading s _ _ h.config).trans (touches_startLine _)).trans (touches_startEngine _)).trans
    (touches_startSafety _ _ h)).trans (touches_startAnnouncing _)

theorem touches_failAttempt (s : State) (h : m.Forms) : Touches m s s.failAttempt :=
  .trans (touches_setLoader s _ h.config) (touches_ite (fun _ => .refl _) (fun _ => touches_unconfigure _ h))

theorem touches_configuredBlocks (s : State) (img : List Byte) (h : m.Forms) (scenes : m.scenes = true)
    (sense : m.sense = true) (baseline : m.baseline = true) : Touches m s (s.configuredBlocks img) := by
  have ended := ((touches_endLoading s .configured (parseImage img) h.config).trans (touches_startLine _)).trans
    (touches_startEngine _)
  have peers (t : State) : Touches m t t.startPeers := touches_setPeer t _
  have lights (t : State) (x : LightUnit) : Touches m t (t.setLight x) := { Touches.refl t with
    config := fun p => by rw [h.config] at p; cases p
    scenes := fun p => by rw [scenes] at p; cases p
    drives := fun p => by rw [h.config] at p; cases p
    tracks := fun p => by rw [h.config] at p; cases p }
  have senses (t : State) (x : Vector SenseChannel 4) : Touches m t (t.setSense x) := { Touches.refl t with
    sense := fun p => by rw [sense] at p; cases p
    baseline := fun p => by rw [baseline] at p; cases p
    drives := fun p => by rw [h.config] at p; cases p
    tracks := fun p => by rw [h.config] at p; cases p }
  exact ((ended.trans (peers _)).trans (lights _ _)).trans (senses _ _)

end
end Sys2Proof.Machine
end

section
/-! PROOFS. The frame of every command. -/

namespace Sys2Proof.Machine

/-! ## The shapes of a command -/

/-- A command that answers a next state touches these parts alone. -/
def Touched (m : Parts) (s : State) (o : Host.Outcome State Fault Refusal) : Prop := ∀ t, o = .next t → Touches m s t

section
variable {m : Parts}

theorem touched_next {s t : State} (h : Touches m s t) : Touched m s (.next t) := by
  rintro _ ⟨⟩; exact h

theorem touched_event {s : State} {due : Bool} {effect : State} (h : Touches m s effect)
    (held : m.tokens = false → m.held = effect.motionHeld) : Touched m s (event s due effect) := by
  unfold event; split
  · exact touched_next (h.trans (touches_finish _ held))
  · exact touched_next (.refl s)

/-- The parts of a command at `s` that neither begins nor ends a hold cause. -/
structure Parts.Steady (m : Parts) (s : State) : Prop where
  begins : m.begins = false
  ends : m.ends = false
  held : m.held = s.motionHeld

theorem Parts.Steady.after {s t : State} (p : m.Steady s) (h : Touches m s t) : m.Steady t :=
  ⟨p.begins, p.ends, p.held.trans (h.motionHeld p.begins p.ends).symm⟩

theorem Parts.Steady.event {s : State} {due : Bool} {effect : State} (p : m.Steady s) (h : Touches m s effect) :
    Touched m s (event s due effect) := touched_event h fun _ => (p.after h).held

theorem Parts.Steady.atLastBit {s : State} {bits : List LineBit} {due : State → Bool} {effect : State → State}
    (p : m.Steady s) (stops : m.Stops) (h : ∀ s, Touches m s (effect s)) : Touched m s (atLastBit s bits due effect) := by
  have read := touches_readBits s bits stops
  have done : Touches m s (if due (s.readBits bits) then effect (s.readBits bits) else s.readBits bits) :=
    read.trans (touches_ite (fun _ => h _) (fun _ => .refl _))
  unfold Machine.atLastBit; dsimp only; split
  · exact touched_next (.refl s)
  · exact touched_next (done.trans (touches_finish _ fun _ => (p.after done).held))

theorem Parts.Steady.completing {s : State} {row : Instr} {act : Request → State → State} (p : m.Steady s)
    (h : ∀ r t, m.Steady t → Touches m t (act r t)) : Touched m s (completing s row act) := by
  unfold Machine.completing; split
  · have ended := touches_endDecode (m := m) s
    exact p.event ((ended _).trans (h _ _ (p.after (ended _))))
  · exact touched_next (.refl s)

theorem Parts.Steady.respond {α : Type} {r : Request} {parsed : Except Code α} {run : α → State → Code × State} {s : State}
    (p : m.Steady s) (h : ∀ x, Touches m s (run x s).2) : Touches m s (respond r parsed run s) :=
  touches_respond_plain p.begins p.ends p.held fun x _ => h x

/-- A READ (R74). -/
theorem Parts.Steady.read {s : State} {row : Instr} {selector parts : Nat}
    {content : State → Nat → Byte → Except Code (List Byte)} (p : m.Steady s) :
    Touched m s (Machine.completing s row fun r s => stationOnly r (answerRead r selector parts (content s) s) s) :=
  p.completing fun r s _ => touches_stationOnly (touches_answerRead r selector parts _ s)

/-- A command of the line at which a hold cause begins or ends. -/
theorem touched_atLastBit {s : State} {bits : List LineBit} {due : State → Bool} {effect : State → State}
    (stops : m.Stops) (h : ∀ s, Touches m s (effect s))
    (held : m.held = (if due (s.readBits bits) then effect (s.readBits bits) else s.readBits bits).motionHeld) :
    Touched m s (atLastBit s bits due effect) := by
  unfold atLastBit; dsimp only; split
  · exact touched_next (.refl s)
  · exact touched_next (((touches_readBits s bits stops).trans
      (touches_ite (fun _ => h _) (fun _ => .refl _))).trans (touches_finish _ fun _ => held))

end

/-- A completion that may begin or end a hold cause, with the holds that it leaves. -/
theorem exists_touched_completing {m : Bool → Parts} {s : State} {row : Instr} {act : Request → State → State}
    (hm : ∀ b, (m b).held = b) (h : ∀ r t b, b = (act r t).motionHeld → Touches (m b) t (act r t)) :
    ∃ b, Touched (m b) s (completing s row act) := by
  unfold completing; split
  · exact ⟨_, touched_event ((touches_endDecode s _).trans (h _ _ _ rfl)) fun _ => hm _⟩
  · exact ⟨false, touched_next (.refl s)⟩

/-- The way a request that may carry an at byte takes an axis. -/
def Timed.course : Timed → Course
  | .goto _ _ _ => .starting
  | .stop _ | .sceneRecall _ _ | .levelSet _ _ _ | .runStart | .runStop => .stopping

theorem Parts.runs_course {m : Parts} {x : Timed} (course : m.course = x.course) (tracks : m.tracks = true) : m.Runs x := by
  cases x with
  | goto => exact ⟨tracks, .inr course⟩
  | stop => exact .inr (by rw [course]; simp [Timed.course])
  | _ => trivial

/-- A request that runs by its at byte (R40), on the way that it takes an axis. -/
theorem exists_touches_timed {m : Course → Parts} (r : Request) (parsed : Except Code (Timed × Option Byte)) (s : State)
    (steady : ∀ c, (m c).Steady s) (course : ∀ c, (m c).course = c) (tracks : ∀ c, (m c).tracks = true) :
    ∃ c, Touches (m c) s (respond r parsed (fun x s => s.runTimed r x) s) := by
  cases parsed with
  | error code =>
    have p := steady .stopping
    exact ⟨_, touches_respond_plain p.begins p.ends p.held fun x e => by cases e⟩
  | ok x =>
    have p := steady x.1.course
    refine ⟨_, touches_respond_plain p.begins p.ends p.held fun y e => ?_⟩
    cases e
    exact touches_runTimed s r x (Parts.runs_course (course _) (tracks _))

theorem exists_touched_timed {m : Course → Parts} {s : State} {row : Instr}
    {parse : Request → State → Except Code (Timed × Option Byte)}
    (steady : ∀ c, (m c).Steady s) (course : ∀ c, (m c).course = c) (tracks : ∀ c, (m c).tracks = true) :
    (∃ c, Touched (m c) s (completing s row fun r s => respond r (parse r s) (fun x s => s.runTimed r x) s)) ∧
    ∃ c, Touched (m c) s
      (completing s row fun r s => stationOnly r (respond r (parse r s) (fun x s => s.runTimed r x) s) s) := by
  unfold completing; split
  · next f _ =>
    have ended (c : Course) := touches_endDecode (m := m c) s f.request
    obtain ⟨c, h⟩ := exists_touches_timed f.request (parse f.request (s.endDecode f.request)) (s.endDecode f.request)
      (fun c => (steady c).after (ended c)) course tracks
    exact ⟨⟨c, (steady c).event ((ended c).trans h)⟩, ⟨c, (steady c).event ((ended c).trans (touches_stationOnly h))⟩⟩
  · exact ⟨⟨.stopping, touched_next (.refl s)⟩, ⟨.stopping, touched_next (.refl s)⟩⟩

/-! ## Commands of several steps -/

section
variable {m : Parts}

theorem touches_takeOwed (s : State) (kind : Owed → Bool) {step : Owed → State → State}
    (h : ∀ o s, Touches m s (step o s)) : Touches m s (s.takeOwed kind step) := by
  unfold State.takeOwed; split
  · exact (touches_disown s _).trans (h _ _)
  · exact .refl s

theorem touches_signalStep (o : Owed) (s : State) (senses : m.Senses) : Touches m s (signalStep o s) := by
  cases o with
  | obstruction ax c b => exact touches_takeBit s c b senses
  | _ => exact .refl s

theorem Parts.Steady.settled {s : State} (p : m.Steady s) : Touches m s s.settled :=
  touches_settled s fun _ _ => .inl p.held

theorem Parts.Steady.settleChannel {s : State} (p : m.Steady s) (c : Fin 4) (senses : m.Senses) :
    Touches m s (s.settleChannel c) := by
  have owed : Touches m s
      (if s.owed.any (isBitOf c) then (s.takeOwed (isBitOf c) signalStep).settled else s) :=
    touches_ite (fun _ => by
      have bit := touches_takeOwed s (isBitOf c) fun o s => touches_signalStep o s senses
      exact bit.trans (p.after bit).settled) (fun _ => .refl s)
  refine owed.trans (touches_ite (fun _ => ?_) (fun _ => .refl _))
  have clip (t : State) : Touches m t ((t.disown (.clip c)).raise (.clip c)) :=
    (touches_disown t _).trans (touches_raise _ _)
  exact (clip _).trans ((p.after owed).after (clip _)).settled

theorem Parts.Steady.senseBits {s : State} (p : m.Steady s) (c : Fin 4) (bits : List Bool) (senses : m.Senses) :
    Touches m s (bits.foldl (fun s b => s.presentBit c b) s) := by
  induction bits generalizing s with
  | nil => exact .refl s
  | cons b bits ih =>
    have presented : Touches m s (s.presentBit c b) := by
      refine (p.settleChannel c senses).trans ?_
      unfold State.presentBit; dsimp only; split
      · exact touches_owe _ _
      · exact touches_takeBit _ c b senses
    exact presented.trans (ih (p.after presented))

theorem Parts.Steady.endSwitchChange {s : State} {ax : Axis} {which : Direction} {active : Bool} (p : m.Steady s)
    (pins : m.pins = true) (places : m.places = true) (course : m.course = .switching) :
    Touched m s (execEndSwitchChange ax which active s) := by
  have shown : Touches m s (s.setSwitchPin ax which active) := by
    cases ax <;> cases which <;> exact touches_setPins s fun q => by rw [pins] at q; cases q
  unfold execEndSwitchChange; dsimp only; split
  · exact touched_next shown
  · have done := shown.trans (touches_ite
      (c := ((s.setSwitchPin ax which active).switchRead ax which && !s.switchRead ax which &&
        (s.axis ax).state != .disabled) = true)
      (fun acts => touches_activate (s.setSwitchPin ax which active) ax which places course (by
        simp only [Bool.and_eq_true, bne_iff_ne] at acts
        rw [axis_of_motion (State.setSwitchPin_motion s ax which active)]
        exact acts.2)) (fun _ => .refl _))
    exact touched_next (done.trans (touches_finish _ fun _ => (p.after done).held))

/-- A request whose event may be followed by more of its instant: it settles the holds that it leaves (R181). -/
theorem touches_respond_instant {α : Type} {r : Request} {parsed : Except Code α} {run : α → State → Code × State}
    {s : State} (h : ∀ x, Touches m s (run x s).2)
    (held : m.held = (respond r parsed run s).oneInstant.motionHeld) : Touches m s (respond r parsed run s) := by
  refine touches_respond (fun x _ => h x) fun _ x ok masks => ?_
  have trails : Trails (run x s).2 (respond r parsed run s) := by
    unfold respond; rw [ok]
    exact (trails_settled _).trans (trails_reply _ r _)
  have follows := Parts.Follows.of_oneInstant held fun ax => by rw [axisCfg_of_cfg trails.cfg]; exact masks ax
  rwa [trails.motionHeld, trails.within] at follows

end

/-! ## The commands -/

/-- What weighs a channel's force and may move its baseline (R121 to R123). -/
def weighs : Instr → Bool
  | .senseSample _ _ | .obstructionSignal _ | .tare => true
  | _ => false

/-- What may begin or end a hold cause that is no alarm (R17, R18, R19, R170, R182). -/
def turnsHolds : Instr → Bool
  | .estopAssert => true
  | c => turnsAllstop c || startsUp c

/-- The parts that a command may change, by the way that it takes an axis and the hold it leaves. -/
def partsOf (c : Instr) (course : Course) (held : Bool) : Parts where
  course := course
  held := held
  config := startsUp c
  pins := presentsPins c
  time := setsTime c
  arrivals := marksArrivals c
  places := placesAxes c
  scenes := writesScenes c
  sense := feedsSense c
  baseline := carriesOwed c || weighs c || startsUp c
  intake := handlesIntake c
  allstop := turnsAllstop c
  holdOff := countsHoldOff c
  begins := turnsHolds c
  ends := turnsHolds c
  tokens := startsUp c || runsSchedule c
  tracks := !weighs c

/-- A command that neither begins nor ends a hold cause, and takes axes to rest alone. -/
theorem exists_touched_steady {c : Instr} {s : State} {o : Host.Outcome State Fault Refusal} (course : Course)
    (holds : turnsHolds c = false) (h : (partsOf c course s.motionHeld).Steady s → Touched (partsOf c course s.motionHeld) s o) :
    ∃ course held, Touched (partsOf c course held) s o := ⟨course, s.motionHeld, h ⟨holds, holds, rfl⟩⟩

/-- The completions of the requests that may carry an at byte, station-addressed or not (R40, R69). -/
theorem exists_touched_any_timed {c : Instr} {s : State} {row : Instr}
    {parse : Request → State → Except Code (Timed × Option Byte)} (holds : turnsHolds c = false) (quiet : weighs c = false) :
    ∃ course held, Touched (partsOf c course held) s
      (completing s row fun r s => respond r (parse r s) (fun x s => s.runTimed r x) s) := by
  obtain ⟨course, touched⟩ := (exists_touched_timed (m := fun course => partsOf c course s.motionHeld) (s := s)
    (row := row) (parse := parse) (fun _ => ⟨holds, holds, rfl⟩) (fun _ => rfl) fun _ => by simp [partsOf, quiet]).1
  exact ⟨course, _, touched⟩

theorem exists_touched_station_timed {c : Instr} {s : State} {row : Instr}
    {parse : Request → State → Except Code (Timed × Option Byte)} (holds : turnsHolds c = false) (quiet : weighs c = false) :
    ∃ course held, Touched (partsOf c course held) s (completing s row fun r s =>
      stationOnly r (respond r (parse r s) (fun x s => s.runTimed r x) s) s) := by
  obtain ⟨course, touched⟩ := (exists_touched_timed (m := fun course => partsOf c course s.motionHeld) (s := s)
    (row := row) (parse := parse) (fun _ => ⟨holds, holds, rfl⟩) (fun _ => rfl) fun _ => by simp [partsOf, quiet]).2
  exact ⟨course, _, touched⟩

theorem stops_of_stopping {c : Instr} {held : Bool} : (partsOf c .stopping held).Stops := .inr (fun e => by cases e)

theorem releases_of_carriesOwed {c : Instr} {held : Bool} (h : carriesOwed c = true) :
    (partsOf c .stopping held).Releases where
  time := by cases c <;> simp_all [partsOf, setsTime, carriesOwed]
  arrivals := by cases c <;> simp_all [partsOf, marksArrivals, carriesOwed]
  sense := by cases c <;> simp_all [partsOf, feedsSense, carriesOwed]
  baseline := by simp [partsOf, h]
  allstop := by cases c <;> simp_all [partsOf, turnsAllstop, carriesOwed]
  begins := by cases c <;> simp_all [partsOf, turnsHolds, turnsAllstop, carriesOwed]
  ends := by cases c <;> simp_all [partsOf, turnsHolds, turnsAllstop, carriesOwed]
  tracks := by cases c <;> simp_all [partsOf, weighs, carriesOwed]
  course := fun e => by cases e

theorem touches_openPeriod {m : Parts} (s : State) (time : m.time = true) : Touches m s s.openPeriod :=
  touches_setTime s (fun t => by rw [time] at t; cases t) fun _ => rfl

theorem touches_feed {m : Parts} (s : State) (bytes : List Byte) (config : m.config = true) :
    Touches m s (s.feed bytes) := touches_setLoader s _ config

theorem touches_judgeImage {m : Parts} (s : State) (forms : m.Forms) (scenes : m.scenes = true) (sense : m.sense = true)
    (baseline : m.baseline = true) : Touches m s s.judgeImage := by
  unfold State.judgeImage
  refine touches_ite (fun _ => .refl s) fun _ => touches_ite (fun _ => ?_) (fun _ => touches_failAttempt s forms)
  rw [configure_eq]
  exact (((touches_configuredBlocks s _ forms scenes sense baseline).trans (touches_startSafety _ _ forms)).trans
    (touches_startAnnouncing _)).trans (touches_powerOn _)

theorem touched_periodBoundary (keys : BitVec 8) (found : BoundaryFound) (s : State) :
    Touched (partsOf (.periodBoundary keys found) .stopping false) s (execPeriodBoundary keys found s) := by
  have carries : (partsOf (.periodBoundary keys found) .stopping false).Carries := ⟨rfl, rfl, rfl, rfl, rfl, rfl, rfl, rfl⟩
  exact touched_event ((((touches_settleOwed s carries (releases_of_carriesOwed rfl)).trans
    (touches_openPeriod _ rfl)).trans (touches_countPeriod _ keys _ carries rfl)).trans
      (touches_stepPool _ found carries)) fun t => by cases t

theorem touched_exec (c : Instr) (s : State) (h : resets c = false) :
    ∃ course held, Touched (partsOf c course held) s (exec c s) := by
  have stops {c : Instr} {held : Bool} : (partsOf c .stopping held).Stops := stops_of_stopping
  cases c with
  | hardReset straps => cases h
  | heldInReset => cases h
  | attemptFail =>
    show ∃ course held, Touched (partsOf _ course held) s (execAttemptFail s)
    exact ⟨.stopping, _, touched_event (touches_failAttempt s ⟨rfl, rfl, rfl, rfl⟩) fun _ => rfl⟩
  | imageJudged bytes =>
    show ∃ course held, Touched (partsOf _ course held) s (execImageJudged bytes s)
    exact ⟨.stopping, _, touched_event ((touches_feed s bytes rfl).trans
      (touches_judgeImage _ ⟨rfl, rfl, rfl, rfl⟩ rfl rfl rfl)) fun _ => rfl⟩
  | periodBoundary keys found =>
    show ∃ course held, Touched (partsOf _ course held) s (execPeriodBoundary keys found s)
    exact ⟨.stopping, false, touched_periodBoundary keys found s⟩
  | rampCompletion slot =>
    show ∃ course held, Touched (partsOf _ course held) s (execRampCompletion slot s)
    exact exists_touched_steady .stopping rfl fun p => p.event (touches_takeSteps s stops)
  | silenceTimerExpiry =>
    show ∃ course held, Touched (partsOf _ course held) s (execSilenceTimerExpiry s)
    exact exists_touched_steady .stopping rfl fun p => p.event ((touches_disown s _).trans (touches_silenceTimerStep _))
  | beaconOffer =>
    show ∃ course held, Touched (partsOf _ course held) s (execBeaconOffer s)
    exact exists_touched_steady .stopping rfl fun p => p.event ((touches_disown s _).trans (touches_offerBeacon _))
  | referenceLost =>
    show ∃ course held, Touched (partsOf _ course held) s (execReferenceLost s)
    exact exists_touched_steady .stopping rfl fun p => p.event ((touches_disown s _).trans (touches_referenceStep _))
  | scheduleDueRun =>
    show ∃ course held, Touched (partsOf _ course held) s (execScheduleDueRun s)
    exact exists_touched_steady .stopping rfl fun p =>
      p.event ((touches_disown s _).trans (touches_runDue _ ⟨rfl, rfl⟩))
  | announceExpiry =>
    show ∃ course held, Touched (partsOf _ course held) s (execAnnounceExpiry s)
    exact exists_touched_steady .stopping rfl fun p => p.event ((touches_disown s _).trans (touches_announceCountStep _))
  | freshnessLapse a =>
    show ∃ course held, Touched (partsOf _ course held) s (execFreshnessLapse a s)
    exact exists_touched_steady .stopping rfl fun p =>
      p.event ((touches_disown s _).trans (touches_freshnessStep _ a stops))
  | runStep =>
    show ∃ course held, Touched (partsOf _ course held) s (execRunStep s)
    exact exists_touched_steady .stopping rfl fun p => p.event ((touches_disown s _).trans (touches_runStepNow _))
  | keyDebounceEstablish k =>
    show ∃ course held, Touched (partsOf _ course held) s (execKeyDebounceEstablish k s)
    exact exists_touched_steady .stopping rfl fun p => p.event ((touches_disown s _).trans (touches_keyStep _ k))
  | keyPress k =>
    show ∃ course held, Touched (partsOf _ course held) s (execKeyPress k s)
    exact exists_touched_steady .stopping rfl fun p => p.event ((touches_disown s _).trans (touches_keyStep _ k))
  | keyRelease k =>
    show ∃ course held, Touched (partsOf _ course held) s (execKeyRelease k s)
    exact exists_touched_steady .stopping rfl fun p => p.event ((touches_disown s _).trans (touches_keyStep _ k))
  | leaseEnd ax =>
    show ∃ course held, Touched (partsOf _ course held) s (execLeaseEnd ax s)
    exact exists_touched_steady .stopping rfl fun p => p.event ((touches_disown s _).trans (touches_leaseStep _ ax stops))
  | stall ax =>
    show ∃ course held, Touched (partsOf _ course held) s (execStall ax s)
    exact exists_touched_steady .stopping rfl fun p => p.event ((touches_disown s _).trans (touches_stallStep _ ax stops))
  | blankingEnd ax =>
    show ∃ course held, Touched (partsOf _ course held) s (execBlankingEnd ax s)
    exact exists_touched_steady .stopping rfl fun p => p.event ((touches_disown s _).trans (touches_blankingStep _ ax))
  | holdOffEnd =>
    show ∃ course held, Touched (partsOf _ course held) s (execHoldOffEnd s)
    exact ⟨.stopping, _, touched_event (((touches_endHoldOff s ⟨rfl, rfl⟩ stops rfl rfl).trans (touches_foresee _)).trans
      (touches_oneInstant _ (releases_of_carriesOwed rfl))) fun _ => rfl⟩
  | frameBegin bits =>
    show ∃ course held, Touched (partsOf _ course held) s (execFrameBegin bits s)
    exact exists_touched_steady .stopping rfl fun p => p.atLastBit stops fun s => touches_startBit s rfl rfl
  | contentionLost bits =>
    show ∃ course held, Touched (partsOf _ course held) s (execContentionLost bits s)
    exact exists_touched_steady .stopping rfl fun p => p.atLastBit stops touches_loseContention
  | contentionWon bits =>
    show ∃ course held, Touched (partsOf _ course held) s (execContentionWon bits s)
    exact exists_touched_steady .stopping rfl fun p => p.atLastBit stops touches_winContention
  | bitError bits =>
    show ∃ course held, Touched (partsOf _ course held) s (execBitError bits s)
    exact exists_touched_steady .stopping rfl fun p => p.atLastBit stops fun s => touches_bitErrorNow s stops
  | headerEndLatch bits =>
    show ∃ course held, Touched (partsOf _ course held) s (execHeaderEndLatch bits s)
    exact exists_touched_steady .stopping rfl fun p => p.atLastBit stops touches_latchCount
  | senderEntersSlot bits =>
    show ∃ course held, Touched (partsOf _ course held) s (execSenderEntersSlot bits s)
    exact exists_touched_steady .stopping rfl fun p => p.atLastBit stops touches_enterSlot
  | slotEnd level =>
    show ∃ course held, Touched (partsOf _ course held) s (execSlotEnd level s)
    exact exists_touched_steady .stopping rfl fun p => p.event (touches_readBit s level stops)
  | startBitRead bits =>
    show ∃ course held, Touched (partsOf _ course held) s (execStartBitRead bits s)
    refine exists_touched_steady .stopping rfl fun p => ?_
    unfold execStartBitRead; dsimp only; split
    · exact touched_next (.refl s)
    · have read := touches_ite (c := (s.readBits bits.dropLast).startsNow (bits.getLastD true) = true)
        (fun _ => (touches_readBits s bits.dropLast (m := partsOf (.startBitRead bits) .stopping s.motionHeld) stops).trans
          (touches_startBit (s.readBits bits.dropLast) (x := { (s.readBits bits.dropLast).line.read false with
            place := .inFrame, bits := [false] }) rfl rfl))
        (fun _ => touches_readBits s bits stops)
      exact touched_next (read.trans (touches_finish _ fun _ => (p.after read).held))
  | frameReceiveIntact bits =>
    show ∃ course held, Touched (partsOf _ course held) s (execFrameReceiveIntact bits s)
    refine exists_touched_steady .stopping rfl fun p => p.atLastBit stops fun s => ?_
    split
    · exact touches_receive s _ rfl
    · exact .refl s
  | receiveError bits =>
    show ∃ course held, Touched (partsOf _ course held) s (execReceiveError bits s)
    exact exists_touched_steady .stopping rfl fun p => p.atLastBit stops fun s => touches_receiveError s stops
  | invalidSourceDiscard bits =>
    show ∃ course held, Touched (partsOf _ course held) s (execInvalidSourceDiscard bits s)
    exact exists_touched_steady .stopping rfl fun p => p.atLastBit stops fun s => touches_endFrame s _
  | deferredErrorCount bits =>
    show ∃ course held, Touched (partsOf _ course held) s (execDeferredErrorCount bits s)
    exact exists_touched_steady .stopping rfl fun p => p.event (touches_readBits s bits stops)
  | beaconReceive =>
    show ∃ course held, Touched (partsOf _ course held) s (execBeaconReceive s)
    refine exists_touched_steady .stopping rfl fun p => p.event (touches_takeOwed s _ fun o s => ?_)
    cases o with
    | beacon a pb phib latch => exact touches_takeBeacon s a pb phib latch rfl rfl ⟨rfl, rfl⟩
    | _ => exact .refl s
  | announceReceive =>
    show ∃ course held, Touched (partsOf _ course held) s (execAnnounceReceive s)
    refine exists_touched_steady .stopping rfl fun p => p.event (touches_takeOwed s _ fun o s => ?_)
    cases o with
    | announce a p => exact touches_takeAnnounce s a p stops
    | _ => exact .refl s
  | silentEntry =>
    show ∃ course held, Touched (partsOf _ course held) s (execSilentEntry s)
    exact exists_touched_steady .stopping rfl fun p => p.event ((touches_disown s _).trans (touches_silenceStep _ stops))
  | allstopEntry bits =>
    show ∃ course held, Touched (partsOf _ course held) s (execAllstopEntry bits s)
    exact ⟨.stopping, _, touched_atLastBit stops
      (fun s => touches_enterAllstop s ⟨rfl, rfl⟩ stops rfl fun off => by cases off) rfl⟩
  | allstopExit bits =>
    show ∃ course held, Touched (partsOf _ course held) s (execAllstopExit bits s)
    exact ⟨.stopping, _, touched_atLastBit stops (fun s => ((touches_exitAllstop s ⟨rfl, rfl⟩ rfl rfl).trans
      (touches_foresee _)).trans (touches_oneInstant _ (releases_of_carriesOwed rfl))) rfl⟩
  | estopAssert =>
    show ∃ course held, Touched (partsOf _ course held) s (execEstopAssert s)
    exact ⟨.stopping, _, touched_event (touches_assertEstop s ⟨rfl, rfl⟩ stops fun pins => by cases pins) fun _ => rfl⟩
  | estopRelease =>
    show ∃ course held, Touched (partsOf _ course held) s (execEstopRelease s)
    exact ⟨.stopping, _, touched_event ((((touches_disown s _).trans (touches_releaseEstop _ rfl)).trans
      (touches_foresee _)).trans (touches_oneInstant _ (releases_of_carriesOwed rfl))) fun _ => rfl⟩
  | travelPulse ax high =>
    show ∃ course held, Touched (partsOf _ course held) s (execTravelPulse ax high s)
    exact exists_touched_steady .stopping rfl fun p => p.event (touches_pulse s ax high stops rfl)
  | endSwitchChange ax d active =>
    show ∃ course held, Touched (partsOf _ course held) s (execEndSwitchChange ax d active s)
    exact exists_touched_steady .switching rfl fun p => p.endSwitchChange rfl rfl rfl
  | senseSample c bits =>
    show ∃ course held, Touched (partsOf _ course held) s (execSenseSample c bits s)
    exact exists_touched_steady .stopping rfl fun p => p.event (p.senseBits c bits ⟨rfl, rfl, stops⟩)
  | obstructionSignal ax =>
    show ∃ course held, Touched (partsOf _ course held) s (execObstructionSignal ax s)
    refine exists_touched_steady .stopping rfl fun p => p.event (touches_takeOwed s _ fun o s => ?_)
    exact touches_signalStep o s ⟨rfl, rfl, stops⟩
  | clip c =>
    show ∃ course held, Touched (partsOf _ course held) s (execClip c s)
    exact exists_touched_steady .stopping rfl fun p => p.event ((touches_disown s _).trans (touches_raise _ _))
  | decodeTake =>
    show ∃ course held, Touched (partsOf _ course held) s (execDecodeTake s)
    exact exists_touched_steady .stopping rfl fun p => p.event (touches_takeRequest s rfl)
  | goto =>
    show ∃ course held, Touched (partsOf _ course held) s (execGoto s)
    exact exists_touched_station_timed rfl rfl
  | stop =>
    show ∃ course held, Touched (partsOf _ course held) s (execStop s)
    exact exists_touched_station_timed rfl rfl
  | sceneRecall =>
    show ∃ course held, Touched (partsOf _ course held) s (execSceneRecall s)
    exact exists_touched_any_timed rfl rfl
  | levelSet =>
    show ∃ course held, Touched (partsOf _ course held) s (execLevelSet s)
    exact exists_touched_any_timed rfl rfl
  | runStart =>
    show ∃ course held, Touched (partsOf _ course held) s (execRunStart s)
    exact exists_touched_any_timed rfl rfl
  | runStop =>
    show ∃ course held, Touched (partsOf _ course held) s (execRunStop s)
    exact exists_touched_any_timed rfl rfl
  | jog =>
    show ∃ course held, Touched (partsOf _ course held) s (execJog s)
    exact exists_touched_steady .starting rfl fun p => p.completing fun r s p =>
      touches_stationOnly (p.respond fun x => touches_jog s _ x ⟨rfl, .inr rfl⟩)
  | jogRelease =>
    show ∃ course held, Touched (partsOf _ course held) s (execJogRelease s)
    refine exists_touched_steady .stopping rfl fun p => p.completing fun r s p => ?_
    split
    · exact touches_releaseJog s _ _ stops
    · exact .refl s
  | axisClear =>
    show ∃ course held, Touched (partsOf _ course held) s (execAxisClear s)
    exact exists_touched_steady .stopping rfl fun p => p.completing fun r s p =>
      touches_stationOnly (p.respond fun x => touches_clearAxis s x rfl)
  | reference =>
    show ∃ course held, Touched (partsOf _ course held) s (execReference s)
    exact exists_touched_steady .stopping rfl fun p => p.completing fun r s p =>
      touches_stationOnly (p.respond fun x => touches_setReference s x rfl)
  | tare =>
    show ∃ course held, Touched (partsOf _ course held) s (execTare s)
    exact exists_touched_steady .stopping rfl fun p => p.completing fun r s p =>
      touches_stationOnly (p.respond fun x => touches_tareChannel s x rfl)
  | groupRecallRequest =>
    show ∃ course held, Touched (partsOf _ course held) s (execGroupRecallRequest s)
    refine exists_touched_steady .stopping rfl fun p => p.completing fun r s p => ?_
    split
    · exact touches_groupRecall s _ _
    · exact .refl s
  | lightsEnable =>
    show ∃ course held, Touched (partsOf _ course held) s (execLightsEnable s)
    exact exists_touched_steady .stopping rfl fun p => p.completing fun r s p =>
      p.respond fun x => touches_lighting (touches_setLight_same s rfl rfl)
  | channelEnable =>
    show ∃ course held, Touched (partsOf _ course held) s (execChannelEnable s)
    exact exists_touched_steady .stopping rfl fun p => p.completing fun r s p =>
      p.respond fun x => touches_lighting (touches_enableChannels s _ _ _)
  | nightSet =>
    show ∃ course held, Touched (partsOf _ course held) s (execNightSet s)
    exact exists_touched_steady .stopping rfl fun p => p.completing fun r s p =>
      p.respond fun x => touches_lighting (touches_setLight_same s rfl rfl)
  | nightOff =>
    show ∃ course held, Touched (partsOf _ course held) s (execNightOff s)
    exact exists_touched_steady .stopping rfl fun p => p.completing fun r s p =>
      p.respond fun x => touches_lighting (touches_setLight_same s rfl rfl)
  | runSet =>
    show ∃ course held, Touched (partsOf _ course held) s (execRunSet s)
    exact exists_touched_steady .stopping rfl fun p => p.completing fun r s p =>
      p.respond fun x => touches_lighting (touches_setRegion s x)
  | sceneTime =>
    show ∃ course held, Touched (partsOf _ course held) s (execSceneTime s)
    exact exists_touched_steady .stopping rfl fun p => p.completing fun r s p =>
      p.respond fun x => touches_lighting (touches_setSceneTime s _ _ rfl)
  | alarmClear =>
    show ∃ course held, Touched (partsOf _ course held) s (execAlarmClear s)
    refine ⟨.stopping, exists_touched_completing (m := partsOf .alarmClear .stopping) (fun _ => rfl) fun r s b held => ?_⟩
    exact (touches_respond_instant (fun x => touches_alarmClear s x) held).trans (touches_oneInstant _ (releases_of_carriesOwed rfl))
  | mapClear =>
    show ∃ course held, Touched (partsOf _ course held) s (execMapClear s)
    exact exists_touched_steady .stopping rfl fun p => p.completing fun r s p =>
      p.respond fun _ => touches_setTime s (fun _ => ⟨rfl, rfl⟩) fun t => by cases t
  | restart =>
    show ∃ course held, Touched (partsOf _ course held) s (execRestart s)
    refine ⟨.stopping, exists_touched_completing (m := partsOf .restart .stopping) (fun _ => rfl) fun r s b held => ?_⟩
    refine .trans ?_ (touches_oneInstant _ (releases_of_carriesOwed rfl))
    unfold stationOnly at held ⊢
    split at held
    · next station =>
      rw [if_pos station]
      exact touches_respond_instant (fun _ => (touches_softRestart s rfl rfl).trans (touches_foresee _)) held
    · next other => rw [if_neg other]; exact .refl s
  | readAxis =>
    show ∃ course held, Touched (partsOf _ course held) s (execReadAxis s)
    exact exists_touched_steady .stopping rfl fun p => p.read
  | readSense =>
    show ∃ course held, Touched (partsOf _ course held) s (execReadSense s)
    exact exists_touched_steady .stopping rfl fun p => p.read
  | readTime =>
    show ∃ course held, Touched (partsOf _ course held) s (execReadTime s)
    exact exists_touched_steady .stopping rfl fun p => p.read
  | readAlarms =>
    show ∃ course held, Touched (partsOf _ course held) s (execReadAlarms s)
    exact exists_touched_steady .stopping rfl fun p => p.read
  | readLight =>
    show ∃ course held, Touched (partsOf _ course held) s (execReadLight s)
    exact exists_touched_steady .stopping rfl fun p => p.read
  | readPeer =>
    show ∃ course held, Touched (partsOf _ course held) s (execReadPeer s)
    exact exists_touched_steady .stopping rfl fun p => p.read
  | readScene =>
    show ∃ course held, Touched (partsOf _ course held) s (execReadScene s)
    exact exists_touched_steady .stopping rfl fun p => p.read
  | levelWindow =>
    show ∃ course held, Touched (partsOf _ course held) s (execLevelWindow s)
    refine exists_touched_steady .stopping rfl fun p => p.completing fun r s p => ?_
    have closed {b : Bool} : Touches (partsOf .levelWindow .stopping b) s (s.setCmd { s.cmd with window := none }) :=
      touches_setCmd_same s rfl
    exact closed.trans ((p.after closed).respond fun x => touches_openWindow _ _ x)
  | levelData =>
    show ∃ course held, Touched (partsOf _ course held) s (execLevelData s)
    exact exists_touched_steady .stopping rfl fun p => p.completing fun r s p =>
      p.respond fun x => touches_writeLevels s _ x rfl
  | replyDiscard =>
    show ∃ course held, Touched (partsOf _ course held) s (execReplyDiscard s)
    exact exists_touched_steady .stopping rfl fun p => p.completing fun r s p => .refl s
  | unknownKind =>
    show ∃ course held, Touched (partsOf _ course held) s (execUnknownKind s)
    exact exists_touched_steady .stopping rfl fun p => p.completing fun r s p => touches_reply s r _

/-! ## The baselines at the end of LOADING and at a reset -/

/-- The parts of what follows the forming of the axes, where no axis becomes motor-powered. -/
def Parts.resting : Parts := { Parts.carrying with tracks := false }

theorem Touches.unpowered {s t : State} (h : Touches .resting s t) (off : ∀ ax, (s.axis ax).state.motorPowered = false)
    (ax : Axis) : (t.axis ax).state.motorPowered = false :=
  Bool.eq_false_iff.2 fun powered => by
    have := (h.drives rfl).powered rfl ax powered
    rw [off] at this; cases this

theorem formedRecord_unpowered (s : State) (ax : Axis) : (s.formedRecord ax).state.motorPowered = false := by
  unfold State.formedRecord State.formedState
  split
  · rfl
  · dsimp only; split
    · rfl
    · split <;> rfl

theorem configure_unpowered (s : State) (img : List Byte) (ax : Axis) :
    ((s.configure img).axis ax).state.motorPowered = false := by
  rw [configure_eq]
  refine Touches.unpowered ((touches_startAnnouncing _).trans (touches_powerOn _)) (fun ax => ?_) ax
  rw [startSafety_axis]
  cases ax <;> exact formedRecord_unpowered _ _

/-- The parts of the end of LOADING in UNCONFIGURED, which leaves the baselines. -/
def Parts.forming : Parts := { Parts.carrying with config := true, begins := true, baseline := false }

theorem Parts.forming_forms : Parts.forming.Forms := ⟨rfl, rfl, rfl, rfl⟩

/-- At the end of LOADING the baselines stand, or no axis is motor-powered (R132, R163). -/
theorem judgeImage_baseline (s : State) : (∀ x : Fin 4, s.judgeImage.sense[x].baseline = s.sense[x].baseline) ∨
    ∀ ax, (s.judgeImage.axis ax).state.motorPowered = false := by
  unfold State.judgeImage
  split
  · exact .inl fun _ => rfl
  · split
    · exact .inr fun ax => configure_unpowered s _ ax
    · exact .inl ((touches_failAttempt s Parts.forming_forms).baseline rfl)

theorem event_baseline {s effect t : State} {due : Bool} (h : event s due effect = .next t)
    (effects : (∀ x : Fin 4, effect.sense[x].baseline = s.sense[x].baseline) ∨
      ∀ ax, (effect.axis ax).state.motorPowered = false) :
    (∀ x : Fin 4, t.sense[x].baseline = s.sense[x].baseline) ∨ ∀ ax, (t.axis ax).state.motorPowered = false := by
  have finished {m : Parts} (tokens : m.tokens = true) : Touches m effect effect.finish :=
    touches_finish effect fun t => by rw [tokens] at t; cases t
  unfold event at h
  split at h <;> cases h
  · exact effects.imp (fun same x => ((finished (m := .forming) rfl).baseline rfl x).trans (same x))
      (finished (m := .resting) rfl).unpowered
  · exact .inl fun _ => rfl

theorem startsUp_baseline {c : Instr} {s t : State} (ends : startsUp c = true) (h : exec c s = .next t) :
    (∀ x : Fin 4, t.sense[x].baseline = s.sense[x].baseline) ∨ ∀ ax, (t.axis ax).state.motorPowered = false := by
  cases c with
  | hardReset straps => cases h; exact .inr fun ax => by cases ax <;> rfl
  | heldInReset => cases h; exact .inr fun ax => by cases ax <;> rfl
  | attemptFail =>
    exact event_baseline h (.inl ((touches_failAttempt s Parts.forming_forms).baseline rfl))
  | imageJudged bytes => exact event_baseline h (judgeImage_baseline (s.feed bytes))
  | _ => cases ends

/-! ## The frame -/

/-- A reset gives free every part that the statement names. -/
theorem resets_free {c : Instr} (h : resets c = true) : startsUp c = true ∧ presentsPins c = true ∧ setsTime c = true ∧
    marksArrivals c = true ∧ placesAxes c = true ∧ writesScenes c = true ∧ feedsSense c = true ∧ handlesIntake c = true ∧
    turnsAllstop c = true ∧ countsHoldOff c = true := by
  cases c with
  | hardReset straps => exact ⟨rfl, rfl, rfl, rfl, rfl, rfl, rfl, rfl, rfl, rfl⟩
  | heldInReset => exact ⟨rfl, rfl, rfl, rfl, rfl, rfl, rfl, rfl, rfl, rfl⟩
  | _ => cases h

theorem not_resets_of_not_startsUp {c : Instr} (h : startsUp c = false) : resets c = false :=
  Bool.eq_false_iff.2 fun r => by rw [(resets_free r).1] at h; cases h

/-- The end of LOADING forms the axes (R163). -/
theorem not_startsUp_of_not_placesAxes {c : Instr} (h : placesAxes c = false) : startsUp c = false := by
  cases c <;> simp_all [placesAxes, startsUp, resets]

/-- A baseline law that only the end of LOADING and carrying out what is owed escape (R122). -/
theorem baseline_of_powered {c : Instr} {s t : State} (h : exec c s = .next t) (carries : carriesOwed c = false)
    {x : Fin 4} {ax : Axis} (bound : s.boundAxis x = some ax) (running : s.sense[x].state = .running)
    (powered : (t.axis ax).state.motorPowered = true) : t.sense[x].baseline = s.sense[x].baseline := by
  cases up : startsUp c with
  | true =>
    rcases startsUp_baseline up h with same | off
    · exact same x
    · rw [off] at powered; cases powered
  | false =>
    obtain ⟨course, held, touched⟩ := touched_exec c s (not_resets_of_not_startsUp up)
    have kept := touched t h
    cases w : weighs c with
    | false => exact kept.baseline (by simp [partsOf, carries, up, w]) x
    | true => exact ((kept.tracks up (by simp [partsOf, w])) x running).2 ax bound powered

theorem resets_pending {c : Instr} {s t : State} (r : resets c = true) (h : exec c s = .next t) : t.pending = s.pending := by
  cases c with
  | hardReset straps => cases h; rfl
  | heldInReset => cases h; rfl
  | _ => cases r

/-- Settles O14: every operation touches only the parts that its command gives free; the token rises with the state, by fewer
than 256 steps. -/
theorem commandsChangeOnlyTheirParts : Obligations.CommandsChangeOnlyTheirParts := by
  intro c s t h
  have baseline (carries : carriesOwed c = false) (x : Fin 4) (ax : Axis) (bound : s.boundAxis x = some ax)
      (running : s.sense[x].state = .running) (_ : (s.axis ax).state.motorPowered = true)
      (powered : (t.axis ax).state.motorPowered = true) : t.sense[x].baseline = s.sense[x].baseline :=
    baseline_of_powered h carries bound running powered
  cases r : resets c with
  | true =>
    obtain ⟨up, pins, time, arrivals, places, scenes, sense, intake, allstop, holdOff⟩ := resets_free r
    simp only [up, pins, time, arrivals, places, scenes, sense, intake, allstop, holdOff, Bool.true_eq_false, false_implies,
      true_and]
    exact ⟨resets_pending r h, baseline⟩
  | false =>
    obtain ⟨course, held, touched⟩ := touched_exec c s r
    have kept := touched t h
    refine ⟨kept.pending, fun _ => kept.inReset, kept.config, kept.pins, kept.time, kept.arrivals, fun still ax => ?_,
      kept.scenes, kept.sense, kept.intake, kept.allstop, kept.holdOff, fun up runs masks ax => ?_, baseline⟩
    · exact (kept.drives (not_startsUp_of_not_placesAxes still)).places still ax
    · exact ((kept.drives up).tokens (by simp [partsOf, up, runs]) masks ax).token_iff

end Sys2Proof.Machine
end


section
/-! PROOFS. A request that may carry an at byte, wherever it runs: the blocks it keeps and the reports it leaves waiting; and the
entries of the schedule list that run through it. -/

namespace Sys2Proof.Machine

/-! ## The request -/

theorem keeps_markScene (s : State) (aims : Fin 24 → Option Nat) (scene : Option (Fin 8)) : Keeps s (s.markScene aims scene) :=
  keeps_setLight s _

theorem keeps_changeLevels (s : State) (aims : Fin 24 → Option Nat) (fade : Nat) : Keeps s (s.changeLevels aims fade) := by
  have left : Keeps s (s.leaveFades fun i => (aims i).isSome) := (keeps_setPool s _).trans (keeps_setLight _ _)
  have taken : Keeps s ((s.leaveFades fun i => (aims i).isSome).takeLevels aims) := left.trans (keeps_setLight _ _)
  unfold State.changeLevels
  split
  · exact .refl s
  · dsimp only
    split
    · exact taken
    · split
      · exact left.trans ((keeps_giveSlot _ _ _).trans (keeps_setLight _ _))
      · exact taken.trans (keeps_raise _ _)

theorem prompts_changeLevels (s : State) (aims : Fin 24 → Option Nat) (fade : Nat) : Prompts s (s.changeLevels aims fade) := by
  have left : Relit s (s.leaveFades fun i => (aims i).isSome) := relit_leaveFades s _
  have taken : Prompts s ((s.leaveFades fun i => (aims i).isSome).takeLevels aims) :=
    .of_safety (left.trans (relit_takeLevels _ aims)).safety
  unfold State.changeLevels
  split
  · exact .refl s
  · dsimp only
    split
    · exact taken
    · split
      · exact (Prompts.of_safety left.safety).trans (.of_safety (by simp [State.joinSlot, State.giveSlot]))
      · exact taken.trans (prompts_raise _ (.inr rfl))

theorem keeps_start (s : State) (ax : Axis) (d : Direction) (mode : Mode) (target : Target) (lease : Option Lease) :
    Keeps s (s.start ax d mode target lease) := by
  unfold State.start; dsimp only
  split
  · exact ((keeps_setAxis s ax _).trans (keeps_enter _ ax _)).trans (keeps_enterRunning _ ax)
  · exact ((keeps_setAxis s ax _).trans (keeps_enter _ ax _)).trans (keeps_askMotor _ ax _ _ _)

theorem prompts_start (s : State) (ax : Axis) (d : Direction) (mode : Mode) (target : Target) (lease : Option Lease) :
    Prompts s (s.start ax d mode target lease) := by
  have written (t : State) (r : AxisRecord) : Prompts t (t.setAxis ax r) := .of_safety (State.setAxis_safety _ _ _)
  unfold State.start; dsimp only
  split
  · exact ((written s _).trans (prompts_enter _ ax _)).trans ((written _ _).trans (prompts_enter _ ax _))
  · exact ((written s _).trans (prompts_enter _ ax _)).trans (prompts_askMotor _ ax _ _ _)

/-- The blocks `Keeps` names stand, and of the Safety Unit only reports may have joined. -/
structure Prompted (s t : State) : Prop where
  keeps : Keeps s t
  prompts : Prompts s t

theorem Prompted.refl (s : State) : Prompted s s := ⟨.refl s, .refl s⟩

theorem Prompted.trans {s t u : State} (h : Prompted s t) (k : Prompted t u) : Prompted s u :=
  ⟨h.keeps.trans k.keeps, h.prompts.trans k.prompts⟩

theorem prompted_snd_ite {c : Prop} [Decidable c] {s : State} {x y : Code × State} (hx : Prompted s x.2)
    (hy : Prompted s y.2) : Prompted s (if c then x else y).2 := by
  split <;> assumption

theorem prompted_runGoto (s : State) (ax : Axis) (target : Target) : Prompted s (s.runGoto ax target).2 := by
  have written (r : AxisRecord) : Prompted s (s.setAxis ax r) :=
    ⟨keeps_setAxis s ax r, .of_safety (State.setAxis_safety _ _ _)⟩
  unfold State.runGoto; dsimp only
  split
  case h_8 =>
    refine prompted_snd_ite (.refl s) ?_
    split
    · exact written _
    · exact prompted_snd_ite ⟨keeps_start s ax _ _ _ _, prompts_start s ax _ _ _ _⟩ (.refl s)
  all_goals exact .refl s

theorem prompted_stopAxis (s : State) (ax : Axis) : Prompted s (s.stopAxis ax) := by
  unfold State.stopAxis
  split
  · exact ⟨keeps_enterStopping s ax _, prompts_enterStopping s ax _⟩
  · exact ⟨keeps_enterStopping s ax _, prompts_enterStopping s ax _⟩
  · exact ⟨keeps_restFor s ax _, prompts_restFor s ax _⟩
  all_goals exact .refl s

theorem prompted_markScene (s : State) (aims : Fin 24 → Option Nat) (scene : Option (Fin 8)) :
    Prompted s (s.markScene aims scene) := ⟨keeps_markScene s aims scene, .of_safety (relit_markScene s aims scene).safety⟩

theorem prompted_changeLevels (s : State) (aims : Fin 24 → Option Nat) (fade : Nat) : Prompted s (s.changeLevels aims fade) :=
  ⟨keeps_changeLevels s aims fade, prompts_changeLevels s aims fade⟩

theorem prompted_run (s : State) (l : LightUnit) : Prompted s ((s.setLight l).disown .runStep) :=
  ⟨(keeps_setLight s l).trans (keeps_disown _ _), .of_safety (by simp)⟩

theorem prompted_act (s : State) (addressing : Addressing) (x : Timed) : Prompted s (s.act addressing x).2 := by
  cases x with
  | goto ax target token => exact prompted_runGoto s ax target
  | stop ax => exact prompted_stopAxis s ax
  | sceneRecall scene fade => exact (prompted_changeLevels s _ _).trans (prompted_markScene _ _ _)
  | levelSet channel level fade => exact (prompted_changeLevels s _ _).trans (prompted_markScene _ _ _)
  | runStart =>
    show Prompted s s.runRunStart.2
    unfold State.runRunStart; split
    · exact .refl s
    · exact prompted_run s _
  | runStop => exact prompted_run s _

theorem prompted_perform (s : State) (addressing : Addressing) (x : Timed) : Prompted s (s.perform addressing x).2 := by
  unfold State.perform; split
  · exact .refl s
  · exact prompted_act s addressing x

/-! ## Reports that are taken -/

/-- No report waits once all that follows from a change is taken. -/
theorem settle_raised (n : Nat) (s : State) : (s.settle n).safety.raised = [] := by
  induction n generalizing s with
  | zero => rfl
  | succ n ih =>
    unfold State.settle; dsimp only
    split
    · exact ih _
    · next none =>
      split
      · exact ih _
      · exact none

theorem settled_raised (s : State) : s.settled.safety.raised = [] := settle_raised 128 s

theorem weight_of_none {s : State} (none : s.safety.raised = []) : s.weight ≤ 2 := by
  have := weight_le_raised s
  rw [none] at this; exact this

/-- An alarm reported where few wait comes to stand set (R174). -/
theorem alarmSet_settled {s : State} {a : Alarm} (station : s.station ≠ .loading) (reported : a ∈ s.safety.raised)
    (few : s.weight ≤ 50) : s.settled.alarmSet a = true := by
  refine alarmSet_settle station reported ?_
  have := load_syncContent_le s
  omega

/-! ## The entries of the schedule list -/

/-- What an entry of the schedule list leaves where it runs: the blocks `Keeps` names, every alarm that is set, and no report. -/
structure Bears (s t : State) : Prop extends Keeps s t where
  alarms : ∀ a, s.alarmSet a = true → t.alarmSet a = true
  raised : s.safety.raised = [] → t.safety.raised = []

theorem Bears.refl (s : State) : Bears s s := ⟨.refl s, fun _ => id, id⟩

theorem Bears.trans {s t u : State} (h : Bears s t) (k : Bears t u) : Bears s u :=
  ⟨h.toKeeps.trans k.toKeeps, fun a => k.alarms a ∘ h.alarms a, k.raised ∘ h.raised⟩

theorem bears_foldl {α : Type} {step : State → α → State} (h : ∀ s a, Bears s (step s a)) (l : List α) (s : State) :
    Bears s (l.foldl step s) := by
  induction l generalizing s with
  | nil => exact .refl s
  | cons a l ih => exact (h s a).trans (ih _)

theorem trails_deferred (s : State) (e : Entry) (c : Code) : Trails s (s.deferred e c) := by
  unfold State.deferred; split
  · exact trails_offer s _
  · exact .refl s

/-- The deferred OUTCOME of an entry, after all that its effect brings (R42). -/
theorem bears_answered (s : State) (e : Entry) (c : Code) : Bears s (s.settled.deferred e c).settled :=
  have trails := ((trails_settled s).trans (trails_deferred _ e c)).trans (trails_settled _)
  ⟨trails.toKeeps, fun _ => trails.alarms _, fun _ => settled_raised _⟩

theorem bears_runEntry (s : State) (e : Entry) : Bears s (s.runEntry e) where
  toKeeps := (prompted_perform s _ _).keeps.trans (bears_answered _ e _).toKeeps
  alarms := fun a set => (bears_answered _ e _).alarms a (((prompted_perform s _ _).prompts.alarmSet a).trans set)
  raised := fun _ => settled_raised _

/-- The due entries leave the list, and nothing else that `Keeps` names changes (R42). -/
theorem bears_runDue (s : State) :
    Bears (s.setTime { s.time with schedule := s.time.schedule.filter fun e => e.due != s.time.p }) s.runDue :=
  bears_foldl bears_runEntry _ _

end Sys2Proof.Machine
end


section
/-! PROOFS. The count of time at a boundary: only its opening writes P, the period's length, the slew and the lock state. -/

namespace Sys2Proof.Machine

/-- P, the count within the period, its length, the slew remainder and the lock state are the same. -/
structure SameCount (s t : State) : Prop where
  p : t.time.p = s.time.p
  elapsed : t.time.elapsed = s.time.elapsed
  periodLength : t.time.periodLength = s.time.periodLength
  slew : t.time.slew = s.time.slew
  lock : t.time.lock = s.time.lock

theorem SameCount.of_time {s t : State} (h : t.time = s.time) : SameCount s t := by
  constructor <;> rw [h]

theorem Keeps.sameCount {s t : State} (h : Keeps s t) : SameCount s t := .of_time h.time

theorem SameCount.refl (s : State) : SameCount s s := .of_time rfl

theorem SameCount.trans {s t u : State} (h : SameCount s t) (k : SameCount t u) : SameCount s u :=
  ⟨k.p.trans h.p, k.elapsed.trans h.elapsed, k.periodLength.trans h.periodLength, k.slew.trans h.slew, k.lock.trans h.lock⟩

theorem sameCount_stepOrOwe (s : State) {ends : Bool} (o : Owed) {step : State → State}
    (h : ends = false → SameCount s (step s)) : SameCount s (s.stepOrOwe ends o step) := by
  unfold State.stepOrOwe; split
  · exact .of_time rfl
  · next going => exact h (by simpa using going)

theorem sameCount_foldl {α : Type} {step : State → α → State} (h : ∀ s a, SameCount s (step s a)) (l : List α) (s : State) :
    SameCount s (l.foldl step s) := by
  induction l generalizing s with
  | nil => exact .refl s
  | cons a l ih => exact (h s a).trans (ih _)

/-! ## The counts of the Time Base, short of their ends -/

theorem sameCount_countSilenceTimer (s : State) : SameCount s s.countSilenceTimer := by
  refine sameCount_stepOrOwe s _ fun going => ?_
  unfold State.silenceTimerStep
  split
  · exact .refl s
  · next standby =>
    split
    · exact ⟨rfl, rfl, rfl, rfl, rfl⟩
    · next last =>
      simp only [Bool.and_eq_false_iff, beq_eq_false_iff_ne, decide_eq_false_iff_not] at going
      exact (going.elim standby fun more => more (by omega)).elim

theorem sameCount_countReference (s : State) : SameCount s s.countReference := by
  refine sameCount_stepOrOwe s _ fun going => ?_
  unfold State.referenceStep
  split
  · exact .refl s
  · next held =>
    split
    · exact ⟨rfl, rfl, rfl, rfl, rfl⟩
    · next last =>
      simp only [Bool.and_eq_false_iff, decide_eq_false_iff_not] at going
      exact (going.elim (fun none => held (by simpa using none)) fun more => more (by omega)).elim

/-! ## The other counts -/

theorem keeps_silenceStep (s : State) : Keeps s s.silenceStep := by
  unfold State.silenceStep; dsimp only
  split
  · exact .refl s
  · split
    · exact keeps_setLine s _
    · exact ((keeps_setLine s _).trans (keeps_raise _ _)).trans (keeps_applyRow _ _ _)

theorem keeps_leaseStep (s : State) (ax : Axis) : Keeps s (s.leaseStep ax) := by
  unfold State.leaseStep; dsimp only
  split
  · exact keeps_enterStopping s ax _
  · exact keeps_setAxis s ax _
  · exact .refl s

theorem keeps_stallStep (s : State) (ax : Axis) : Keeps s (s.stallStep ax) := by
  unfold State.stallStep; dsimp only
  split
  · exact .refl s
  · split
    · exact keeps_setAxis s ax _
    · exact (keeps_raise s _).trans (keeps_faultFor _ ax _)

theorem keeps_blankingStep (s : State) (ax : Axis) : Keeps s (s.blankingStep ax) := by
  unfold State.blankingStep; dsimp only
  split
  · exact keeps_setAxis s ax _
  · exact .refl s

theorem keeps_announceCountStep (s : State) : Keeps s s.announceCountStep := by
  unfold State.announceCountStep
  split
  · exact .refl s
  · split
    · exact keeps_setPeer s _
    · exact keeps_announceRequest s

theorem keeps_runStepNow (s : State) : Keeps s s.runStepNow := by
  unfold State.runStepNow
  split
  · exact .refl s
  · split
    · exact .refl s
    · split <;> exact keeps_setLight s _

theorem keeps_ite {c : Prop} [Decidable c] {s t u : State} (ht : Keeps s t) (hu : Keeps s u) :
    Keeps s (if c then t else u) := by
  split <;> assumption

theorem keeps_loseDirection (s : State) (ax : Axis) (d : Direction) : Keeps s (s.loseDirection ax d) :=
  keeps_ite ((keeps_raise s _).trans (keeps_enterStopping _ ax _)) (.refl s)

theorem keeps_reevaluate (s : State) (ax : Axis) : Keeps s (s.reevaluate ax) := by
  have evaluated : Keeps s (s.evaluate ax) := keeps_setAxisSafety s ax _
  have plus := keeps_ite (c := ((s.axisSafety ax).plus && !((s.evaluate ax).axisSafety ax).plus) = true)
    (evaluated.trans (keeps_loseDirection _ ax .plus)) evaluated
  exact keeps_ite (plus.trans (keeps_loseDirection _ ax .minus)) plus

theorem keeps_freshnessStep (s : State) (a : Nat) : Keeps s (s.freshnessStep a) := by
  have aged : Keeps s (s.setPeer { s.peer with
    table := s.peer.table.map fun e => if e.address = a then e.aged else e }) := keeps_setPeer s _
  exact keeps_ite (aged.trans ((keeps_reevaluate _ .A).trans (keeps_reevaluate _ .B))) aged

theorem sameCount_countRelease (s : State) (asserted : Bool) : SameCount s (s.countRelease asserted) := by
  unfold State.countRelease; dsimp only
  split
  · exact .of_time rfl
  · split <;> exact .of_time rfl

theorem sameCount_countKeys (s : State) (keys : BitVec 8) : SameCount s (s.countKeys keys) := by
  unfold State.countKeys; dsimp only
  split
  · exact .of_time rfl
  · refine SameCount.trans (.of_time ?_)
      (sameCount_foldl (fun t k => sameCount_stepOrOwe t _ fun _ => .of_time rfl) _ _)
    rfl

theorem sameCount_countAxis (s : State) (ax : Axis) : SameCount s (s.countAxis ax) := by
  unfold State.countAxis
  refine .trans (.trans ?_ (sameCount_stepOrOwe _ _ fun _ => (keeps_stallStep _ ax).sameCount))
    (sameCount_stepOrOwe _ _ fun _ => (keeps_blankingStep _ ax).sameCount)
  exact sameCount_stepOrOwe _ _ fun _ => (keeps_leaseStep _ ax).sameCount

/-- The counts of a boundary leave the count of time as the boundary has opened it (R25, R26). -/
theorem sameCount_countPeriod (s : State) (keys : BitVec 8) (asserted : Bool) :
    SameCount s (s.countPeriod keys asserted) := by
  have ages (t : State) : SameCount t t.countAges := .of_time rfl
  have run (t : State) : SameCount t t.countRun := sameCount_stepOrOwe t _ fun _ => (keeps_runStepNow t).sameCount
  have silence (t : State) : SameCount t t.countSilence := sameCount_stepOrOwe t _ fun _ => (keeps_silenceStep t).sameCount
  have holdOff (t : State) : SameCount t t.countHoldOff := sameCount_stepOrOwe t _ fun _ => .of_time rfl
  have schedule (t : State) : SameCount t t.countSchedule := (keeps_oweIf t _ _).sameCount
  have beacon (t : State) : SameCount t t.countBeacon := (keeps_oweIf t _ _).sameCount
  have announce (t : State) : SameCount t t.countAnnounce :=
    sameCount_stepOrOwe t _ fun _ => (keeps_announceCountStep t).sameCount
  unfold State.countPeriod; dsimp only
  refine .trans ?_ (announce _)
  refine .trans ?_ (beacon _)
  refine .trans ?_ (schedule _)
  refine .trans ?_ (holdOff _)
  refine .trans ?_ (sameCount_countAxis _ .B)
  refine .trans ?_ (sameCount_countAxis _ .A)
  refine .trans ?_ (run _)
  refine .trans ?_ (sameCount_countKeys _ keys)
  refine .trans ?_ (ages _)
  refine .trans ?_ (sameCount_countRelease _ asserted)
  refine .trans ?_ (silence _)
  exact (sameCount_countSilenceTimer s).trans (sameCount_countReference _)

/-! ## The events before the stepping -/

theorem sameCount_runDue (s : State) : SameCount s s.runDue := by
  refine .trans ?_ (bears_runDue s).toKeeps.sameCount
  exact ⟨rfl, rfl, rfl, rfl, rfl⟩

/-- None of the events that may come before the pool's stepping writes the count of time (R110). -/
theorem sameCount_carryEarly (s : State) (e : BoundaryEvent) : SameCount s (s.carryOwed (owedBy e)) := by
  unfold State.carryOwed
  split
  · refine .trans ?_ (keeps_settled _).sameCount
    have disowned := (keeps_disown s (owedBy e)).sameCount
    cases e with
    | silentEntry => exact disowned.trans (keeps_silenceStep _).sameCount
    | freshnessLapse a => exact disowned.trans (keeps_freshnessStep _ a).sameCount
    | leaseEnd ax => exact disowned.trans (keeps_leaseStep _ ax).sameCount
    | stall ax => exact disowned.trans (keeps_stallStep _ ax).sameCount
    | scheduleDueRun => exact disowned.trans (sameCount_runDue _)
  · exact .refl s

theorem sameCount_stepPool (s : State) (found : BoundaryFound) : SameCount s (s.stepPool found) := by
  have early := (keeps_oweSteps s found.given).sameCount.trans
    (sameCount_foldl (fun t e => sameCount_carryEarly t e) found.early _)
  unfold State.stepPool; dsimp only
  split
  · exact early.trans (keeps_takeSteps _).sameCount
  · exact early

/-! ## The boundary -/

theorem settleOwed_of_owed_nil {s : State} (none : s.owed = []) : s.settleOwed = s := by
  simp [State.settleOwed, none]

/-- What PERIOD_BOUNDARY answers where nothing is owed when it comes (R25). -/
theorem exec_periodBoundary {keys : BitVec 8} {found : BoundaryFound} {s : State} (out : s.inReset = false) (none : s.owed = []) :
    exec (.periodBoundary keys found) s = .next ((s.openPeriod.countPeriod keys found.estopRead).stepPool found).finish := by
  rw [exec, execPeriodBoundary, settleOwed_of_owed_nil none]
  exact event_of_due out rfl _

theorem sameCount_boundary (keys : BitVec 8) (found : BoundaryFound) (s : State) :
    SameCount s.openPeriod ((s.openPeriod.countPeriod keys found.estopRead).stepPool found).finish :=
  ((sameCount_countPeriod _ keys _).trans (sameCount_stepPool _ found)).trans (keeps_finish _).sameCount

theorem lockAfter_of_slew {c : Int} (lock : LockState) (some : c ≠ 0) :
    lockAfter c lock = if slewAfter c = 0 then .locked else .slewing := by
  simp [lockAfter, some]

/-- Settles O17: the boundary opens the period from the slew remainder as it stood, and no count, no event before the pool's
stepping and nothing at the end of the command writes the count of time again. -/
theorem boundaryOpensThePeriod : Obligations.BoundaryOpensThePeriod := by
  unfold Obligations.BoundaryOpensThePeriod
  intro keys found s out none
  have same := sameCount_boundary keys found s
  refine ⟨_, exec_periodBoundary out none, same.p, ?_, fun ahead => ?_, fun behind => ?_, fun level => ?_⟩
  · rw [State.phi, same.elapsed]; rfl
  · have after : slewAfter s.time.slew = s.time.slew - 1 := if_pos ahead
    refine ⟨same.periodLength.trans (if_pos ahead), same.slew.trans after, ?_⟩
    refine (same.lock.trans (lockAfter_of_slew _ (by omega))).trans ?_
    rw [after]
    exact if_congr (by omega) rfl rfl
  · have notAhead : ¬0 < s.time.slew := by omega
    have after : slewAfter s.time.slew = s.time.slew + 1 := by simp [slewAfter, notAhead, behind]
    refine ⟨same.periodLength.trans (by simp [State.openPeriod, periodFor, notAhead, behind]), same.slew.trans after, ?_⟩
    refine (same.lock.trans (lockAfter_of_slew _ (by omega))).trans ?_
    rw [after]
    exact if_congr (by omega) rfl rfl
  · refine ⟨same.periodLength.trans ?_, same.slew.trans ?_, same.lock.trans ?_⟩ <;>
      simp [State.openPeriod, periodFor, slewAfter, lockAfter, level]

end Sys2Proof.Machine
end


section
/-! PROOFS. The due entries of the schedule list, and a LEVEL SET that acts at once. -/

namespace Sys2Proof.Machine

/-- What makes a state calm is neither in the light channels nor in the Ramp Pool. -/
theorem Relit.calm {s t : State} (h : Relit s t) (calm : s.calm = true) : t.calm = true := by
  obtain ⟨_, _, rfl⟩ := h; exact calm

theorem relit_runLevelSet_now (s : State) (addressing : Addressing) (channel : Option (Fin 24)) (level : Nat) :
    Relit s (s.runLevelSet addressing channel level 0) := (relit_changeLevels_now s _).trans (relit_markScene _ _ _)

/-- A LEVEL SET without a fade time gives each channel that it names, of those its addressing selects, the level at once, ends
its fade and leaves its scene (R81, R87). -/
theorem runLevelSet_now_channel (s : State) (addressing : Addressing) (channel : Option (Fin 24)) (level : Nat) (i : Fin 24) :
    (s.runLevelSet addressing channel level 0).light.channels[i] =
      if s.selects addressing i = true ∧ (channel = none ∨ channel = some i) then
        { s.light.channels[i] with level := level, fade := none, lastScene := none }
      else s.light.channels[i] := by
  rw [State.runLevelSet, markScene_channel, changeLevels_now_channel]
  by_cases named : s.selects addressing i = true ∧ (channel = none ∨ channel = some i)
  · have aimed : (s.selects addressing i && (channel == none || channel == some i)) = true := by simpa using named
    rw [if_pos named, aimed]; rfl
  · have spared : (s.selects addressing i && (channel == none || channel == some i)) = false := by
      rw [← Bool.not_eq_true]; simpa using named
    rw [if_neg named, spared]; rfl

theorem perform_levelSet {s : State} (addressing : Addressing) (channel : Option (Fin 24)) (level fade : Nat)
    (available : s.lightingHeld = false) :
    s.perform addressing (.levelSet channel level fade) = (.ok, s.runLevelSet addressing channel level fade) := by
  simp [State.perform, State.admits, admission, available, State.act]

/-- An entry that was addressed to a group has no deferred OUTCOME (R42, R73). -/
theorem deferred_of_group {e : Entry} {g : Nat} (group : e.addressing = .group g) (s : State) (c : Code) :
    s.deferred e c = s := by
  unfold State.deferred; rw [group]; split
  · next h => cases h
  · rfl

/-- A calm state whose lights alone an entry changes is calm after the entry. -/
theorem runEntry_of_group_levelSet {s : State} {e : Entry} {g : Nat} {channel : Option (Fin 24)} {level : Nat}
    (calm : s.calm = true) (group : e.addressing = .group g) (request : e.request = .levelSet channel level 0)
    (available : s.lightingHeld = false) : s.runEntry e = s.runLevelSet (.group g) channel level 0 := by
  have still := (relit_runLevelSet_now s (.group g) channel level).calm calm
  rw [State.runEntry, request, group, perform_levelSet _ _ _ _ available]
  simp only [deferred_of_group group, settled_of_calm still]

/-- Settles O25: the entries run in a state that has already lost them, and none writes the Time Base again; a LEVEL SET without
a fade time changes the lights alone, so nothing follows from it. -/
theorem dueEntriesRunAndLeave : Obligations.DueEntriesRunAndLeave := by
  unfold Obligations.DueEntriesRunAndLeave
  intro s owed
  have due : s.owed.contains .scheduleDueRun = true := by simpa using owed
  refine ⟨fun out => ⟨_, event_of_due out due _, ?_, ?_⟩, fun e g channel level awake one group request available => ?_⟩
  · exact ((bears_runDue (s.disown .scheduleDueRun)).toKeeps.trans (keeps_finish _)).cmd
  · exact ((bears_runDue (s.disown .scheduleDueRun)).toKeeps.trans (keeps_finish _)).time
  · have effect : (s.disown .scheduleDueRun).runDue =
        (((s.disown .scheduleDueRun).setTime { s.time with
          schedule := s.time.schedule.filter fun e => e.due != s.time.p }).runEntry e) := by
      simp [State.runDue, one]
    generalize left : (s.disown .scheduleDueRun).setTime { s.time with
      schedule := s.time.schedule.filter fun e => e.due != s.time.p } = u at effect
    have calm : u.calm = true := by rw [← left]; exact (calm_of_awake awake : s.calm = true)
    have ran : (s.disown .scheduleDueRun).runDue = u.runLevelSet (.group g) channel level 0 :=
      effect.trans (runEntry_of_group_levelSet calm group request (by rw [← left]; exact available))
    have relit := relit_runLevelSet_now u (.group g) channel level
    refine ⟨_, event_of_due (running_of_awake awake) due _, ?_⟩
    rw [ran, finish_of_calm (relit.calm calm)]
    refine ⟨?_, ?_, fun i => ?_⟩
    · rw [publish_line, relit.line, ← left]; rfl
    · rw [publish_motion, relit.motion, ← left]; rfl
    · rw [publish_channels, runLevelSet_now_channel, ← left]; rfl

end Sys2Proof.Machine
end


section
/-! PROOFS. A beacon that is taken: the arrival map, the beacon engine, the reference, the slew, and a hard realign with the
entries that it passes or pushes out of reach. -/

namespace Sys2Proof.Machine

/-! ## The arrival map -/

/-- Bin `i` of the arrival map covers ten values of Δ (R36). -/
theorem markArrival_getLsbD (map : BitVec 16) (d : Int) (i : Fin 16) : (markArrival map (some d)).getLsbD i =
    (map.getLsbD i || decide (-80 + 10 * (i.val : Int) ≤ d ∧ d ≤ -71 + 10 * (i.val : Int))) := by
  have low := i.isLt
  rw [markArrival]
  split
  · next inside =>
    have single : (1#16 <<< ((d + 80) / 10).toNat).getLsbD i =
        decide (-80 + 10 * (i.val : Int) ≤ d ∧ d ≤ -71 + 10 * (i.val : Int)) := by
      rw [BitVec.getLsbD_shiftLeft, BitVec.getLsbD_one, Bool.eq_iff_iff]
      simp only [Bool.and_eq_true, decide_eq_true_eq, Bool.not_eq_true', decide_eq_false_iff_not]
      omega
    rw [BitVec.getLsbD_or, single]
  · next outside =>
    have none : decide (-80 + 10 * (i.val : Int) ≤ d ∧ d ≤ -71 + 10 * (i.val : Int)) = false := by
      rw [decide_eq_false_iff_not]; omega
    rw [none, Bool.or_false]

/-! ## The beacon engine -/

/-- A lower beacon makes a station that may send beacons STANDBY, and writes nothing else of the Time Base (R28, R29). -/
theorem deferTo_time (s : State) (a : Nat) : (s.deferTo a).time =
    if s.isLower a = true ∧ s.time.engine ≠ .listener then { s.time with engine := .standby, silenceTimer := 25 }
    else s.time := by
  unfold State.deferTo
  cases s.isLower a
  · simp
  · cases engine : s.time.engine <;> simp

theorem keeps_deferTo (s : State) (a : Nat) : (s.deferTo a).cmd = s.cmd ∧ (s.deferTo a).safety = s.safety ∧
    (s.deferTo a).loader = s.loader := by
  unfold State.deferTo
  split
  · split <;> exact ⟨rfl, rfl, rfl⟩
  · exact ⟨rfl, rfl, rfl⟩

/-! ## An entry that a hard realign treats -/

/-- The alarm that an entry treated after a hard realign reports (R43). -/
def Entry.realignAlarm (e : Entry) (p : BitVec 16) : Alarm :=
  if e.distance p = 0 ∨ 32768 ≤ e.distance p then .lateRun else .scheduleLost

theorem raise_alarmSet (s : State) (a b : Alarm) : (s.raise a).alarmSet b = s.alarmSet b := by
  rw [State.alarmSet, raise_safety]; rfl

theorem Keeps.station {s t : State} (h : Keeps s t) : t.station = s.station := by rw [State.station, h.loader]; rfl

/-- The entry's alarm is reported and then only more reports join, until all of them are taken; then it is answered. -/
theorem realignEntry_eq (s : State) (e : Entry) : ∃ t code, Prompted (s.raise (e.realignAlarm s.time.p)) t ∧
    s.realignEntry e = (t.settled.deferred e code).settled := by
  unfold State.realignEntry Entry.realignAlarm; dsimp only
  split
  · exact ⟨_, _, prompted_perform _ _ _, rfl⟩
  · exact ⟨_, _, .refl _, rfl⟩

theorem bears_realignEntry (s : State) (e : Entry) : Bears s (s.realignEntry e) := by
  obtain ⟨t, code, prompted, answer⟩ := realignEntry_eq s e
  have answered := bears_answered t e code
  rw [answer]
  refine ⟨((keeps_raise s _).trans prompted.keeps).trans answered.toKeeps, fun a set => answered.alarms a ?_, fun _ =>
    settled_raised _⟩
  rw [prompted.prompts.alarmSet, raise_alarmSet]; exact set

/-- The alarm that an entry reports stands set once the entry is treated. -/
theorem realignEntry_alarm {s : State} (e : Entry) (station : s.station ≠ .loading) (none : s.safety.raised = []) :
    (s.realignEntry e).alarmSet (e.realignAlarm s.time.p) = true := by
  obtain ⟨t, code, prompted, answer⟩ := realignEntry_eq s e
  have kept : t.station = s.station := ((keeps_raise s _).trans prompted.keeps).station
  have few : t.weight ≤ 50 := by
    have := prompted.prompts.weight
    have := weight_raise s (e.realignAlarm s.time.p)
    have := weight_of_none none
    omega
  have set := alarmSet_settled (by rw [kept]; exact station) (prompted.prompts.keeps _ (mem_raise s _)) few
  rw [answer]
  exact (((trails_deferred t.settled e code).trans (trails_settled _)).alarms _ set)

/-- Of the entries treated one after another each has its alarm set. -/
theorem realignEntries_alarm {l : List Entry} {e : Entry} (treated : e ∈ l) {s : State} (station : s.station ≠ .loading)
    (none : s.safety.raised = []) : (l.foldl State.realignEntry s).alarmSet (e.realignAlarm s.time.p) = true := by
  induction l generalizing s with
  | nil => cases treated
  | cons x l ih =>
    have first := bears_realignEntry s x
    rcases List.mem_cons.1 treated with rfl | later
    · exact (bears_foldl bears_realignEntry l _).alarms _ (realignEntry_alarm e station none)
    · have rest := ih later (s := s.realignEntry x) (by rw [first.toKeeps.station]; exact station) (first.raised none)
      rw [first.time] at rest; exact rest

/-! ## A hard realign -/

/-- The Time Base after a hard realign (R35, R43). -/
def TimeBase.realigned (x : TimeBase) (pb : BitVec 16) (total : Nat) : TimeBase :=
  let p := pb + BitVec.ofNat 16 (total / 1000)
  { x with
    p := p, elapsed := total % 1000, periodLength := 1000, slew := 0, lock := .locked,
    schedule := x.schedule.filter fun e => 1 ≤ e.distance p && e.distance p ≤ 255 }

theorem filter_stays (l : List Entry) (p : BitVec 16) :
    (l.filter fun e => decide (1 ≤ e.distance p ∧ e.distance p ≤ 255)) =
      l.filter fun e => 1 ≤ e.distance p && e.distance p ≤ 255 :=
  List.filter_congr fun e _ => by simp

/-- What a hard realign leaves. -/
structure HardRealigned (s t : State) (pb : BitVec 16) (total : Nat) : Prop where
  time : t.time = s.time.realigned pb total
  cmd : t.cmd = s.cmd
  realigned : s.station ≠ .loading → s.safety.raised = [] → t.alarmSet .realigned = true
  treated : s.station ≠ .loading → ∀ e ∈ s.time.schedule,
    ¬(1 ≤ e.distance t.time.p ∧ e.distance t.time.p ≤ 255) → t.alarmSet (e.realignAlarm t.time.p) = true

theorem hardRealigned (s : State) (pb : BitVec 16) (phib age : Nat) :
    HardRealigned s (s.hardRealign pb phib age) pb (phib + age) := by
  unfold State.hardRealign; dsimp only
  generalize counted : s.setTime { s.time with
    p := pb + BitVec.ofNat 16 ((phib + age) / 1000), elapsed := (phib + age) % 1000, periodLength := 1000, slew := 0,
    lock := .locked } = u
  have timeU : u.time = { s.time with
    p := pb + BitVec.ofNat 16 ((phib + age) / 1000), elapsed := (phib + age) % 1000, periodLength := 1000, slew := 0,
    lock := .locked } := by rw [← counted]; rfl
  have cmdU : u.cmd = s.cmd := by rw [← counted]; rfl
  have raisedU : u.safety.raised = s.safety.raised := by rw [← counted]; rfl
  have stationU : u.station = s.station := by rw [← counted]; rfl
  have reported : Keeps u (u.raise .realigned).settled := (keeps_raise u _).trans (keeps_settled _)
  have timeV := reported.time
  have stationV := reported.station
  have cmdV := reported.cmd
  have raisedV := settled_raised (u.raise .realigned)
  have setV (station : s.station ≠ .loading) (none : s.safety.raised = []) :
      (u.raise .realigned).settled.alarmSet .realigned = true := by
    refine alarmSet_settled ?_ (mem_raise u _) ?_
    · rw [(keeps_raise u _).station, stationU]; exact station
    · have := weight_raise u .realigned
      have := weight_of_none (raisedU.trans none)
      omega
  generalize (u.raise .realigned).settled = v at *
  unfold State.realignSchedule; dsimp only
  generalize left : v.setTime { v.time with
    schedule := v.time.schedule.filter fun e => decide (1 ≤ e.distance v.time.p ∧ e.distance v.time.p ≤ 255) } = w
  have timeW : w.time = { v.time with
    schedule := v.time.schedule.filter fun e => decide (1 ≤ e.distance v.time.p ∧ e.distance v.time.p ≤ 255) } := by
    rw [← left]; rfl
  have bears := bears_foldl bears_realignEntry
    (v.time.schedule.filter fun e => !decide (1 ≤ e.distance v.time.p ∧ e.distance v.time.p ≤ 255)) w
  have sameP : w.time.p = v.time.p := by rw [timeW]
  refine ⟨?_, ?_, fun station none => bears.alarms _ ?_, fun station e scheduled passed => ?_⟩
  · rw [bears.time, timeW, timeV, timeU, TimeBase.realigned, filter_stays]
  · rw [bears.cmd, ← left]; exact cmdV.trans cmdU
  · rw [← left]; exact setV station none
  · rw [bears.time, sameP] at passed
    rw [bears.time]
    refine realignEntries_alarm (List.mem_filter.2 ⟨?_, by rw [decide_eq_false passed]; rfl⟩) ?_ ?_
    · rw [timeV, timeU]; exact scheduled
    · rw [← left]; exact fun loading => station (stationU.symm.trans (stationV.symm.trans loading))
    · rw [← left]; exact raisedV

/-! ## The alignment -/

/-- Δ within the slew range (R34). -/
theorem align_of_near {s : State} {pb : BitVec 16} {phib : Nat} {latch : Latch} {d : Int} (near : d.natAbs ≤ 50) :
    s.align pb phib latch (some d) = s.setTime { s.time with
      lastDelta := .value d, slew := if d.natAbs ≤ 2 then 0 else d,
      lock := if d.natAbs ≤ 2 then .locked else .slewing } := by
  unfold State.align; dsimp only
  split
  · rfl
  · rfl

/-- Δ beyond it, or a gross beacon (R35). -/
theorem align_of_far {s : State} {pb : BitVec 16} {phib : Nat} {latch : Latch} {delta : Option Int}
    (far : ∀ d, delta = some d → 50 < d.natAbs) :
    s.align pb phib latch delta =
      (s.setTime { s.time with lastDelta := recordedDelta delta }).hardRealign pb phib latch.age := by
  unfold State.align; dsimp only
  split
  · next d =>
    have := far d rfl
    rw [if_neg (by omega), if_neg (by omega)]
  · rfl

end Sys2Proof.Machine
end


section
/-! PROOFS. BEACON_RECEIVE, assembled from what taking a beacon makes of the Time Base. -/

namespace Sys2Proof.Machine

/-! ## Before the alignment -/

/-- The map has the beacon, and the engine has deferred to a lower one (R36, R28, R29). -/
def State.noted (s : State) (a : Nat) (delta : Option Int) : State :=
  (s.setTime { s.time with arrivals := markArrival s.time.arrivals delta }).deferTo a

/-- A lower beacon turns the station to STANDBY. -/
def State.defers (s : State) (a : Nat) : Bool := s.isLower a && s.time.engine != .listener

theorem noted_time (s : State) (a : Nat) (delta : Option Int) : (s.noted a delta).time = { s.time with
    arrivals := markArrival s.time.arrivals delta,
    engine := if s.defers a then .standby else s.time.engine,
    silenceTimer := if s.defers a then 25 else s.time.silenceTimer } := by
  rw [State.noted, deferTo_time]
  have lower : (s.setTime { s.time with arrivals := markArrival s.time.arrivals delta }).isLower a = s.isLower a := rfl
  by_cases defers : s.isLower a = true ∧ s.time.engine ≠ .listener
  · rw [if_pos (by simpa [lower] using defers)]; simp [State.defers, defers]
  · rw [if_neg (by simpa [lower] using defers)]
    have stands : s.defers a = false := by rw [← Bool.not_eq_true]; simpa [State.defers] using defers
    simp [stands]

theorem noted_kept (s : State) (a : Nat) (delta : Option Int) : (s.noted a delta).cmd = s.cmd ∧
    (s.noted a delta).safety = s.safety ∧ (s.noted a delta).loader = s.loader := keeps_deferTo _ a

/-- The noted beacon is the reference, at age 0 (R31). -/
def State.referred (s : State) (a : Nat) (delta : Option Int) : State :=
  (s.noted a delta).setTime { (s.noted a delta).time with reference := some a, referenceAge := 0 }

theorem takeBeacon_eq (s : State) (a : Nat) (pb : BitVec 16) (phib : Nat) (latch : Latch) :
    s.takeBeacon a pb phib latch = if s.alignsTo a
      then (s.referred a (beaconDelta latch pb (min phib 999))).align pb (min phib 999) latch
        (beaconDelta latch pb (min phib 999))
      else s.noted a (beaconDelta latch pb (min phib 999)) := rfl

/-! ## What every beacon does -/

/-- What a taken beacon leaves, used for alignment or not. -/
structure BeaconNoted (s t : State) (a : Nat) (delta : Option Int) : Prop where
  arrivals : t.time.arrivals = markArrival s.time.arrivals delta
  engine : t.time.engine = if s.defers a then .standby else s.time.engine
  silenceTimer : t.time.silenceTimer = if s.defers a then 25 else s.time.silenceTimer
  cmd : t.cmd = s.cmd

theorem beaconNoted_of_time {s t : State} {a : Nat} {delta : Option Int} {x : TimeBase} (time : t.time = x)
    (arrivals : x.arrivals = (s.noted a delta).time.arrivals) (engine : x.engine = (s.noted a delta).time.engine)
    (silenceTimer : x.silenceTimer = (s.noted a delta).time.silenceTimer) (cmd : t.cmd = s.cmd) :
    BeaconNoted s t a delta where
  arrivals := by rw [time, arrivals, noted_time]
  engine := by rw [time, engine, noted_time]
  silenceTimer := by rw [time, silenceTimer, noted_time]
  cmd := cmd

section
variable {s : State} {a : Nat} {pb : BitVec 16} {phib : Nat} {latch : Latch} {delta : Option Int}

theorem noted_of_align (far : ∀ d, delta = some d → 50 < d.natAbs) : BeaconNoted s
    ((s.referred a delta).align pb phib latch delta) a delta := by
  rw [align_of_far far]
  have hard := hardRealigned ((s.referred a delta).setTime { (s.referred a delta).time with
    lastDelta := recordedDelta delta }) pb phib latch.age
  exact beaconNoted_of_time hard.time rfl rfl rfl (hard.cmd.trans (noted_kept s a delta).1)

theorem beaconNoted_takeBeacon (s : State) (a : Nat) (pb : BitVec 16) (phib : Nat) (latch : Latch) :
    BeaconNoted s (s.takeBeacon a pb phib latch) a (beaconDelta latch pb (min phib 999)) := by
  rw [takeBeacon_eq]
  generalize beaconDelta latch pb (min phib 999) = delta
  split
  · by_cases far : ∀ d, delta = some d → 50 < d.natAbs
    · exact noted_of_align far
    · obtain ⟨d, rfl, near⟩ : ∃ d, delta = some d ∧ d.natAbs ≤ 50 := by
        simp only [not_forall, not_lt] at far
        obtain ⟨d, eq, near⟩ := far
        exact ⟨d, eq, near⟩
      rw [align_of_near near]
      exact beaconNoted_of_time (State.setTime_time _ _) rfl rfl rfl (noted_kept s a _).1
  · exact beaconNoted_of_time rfl rfl rfl rfl (noted_kept s a _).1

end

/-! ## What an aligning beacon does -/

theorem entry_realignAlarm_of_passed {e : Entry} {p : BitVec 16} (h : e.distance p = 0 ∨ 32768 ≤ e.distance p) :
    e.realignAlarm p = .lateRun := if_pos h

theorem entry_realignAlarm_of_out {e : Entry} {p : BitVec 16} (low : 256 ≤ e.distance p) (high : e.distance p < 32768) :
    e.realignAlarm p = .scheduleLost := if_neg (by omega)

theorem finish_alarmSet {s : State} {a : Alarm} (set : s.alarmSet a = true) : s.finish.alarmSet a = true :=
  (trails_finish s).alarms _ set

/-- What a hard realign makes of the station that answers (R35, R43). -/
structure Realigned (s t : State) (pb : BitVec 16) (total : Nat) : Prop where
  p : t.time.p = pb + BitVec.ofNat 16 (total / 1000)
  elapsed : t.time.elapsed = total % 1000
  periodLength : t.time.periodLength = 1000
  slew : t.time.slew = 0
  lock : t.time.lock = .locked
  schedule : t.time.schedule = s.time.schedule.filter fun e => 1 ≤ e.distance t.time.p && e.distance t.time.p ≤ 255
  alarms : s.awake = true → s.station ≠ .loading → t.alarmSet .realigned = true ∧ ∀ e ∈ s.time.schedule,
    ¬(1 ≤ e.distance t.time.p ∧ e.distance t.time.p ≤ 255) → t.alarmSet (e.realignAlarm t.time.p) = true

/-- A beacon that is used and far off realigns the count hard (R35). -/
theorem realigned_of_far {s : State} {a : Nat} {pb : BitVec 16} {phib : Nat} {latch : Latch} {delta : Option Int}
    (far : ∀ d, delta = some d → 50 < d.natAbs) :
    Realigned s ((s.referred a delta).align pb phib latch delta).finish pb (phib + latch.age) ∧
    ((s.referred a delta).align pb phib latch delta).time.reference = some a ∧
    ((s.referred a delta).align pb phib latch delta).time.referenceAge = 0 ∧
    ((s.referred a delta).align pb phib latch delta).time.lastDelta = recordedDelta delta := by
  rw [align_of_far far]
  generalize recorded : (s.referred a delta).setTime { (s.referred a delta).time with lastDelta := recordedDelta delta } = u
  have timeU : u.time = { (s.noted a delta).time with
    reference := some a, referenceAge := 0, lastDelta := recordedDelta delta } := by rw [← recorded]; rfl
  have scheduleU : u.time.schedule = s.time.schedule := by rw [timeU, noted_time]
  obtain ⟨-, safety, loader⟩ := noted_kept s a delta
  have raisedU : u.safety.raised = s.safety.raised := by rw [← recorded, ← safety]; rfl
  have stationU : u.station = s.station := by rw [← recorded, State.station, State.station, ← loader]; rfl
  have hard := hardRealigned u pb phib latch.age
  generalize u.hardRealign pb phib latch.age = v at *
  have timeV : v.time = u.time.realigned pb (phib + latch.age) := hard.time
  refine ⟨⟨?_, ?_, ?_, ?_, ?_, ?_, fun awake station => ⟨?_, fun e scheduled passed => ?_⟩⟩, ?_⟩
  · rw [finish_time, timeV]; rfl
  · rw [finish_time, timeV]; rfl
  · rw [finish_time, timeV]; rfl
  · rw [finish_time, timeV]; rfl
  · rw [finish_time, timeV]; rfl
  · rw [finish_time, timeV, ← scheduleU]; rfl
  · exact finish_alarmSet (hard.realigned (by rw [stationU]; exact station)
      (raisedU.trans ((calm_iff s).1 (calm_of_awake awake)).1))
  · rw [finish_time] at passed ⊢
    exact finish_alarmSet (hard.treated (by rw [stationU]; exact station) e (by rw [scheduleU]; exact scheduled) passed)
  · rw [timeV, timeU]; exact ⟨rfl, rfl, rfl⟩

/-- Settles O38: what every beacon notes, then the three ways of an alignment: none, within the slew range, and a hard realign. -/
theorem beaconAlignsTheCount : Obligations.BeaconAlignsTheCount := by
  unfold Obligations.BeaconAlignsTheCount
  intro s a pb phib latch owed out
  have due : s.owed.any isBeacon = true := by
    rw [List.any_eq_true]
    exact ⟨_, List.mem_of_find?_eq_some owed, rfl⟩
  have taken : s.takeOwed isBeacon beaconStep = (s.disown (.beacon a pb phib latch)).takeBeacon a pb phib latch := by
    simp [State.takeOwed, owed, beaconStep]
  generalize disowned : s.disown (.beacon a pb phib latch) = w at taken
  have timeW : w.time = s.time := by rw [← disowned]; rfl
  have lowerW : w.isLower a = s.isLower a := by rw [← disowned]; rfl
  have alignsW : w.alignsTo a = s.alignsTo a := by rw [← disowned]; rfl
  have awakeW : w.awake = s.awake := by
    rw [← disowned]; exact awake_congr rfl rfl rfl rfl rfl rfl rfl rfl rfl rfl rfl rfl rfl
  have stationW : w.station = s.station := by rw [← disowned]; rfl
  have cmdW : w.cmd = s.cmd := by rw [← disowned]; rfl
  have noted := beaconNoted_takeBeacon w a pb phib latch
  have effect := takeBeacon_eq w a pb phib latch
  refine ⟨_, event_of_due out due _, ?_⟩
  rw [taken, finish_time]
  generalize beaconDelta latch pb (min phib 999) = delta at *
  refine ⟨fun d some i => ?_, fun none => ?_, ?_, fun capable lower => ?_, fun stands => ?_, fun unused => ?_, fun used => ?_⟩
  · rw [noted.arrivals, some, markArrival_getLsbD, timeW]
  · rw [noted.arrivals, none, markArrival, timeW]
  · rw [(keeps_finish _).cmd, noted.cmd, cmdW]
  · have defers : w.defers a = true := by simp [State.defers, lowerW, timeW, lower, capable]
    rw [noted.engine, noted.silenceTimer, defers]; exact ⟨rfl, rfl⟩
  · have keeps : w.defers a = false := by
      rw [← Bool.not_eq_true]
      simp only [State.defers, lowerW, timeW, Bool.and_eq_true, bne_iff_ne]
      rintro ⟨lower, capable⟩
      exact stands.elim capable fun higher => by rw [higher] at lower; cases lower
    rw [noted.engine, noted.silenceTimer, keeps, timeW]; exact ⟨rfl, rfl⟩
  · rw [effect, alignsW, unused, if_neg (by simp), noted_time, timeW]
    exact ⟨rfl, rfl, rfl, rfl, rfl, rfl, rfl⟩
  · rw [effect, alignsW, used, if_pos rfl]
    by_cases far : ∀ d, delta = some d → 50 < d.natAbs
    · obtain ⟨hard, reference, age, recorded⟩ := realigned_of_far (s := w) (a := a) (pb := pb) (phib := min phib 999)
        (latch := latch) far
      refine ⟨reference, age, fun d some => ⟨by rw [recorded, some]; rfl, fun near => ?_, fun near => ?_, fun _ near => ?_⟩,
        fun none => by rw [recorded, none]; rfl, fun _ => ?_⟩
      · have := far d some; omega
      · have := far d some; omega
      · have := far d some; omega
      · have alarms := hard.alarms
        rw [awakeW, stationW, timeW] at alarms
        rw [← finish_time]
        refine ⟨hard.p, hard.elapsed, hard.periodLength, hard.slew, hard.lock, ?_, fun awake station => ?_⟩
        · rw [← timeW]; exact hard.schedule
        · obtain ⟨realigned, treated⟩ := alarms awake station
          refine ⟨realigned, fun e scheduled => ⟨fun passed => ?_, fun low high => ?_⟩⟩
          · rw [← entry_realignAlarm_of_passed passed]; exact treated e scheduled (by omega)
          · rw [← entry_realignAlarm_of_out low high]; exact treated e scheduled (by omega)
    · obtain ⟨d, rfl, near⟩ : ∃ d, delta = some d ∧ d.natAbs ≤ 50 := by
        simp only [not_forall, not_lt] at far
        obtain ⟨d, eq, near⟩ := far
        exact ⟨d, eq, near⟩
      have time : ((w.referred a (some d)).align pb (min phib 999) latch (some d)).time = { (w.noted a (some d)).time with
          reference := some a, referenceAge := 0, lastDelta := .value d, slew := if d.natAbs ≤ 2 then 0 else d,
          lock := if d.natAbs ≤ 2 then .locked else .slewing } := by rw [align_of_near near]; rfl
      rw [time, noted_time, timeW]
      refine ⟨rfl, rfl, fun x some => ?_, fun none => (by cases none), fun far => ?_⟩
      · obtain rfl : d = x := by simpa using some
        exact ⟨rfl, fun _ => rfl, fun locked => ⟨if_pos locked, if_pos locked, rfl, rfl⟩,
          fun slewing _ => ⟨if_neg (by omega), if_neg (by omega), rfl, rfl⟩⟩
      · rcases far with none | ⟨x, some, far⟩
        · cases none
        · obtain rfl : d = x := by simpa using some
          omega

end Sys2Proof.Machine
end


section
/-! PROOFS. The READ requests: what each answers follows from its argument and the part it names. -/

namespace Sys2Proof.Machine

/-! ## A request from a peer -/

/-- A frame joined to the send queue is the whole of what the end of a decode leaves to do. -/
theorem finish_withFrame {s : State} (awake : s.awake = true) (r : Request) (f : SendFrame) :
    ((s.endDecode r).withFrame f).finish = (s.endDecode r).withFrame f :=
  finish_same awake rfl rfl rfl rfl rfl rfl rfl rfl rfl rfl rfl rfl

theorem room_endDecode {s : State} {n : Nat} (room : s.room n = true) (r : Request) : (s.endDecode r).room n = true := room

/-- The OUTCOME of a station-addressed request from a peer (R73). -/
theorem reply_of_room {s : State} {n a : Nat} {r : Request} (room : s.room (n + 1) = true) (source : r.source = .peer a)
    (station : r.addressing = .station) (code : Code) : s.reply r code = s.replied r a code := by
  unfold State.reply; rw [source, station]
  exact offer_of_room room _

/-! ## A READ -/

theorem natAt_part {selector part : Nat} (x : Byte) (selectors : selector < 8) (low : part < 8) :
    natAt [byteOf (16 * selector + part), x] 0 = 16 * selector + part := by
  simp only [natAt, byteAt, List.getD_cons_zero, byteOf, BitVec.toNat_ofNat]; omega

theorem selectorCode_part {selector part : Nat} (x : Byte) (selectors : selector < 8) (low : part < 8) :
    selectorCode [byteOf (16 * selector + part), x] = selector := by
  rw [selectorCode, natAt_part x selectors low]; omega

/-- The payload names a part of its selector. -/
theorem parseRead_of_part {selector parts part : Nat} (x : Byte) (selectors : selector < 8) (few : parts ≤ 8) (inside : part < parts) :
    parseRead selector parts [byteOf (16 * selector + part), x] = .ok (part, x) := by
  have first := natAt_part x selectors (part := part) (by omega)
  have second : byteAt [byteOf (16 * selector + part), x] 1 = x := rfl
  have number : (16 * selector + part) % 8 = part := by omega
  have named := selectorCode_part x selectors (part := part) (by omega)
  simp [parseRead, first, second, number, named, need, inside]
  rfl

section
variable {s : State} {a selector parts part : Nat} {r : Request} {x : Byte} {row : Instr}
  {content : State → Nat → Byte → Except Code (List Byte)}

theorem read_completes (flies : s.flies r) (awake : s.awake = true) (form : r = fromPeer a 3 14 [byteOf (16 * selector + part), x])
    (due : ∀ p, selectorCode p = selector → readRow p = row) (selectors : selector < 8) (few : parts ≤ 8) (inside : part < parts) :
    completing s row (fun r s => stationOnly r (answerRead r selector parts (content s) s) s) =
      .next (match content (s.endDecode r) part x with
        | .error code => (s.endDecode r).reply r code
        | .ok bytes => (s.endDecode r).offer (dataTo a (byteOf (16 * selector + part) :: x :: bytes))).finish := by
  have completion : completionOf r = row := by
    rw [form]; exact due _ (selectorCode_part x selectors (by omega))
  rw [completing_of_flies flies (by rw [completion, beq_self_eq_true]), event_of_due (running_of_awake awake) rfl, stationOnly, if_pos (by rw [form]; rfl)]
  have payload : r.payload = [byteOf (16 * selector + part), x] := by rw [form]; rfl
  have source : r.source = .peer a := by rw [form]; rfl
  rw [answerRead, payload, parseRead_of_part x selectors few inside]
  dsimp only
  rw [source]
  cases content (s.endDecode r) part x <;> rfl

/-- A READ whose part has content answers with its DATA frame (R74). -/
theorem read_data (flies : s.flies r) (awake : s.awake = true) (room : s.room 1 = true)
    (form : r = fromPeer a 3 14 [byteOf (16 * selector + part), x])
    (due : ∀ p, selectorCode p = selector → readRow p = row) (selectors : selector < 8) (few : parts ≤ 8) (inside : part < parts) {bytes : List Byte}
    (answer : content (s.endDecode r) part x = .ok bytes) :
    completing s row (fun r s => stationOnly r (answerRead r selector parts (content s) s) s) =
      .next ((s.endDecode r).withFrame (dataTo a (byteOf (16 * selector + part) :: x :: bytes))) := by
  rw [read_completes flies awake form due selectors few inside, answer]
  dsimp only
  rw [offer_of_room (n := 0) (room_endDecode room r), finish_withFrame awake]

/-- A READ whose argument is refused answers with the refusal (R70, R73). -/
theorem read_refused (flies : s.flies r) (awake : s.awake = true) (room : s.room 1 = true)
    (form : r = fromPeer a 3 14 [byteOf (16 * selector + part), x])
    (due : ∀ p, selectorCode p = selector → readRow p = row) (selectors : selector < 8) (few : parts ≤ 8) (inside : part < parts) {code : Code}
    (answer : content (s.endDecode r) part x = .error code) :
    completing s row (fun r s => stationOnly r (answerRead r selector parts (content s) s) s) =
      .next ((s.endDecode r).replied r a code) := by
  rw [read_completes flies awake form due selectors few inside, answer]
  dsimp only
  rw [reply_of_room (n := 0) (room_endDecode room r) (by rw [form]; rfl) (by rw [form]; rfl), State.replied, finish_withFrame awake]


/-! ## The selectors -/

theorem exec_readAxis (flies : s.flies r) (awake : s.awake = true) (room : s.room 1 = true)
    (form : r = fromPeer a 3 14 [byteOf (16 * 0 + part), x]) (inside : part < 3) {ax : Axis} (present : (s.axisCfg ax).kind ≠ .none)
    (named : x = if ax = .A then 0 else 1) :
    exec .readAxis s = .next ((s.endDecode r).withFrame (dataTo a (byteOf (16 * 0 + part) :: x :: s.axisPart ax part))) := by
  refine read_data (selector := 0) (row := .readAxis) (content := fun s part argument => (s.namedAxis argument).map fun ax => s.axisPart ax part)
    flies awake room form (fun p h => by rw [readRow, h]; rfl) (by omega) (by omega) inside ?_
  have code : axisOf x = some ax := by rw [named]; cases ax <;> rfl
  have axis : (s.endDecode r).namedAxis x = .ok ax := by
    rw [State.namedAxis, code]; exact if_neg present
  rw [axis]; rfl

theorem codeBelow_byteOf {n : Nat} [NeZero n] (few : n ≤ 256) (i : Fin n) : codeBelow n (byteOf i.val).toNat = some i := by
  have same : (byteOf i.val).toNat = i.val := by
    rw [byteOf, BitVec.toNat_ofNat]; exact Nat.mod_eq_of_lt (by have := i.isLt; omega)
  rw [codeBelow, same, if_pos i.isLt]
  exact congrArg some (Fin.ofNat_val_eq_self i)

theorem exec_readSense (flies : s.flies r) (awake : s.awake = true) (room : s.room 1 = true)
    (form : r = fromPeer a 3 14 [byteOf (16 * 1 + part), x]) (inside : part < 2) {c : Fin 4}
    (present : s.cfg.sense[c].enabled = true) (named : x = byteOf c.val) :
    exec .readSense s = .next ((s.endDecode r).withFrame (dataTo a (byteOf (16 * 1 + part) :: x :: s.sensePart c part))) := by
  refine read_data (selector := 1) (row := .readSense) (content := fun s part argument => (s.namedChannel argument).map fun c => s.sensePart c part)
    flies awake room form (fun p h => by rw [readRow, h]; rfl) (by omega) (by omega) inside ?_
  have channel : (s.endDecode r).namedChannel x = .ok c := by
    rw [State.namedChannel, named, codeBelow_byteOf (by omega)]; exact if_pos present
  rw [channel]; rfl

theorem exec_readTime (flies : s.flies r) (awake : s.awake = true) (room : s.room 1 = true)
    (form : r = fromPeer a 3 14 [byteOf (16 * 2 + part), x]) (inside : part < 2) (named : x = 0) :
    exec .readTime s = .next ((s.endDecode r).withFrame (dataTo a (byteOf (16 * 2 + part) :: x :: s.timePart part))) :=
  read_data (selector := 2) (row := .readTime) (content := fun s part argument => noArgument argument (s.timePart part))
    flies awake room form (fun p h => by rw [readRow, h]; rfl) (by omega) (by omega) inside (if_pos named)

theorem exec_readAlarms (flies : s.flies r) (awake : s.awake = true) (room : s.room 1 = true)
    (form : r = fromPeer a 3 14 [byteOf (16 * 3 + part), x]) (inside : part < 5) (named : x = 0) :
    exec .readAlarms s = .next ((s.endDecode r).withFrame (dataTo a (byteOf (16 * 3 + part) :: x :: s.alarmsPart part))) :=
  read_data (selector := 3) (row := .readAlarms) (content := fun s part argument => noArgument argument (s.alarmsPart part))
    flies awake room form (fun p h => by rw [readRow, h]; rfl) (by omega) (by omega) inside (if_pos named)

theorem exec_readLight (flies : s.flies r) (awake : s.awake = true) (room : s.room 1 = true)
    (form : r = fromPeer a 3 14 [byteOf (16 * 4 + part), x]) (inside : part < 5) {i : Fin 24} (named : x = byteOf i.val) :
    exec .readLight s = .next ((s.endDecode r).withFrame (dataTo a (byteOf (16 * 4 + part) :: x :: s.lightPart i part))) := by
  refine read_data (selector := 4) (row := .readLight) (content := fun s part argument => (orBad (codeBelow 24 argument.toNat)).map fun i => s.lightPart i part)
    flies awake room form (fun p h => by rw [readRow, h]; rfl) (by omega) (by omega) inside ?_
  rw [named, codeBelow_byteOf (by omega)]; rfl

theorem exec_readPeer (flies : s.flies r) (awake : s.awake = true) (room : s.room 1 = true)
    (form : r = fromPeer a 3 14 [byteOf (16 * 5 + part), x]) (inside : part < 2) {e : PeerEntry}
    (known : s.peerEntry x.toNat = some e) (low : 1 ≤ x.toNat) (high : x.toNat ≤ 62) :
    exec .readPeer s = .next ((s.endDecode r).withFrame (dataTo a (byteOf (16 * 5 + part) :: x :: e.part part))) := by
  refine read_data (selector := 5) (row := .readPeer) (content := fun s part argument => s.peerPart argument.toNat part)
    flies awake room form (fun p h => by rw [readRow, h]; rfl) (by omega) (by omega) inside ?_
  have found : (s.endDecode r).peerEntry x.toNat = some e := known
  rw [State.peerPart, if_neg (by omega), found]

theorem exec_readPeer_refused (flies : s.flies r) (awake : s.awake = true) (room : s.room 1 = true)
    (form : r = fromPeer a 3 14 [byteOf (16 * 5 + part), x]) (inside : part < 2) {code : Code}
    (refused : s.peerPart x.toNat part = .error code) :
    exec .readPeer s = .next ((s.endDecode r).replied r a code) :=
  read_refused (selector := 5) (row := .readPeer) (content := fun s part argument => s.peerPart argument.toNat part)
    flies awake room form (fun p h => by rw [readRow, h]; rfl) (by omega) (by omega) inside refused

theorem exec_readScene (flies : s.flies r) (awake : s.awake = true) (room : s.room 1 = true)
    (form : r = fromPeer a 3 14 [byteOf (16 * 6 + 0), x]) {k : Fin 8} {i : Fin 24} (named : x = byteOf (32 * k.val + i.val)) :
    exec .readScene s = .next ((s.endDecode r).withFrame (dataTo a (byteOf (16 * 6 + 0) :: x :: s.scenePart k i))) := by
  refine read_data (selector := 6) (row := .readScene) (content := fun s _ argument => (orBad (codeBelow 24 (argument.toNat % 32))).map fun i =>
      s.scenePart (Fin.ofNat 8 (argument.toNat / 32)) i)
    flies awake room form (fun p h => by rw [readRow, h]; rfl) (by omega) (by omega) (by omega) ?_
  have := k.isLt; have := i.isLt
  have number : x.toNat = 32 * k.val + i.val := by
    rw [named, byteOf, BitVec.toNat_ofNat]; omega
  have channel : codeBelow 24 (x.toNat % 32) = some i := by
    have low : x.toNat % 32 = i.val := by omega
    rw [low, codeBelow, if_pos i.isLt]; exact congrArg some (Fin.ofNat_val_eq_self i)
  have scene : Fin.ofNat 8 (x.toNat / 32) = k := by
    have high : x.toNat / 32 = k.val := by omega
    rw [high]; exact Fin.ofNat_val_eq_self k
  rw [channel, scene]; rfl

end

/-! ## The parts -/

/-- No report waits between two commands, so an alarm counts as a hold cause exactly while it is set. -/
theorem holdByte_of_calm {s : State} (calm : s.calm = true) (ax : Axis) : s.holdByte ax =
    byteOf (bit (s.axisSafety ax).held + 2 * bit s.line.allstop + 4 * bit s.line.estop + 8 * bit (0 < s.safety.holdOff) +
      16 * bit (Alarm.all.any fun al => al.within (s.axisCfg ax).holdMask && s.alarmSet al)) := by
  have counts : s.alarmCounts = s.alarmSet := by
    funext al; simp [State.alarmCounts, ((calm_iff s).1 calm).1]
  rw [State.holdByte, State.causes, counts]

section
variable (s : State) (i : Fin 24)

theorem lightPart_level : s.lightPart i 0 =
    byteOf (bit s.light.channels[i].enabled + 2 * bit s.light.master + 4 * bit s.light.override + 8 * bit s.light.night.on +
        16 * bit (s.light.night.inside i.val) + 32 * bit s.light.stepping + 64 * s.peer.shed) ::
      word16 s.light.channels[i].level ++ word16 s.light.outputs[i] ++
      [match s.light.channels[i].lastScene with
        | some scene => byteOf scene.val
        | none => 0xFF] := by
  rw [State.lightPart]
  cases s.light.channels[i].lastScene <;> rfl

theorem lightPart_fade : s.lightPart i 1 = word16 (s.light.logical i) ++
    (match s.light.channels[i].fade with
      | some f => word16 f.start ++ word16 f.goal
      | none => [0, 0, 0, 0]) := by
  rw [State.lightPart]
  cases s.light.channels[i].fade <;> rfl

theorem lightPart_slot : s.lightPart i 2 = (match s.light.channels[i].fade with
    | some f => byteOf f.slot.val :: word16 (match s.pool[f.slot] with
      | some slot => slot.length - slot.elapsed
      | none => 0)
    | none => [0xFF, 0, 0]) ++ word16 s.light.night.cap ++ [byteOf s.light.night.first] := by
  rw [State.lightPart, State.fadeRemaining]
  cases s.light.channels[i].fade with
  | some f => rfl
  | none => simp [orMarker, word16, byteOf]

end

theorem entryPart_state (e : PeerEntry) : e.part 0 =
    byteOf (bit e.content.isSome + 2 * bit e.fresh + 4 * bit e.pinned) ::
      word16 e.age ++ (match e.content with
        | some c => [byteOf c.interval, byteOf c.role.toNat, byteOf (c.group.toNat + 16 * c.demand.toNat)]
        | none => [0xFF, 0xFF, 0xFF]) := by
  unfold PeerEntry.part
  cases e.content with
  | some c => rfl
  | none => simp [bit]

theorem entryPart_content (e : PeerEntry) : e.part 1 = match e.content with
    | some c => [c.flags, c.stateA, c.stateB, c.alarmCount, byteOf (c.lock.toNat + 4 * c.engine.toNat)]
    | none => [0xFF, 0xFF, 0xFF, 0xFF, 0xFF] := by
  unfold PeerEntry.part
  cases e.content <;> rfl

/-- Settles O56: each part's content is the model's own for the selector, read in a state that only the decoder has left. -/
theorem readsAnswerWithTheirParts : Obligations.ReadsAnswerWithTheirParts := by
  unfold Obligations.ReadsAnswerWithTheirParts
  intro s a r part x content flies awake room form
  refine ⟨fun ax present named parts => ?_, fun c present named parts => ?_, fun named parts => ?_, fun named parts => ?_,
    fun i named parts => ?_, fun parts => ⟨fun range => ?_, fun low high unknown => ?_, fun e known low high parts => ?_⟩,
    fun k i named parts => ?_⟩
  · rcases parts with ⟨rfl, rfl⟩ | ⟨rfl, rfl⟩ | ⟨rfl, rfl⟩
    · exact exec_readAxis (part := 0) flies awake room form (by omega) present named
    · exact exec_readAxis (part := 1) flies awake room form (by omega) present named
    · exact exec_readAxis (part := 2) flies awake room form (by omega) present named
  · rcases parts with ⟨rfl, rfl⟩ | ⟨rfl, rfl⟩
    · exact exec_readSense (part := 0) flies awake room form (by omega) present named
    · exact exec_readSense (part := 1) flies awake room form (by omega) present named
  · rcases parts with ⟨rfl, rfl⟩ | ⟨rfl, rfl⟩
    · exact exec_readTime (part := 0) flies awake room form (by omega) named
    · exact exec_readTime (part := 1) flies awake room form (by omega) named
  · rcases parts with ⟨rfl, rfl⟩ | ⟨rfl, rfl⟩ | ⟨rfl, rfl⟩ | ⟨rfl, rfl⟩ | ⟨rfl, rfl⟩
    · exact exec_readAlarms (part := 0) flies awake room form (by omega) named
    · have answer := exec_readAlarms (part := 1) flies awake room form (by omega) named
      have holds := holdByte_of_calm (calm_of_awake awake)
      simp only [State.alarmsPart, holds] at answer
      exact answer
    · exact exec_readAlarms (part := 2) flies awake room form (by omega) named
    · exact exec_readAlarms (part := 3) flies awake room form (by omega) named
    · exact exec_readAlarms (part := 4) flies awake room form (by omega) named
  · have answer {part : Nat} (form : r = fromPeer a 3 14 [byteOf (16 * 4 + part), x]) (inside : part < 5) {content : List Byte}
        (same : content = s.lightPart i part) : exec .readLight s =
          .next ((s.endDecode r).withFrame (dataTo a (byteOf (16 * 4 + part) :: x :: content))) := by
      rw [same]; exact exec_readLight flies awake room form inside named
    rcases parts with ⟨rfl, same⟩ | ⟨rfl, same⟩ | ⟨rfl, same⟩ | ⟨rfl, same⟩ | ⟨rfl, same⟩
    · exact answer (part := 0) form (by omega) (same.trans (lightPart_level s i).symm)
    · exact answer (part := 1) form (by omega) (same.trans (lightPart_fade s i).symm)
    · exact answer (part := 2) form (by omega) (same.trans (lightPart_slot s i).symm)
    · exact answer (part := 3) form (by omega) same
    · exact answer (part := 4) form (by omega) same
  · have refused (part : Nat) : s.peerPart x.toNat part = .error .badParam := if_pos (by omega)
    rcases parts with rfl | rfl
    · exact exec_readPeer_refused (part := 0) flies awake room form (by omega) (refused 0)
    · exact exec_readPeer_refused (part := 1) flies awake room form (by omega) (refused 1)
  · have absent : s.peerEntry x.toNat = none := by
      rw [State.peerEntry, List.find?_eq_none]; simpa using unknown
    have refused (part : Nat) : s.peerPart x.toNat part = .error .absent := by
      rw [State.peerPart, if_neg (by omega), absent]
    rcases parts with rfl | rfl
    · exact exec_readPeer_refused (part := 0) flies awake room form (by omega) (refused 0)
    · exact exec_readPeer_refused (part := 1) flies awake room form (by omega) (refused 1)
  · have answer {part : Nat} (form : r = fromPeer a 3 14 [byteOf (16 * 5 + part), x]) (inside : part < 2) {content : List Byte}
        (same : content = e.part part) : exec .readPeer s =
          .next ((s.endDecode r).withFrame (dataTo a (byteOf (16 * 5 + part) :: x :: content))) := by
      rw [same]; exact exec_readPeer flies awake room form inside known low high
    rcases parts with ⟨rfl, same⟩ | ⟨rfl, same⟩
    · exact answer (part := 0) form (by omega) (same.trans (entryPart_state e).symm)
    · exact answer (part := 1) form (by omega) (same.trans (entryPart_content e).symm)
  · rw [parts] at form ⊢
    exact exec_readScene flies awake room form named

end Sys2Proof.Machine
end


section
/-! PROOFS. Changes of light levels at a decode completion: what they leave of the station, and how a LEVEL SET is given, scheduled
or refused. -/

namespace Sys2Proof.Machine

/-! ## Changes of the lights -/

/-- Of the station only the light channels, the Ramp Pool and what is owed may differ. -/
def Dims (s t : State) : Prop :=
  ∃ channels pool owed, t = { s with light := { s.light with channels := channels }, pool := pool, owed := owed }

theorem Relit.dims {s t : State} (h : Relit s t) : Dims s t := by
  obtain ⟨c, p, rfl⟩ := h; exact ⟨c, p, s.owed, rfl⟩

theorem Dims.trans {s t u : State} (h : Dims s t) (k : Dims t u) : Dims s u := by
  obtain ⟨_, _, _, rfl⟩ := h
  obtain ⟨c, p, o, rfl⟩ := k
  exact ⟨c, p, o, rfl⟩

theorem Dims.calm {s t : State} (h : Dims s t) (calm : s.calm = true) : t.calm = true := by
  obtain ⟨_, _, _, rfl⟩ := h; exact calm

theorem Dims.line {s t : State} (h : Dims s t) : t.line = s.line := by obtain ⟨_, _, _, rfl⟩ := h; rfl

theorem Dims.outcomeFrame {s t : State} (h : Dims s t) (dest cls kind : Nat) (named : Option Axis) (code : Code) (deferred : Bool) :
    t.outcomeFrame dest cls kind named code deferred = s.outcomeFrame dest cls kind named code deferred := by
  obtain ⟨_, _, _, rfl⟩ := h; rfl

theorem Dims.room {s t : State} (h : Dims s t) (n : Nat) : t.room n = s.room n := by obtain ⟨_, _, _, rfl⟩ := h; rfl

/-- The effective shed level of a state between two commands stands while nothing that it follows from changes (R57). -/
theorem shed_of_awake {s : State} (awake : s.awake = true) : s.peer.shed = s.shedNow := by
  have quiet := quiet_of_awake awake
  simp only [State.quiet, Bool.and_eq_true] at quiet
  exact ((published_iff s).1 quiet.2).1

/-- What a decode leaves that changes lights alone and joins one frame to the send queue. -/
structure Given (s u t : State) (f : SendFrame) : Prop where
  line : t.line = (s.withFrame f).line
  same : s.sameBesideLights t
  channels : t.light.channels = u.light.channels
  pool : t.pool = u.pool

theorem given_finish {s u : State} {r : Request} {f : SendFrame} (awake : s.awake = true)
    (dims : Dims ((s.endDecode r).withFrame f) u) : Given s u u.finish f := by
  have calm : u.calm = true := dims.calm (s := (s.endDecode r).withFrame f) (calm_of_awake awake : s.calm = true)
  have shed := shed_of_awake awake
  rw [finish_of_calm calm]
  obtain ⟨c, p, o, rfl⟩ := dims
  refine ⟨rfl, ⟨rfl, rfl, rfl, rfl, rfl, rfl, rfl, rfl, ?_, rfl⟩, rfl, rfl⟩
  show { s.peer with shed := s.shedNow } = s.peer
  rw [← shed]

theorem Dims.withFrame {s t : State} (h : Dims s t) (f : SendFrame) : Dims (s.withFrame f) (t.withFrame f) := by
  obtain ⟨c, p, o, rfl⟩ := h; exact ⟨c, p, o, rfl⟩

/-- A request from a peer whose effect changes lights alone is answered, and nothing else follows. -/
theorem given_reply {s u : State} {r : Request} {a : Nat} (awake : s.awake = true) (room : s.room 1 = true)
    (source : r.source = .peer a) (station : r.addressing = .station) (dims : Dims (s.endDecode r) u) (code : Code) :
    Given s u (u.settled.reply r code).finish (s.outcomeFrame a r.clsKind.1 r.clsKind.2 r.named code false) := by
  have calm : u.calm = true := dims.calm (s := s.endDecode r) (calm_of_awake awake : s.calm = true)
  have roomU : u.room 1 = true := (dims.room 1).trans room
  rw [settled_of_calm calm, reply_of_room (n := 0) roomU source station, State.replied, dims.outcomeFrame]
  have given := given_finish awake (dims.withFrame (s.outcomeFrame a r.clsKind.1 r.clsKind.2 r.named code false))
  exact ⟨given.line, given.same, given.channels, given.pool⟩

/-! ## The effects -/

theorem dims_giveSlot (s : State) (k : Fin 16) (slot : Slot) : Dims s (s.giveSlot k slot) := ⟨_, _, _, rfl⟩
theorem dims_joinSlot (s : State) (aims : Fin 24 → Option Nat) (k : Fin 16) : Dims s (s.joinSlot aims k) := ⟨_, _, _, rfl⟩

/-- A channel without a fade leaves no slot (R107). -/
theorem leaveFades_pool_of_fadeless {s : State} {sel : Fin 24 → Bool}
    (fadeless : ∀ i : Fin 24, sel i = true → (s.light.channels[i]).fade = none) : (s.leaveFades sel).pool = s.pool := by
  have none (k : Fin 16) : s.leaving sel k = 0 := by
    rw [State.leaving, List.length_eq_zero_iff, List.filter_eq_nil_iff]
    intro i _ member
    rw [Bool.and_eq_true] at member
    have := member.2
    rw [Channel.inSlot, fadeless i member.1] at this
    cases this
  refine Vector.ext fun k hk => ?_
  have same : (s.leaveFades sel).pool[k] = (s.pool[k]).bind fun slot => slot.without (s.leaving sel ⟨k, hk⟩) := by
    simp [State.leaveFades]
  rw [same, none ⟨k, hk⟩]
  cases s.pool[k] <;> simp [Slot.without]

/-- The goals of a LEVEL SET of one channel. -/
def oneAim (i : Fin 24) (level : Nat) : Fin 24 → Option Nat := fun j => if j = i then some level else none

theorem runLevelSet_station (s : State) (i : Fin 24) (level fade : Nat) : s.runLevelSet .station (some i) level fade =
    (s.changeLevels (oneAim i level) fade).markScene (oneAim i level) none := by
  have aims : (fun j => if s.selects .station j && ((some i : Option (Fin 24)) == none || some i == some j) then some level else none) =
      oneAim i level := by
    funext j
    by_cases h : j = i
    · simp [State.selects, oneAim, h]
    · simp [State.selects, oneAim, h, Ne.symm h]
  rw [State.runLevelSet, aims]

theorem goalCount_oneAim (i : Fin 24) (level : Nat) : goalCount (oneAim i level) = 1 := by
  have selected : ((List.finRange 24).filter fun j => (oneAim i level j).isSome) = (List.finRange 24).filter fun j => j == i :=
    List.filter_congr fun j _ => by by_cases h : j = i <;> simp [oneAim, h]
  rw [goalCount, selected]
  clear selected
  revert i; decide

/-! ## A LEVEL SET of one channel -/

/-- A report and a change of lights that reads none do not meet. -/
theorem markScene_raise (s : State) (a : Alarm) (aims : Fin 24 → Option Nat) (scene : Option (Fin 8)) :
    (s.raise a).markScene aims scene = (s.markScene aims scene).raise a := by
  have same : (s.markScene aims scene).safety = s.safety := (relit_markScene s aims scene).safety
  rw [State.raise, State.raise, same]
  split <;> rfl

/-- With a fade time of 0 it takes the level at once (R81, R87). -/
theorem levelSet_now_channel (s : State) (i : Fin 24) (level : Nat) (j : Fin 24) :
    (s.runLevelSet .station (some i) level 0).light.channels[j] =
      if j = i then { s.light.channels[j] with level := level, fade := none, lastScene := none }
      else s.light.channels[j] := by
  rw [runLevelSet_now_channel]
  refine if_congr ⟨?_, ?_⟩ rfl rfl
  · rintro ⟨-, h⟩
    rcases h with h | h
    · cases h
    · exact (Option.some.inj h).symm
  · rintro rfl; exact ⟨rfl, .inr rfl⟩

section
variable {s : State} {i : Fin 24} {level fade : Nat} (fadeless : (s.light.channels[i]).fade = none)
include fadeless

theorem aimed_fadeless (j : Fin 24) (aimed : (oneAim i level j).isSome = true) : (s.light.channels[j]).fade = none := by
  by_cases h : j = i
  · rw [h]; exact fadeless
  · simp [oneAim, h] at aimed

theorem leaveFades_oneAim_pool : (s.leaveFades fun j => (oneAim i level j).isSome).pool = s.pool :=
  leaveFades_pool_of_fadeless (aimed_fadeless fadeless)

/-- With a fade time a channel without a fade joins the lowest free slot (R106, R110). -/
theorem levelSet_fading {k : Fin 16} (long : fade ≠ 0) (free : freeSlot s.pool = some k) :
    s.runLevelSet .station (some i) level fade =
      (((s.leaveFades fun j => (oneAim i level j).isSome).giveSlot k
        { owner := .light, length := fade, elapsed := 0, members := 1 }).joinSlot (oneAim i level) k).markScene
        (oneAim i level) none := by
  rw [runLevelSet_station, State.changeLevels, if_neg (by rw [goalCount_oneAim]; decide)]
  dsimp only
  rw [if_neg long, leaveFades_oneAim_pool fadeless, free, goalCount_oneAim]

omit fadeless in
theorem levelSet_fading_channel (k : Fin 16) (slot : Slot) (j : Fin 24) :
    ((((s.leaveFades fun j => (oneAim i level j).isSome).giveSlot k slot).joinSlot (oneAim i level) k).markScene
      (oneAim i level) none).light.channels[j] =
      if j = i then { s.light.channels[j] with
        fade := some { start := s.light.channels[j].level, goal := level, slot := k }, lastScene := none }
      else s.light.channels[j] := by
  rw [markScene_channel]
  by_cases h : j = i
  · have aim : oneAim i level j = some level := if_pos h
    rw [changeLevels_fading_channel s (oneAim i level) k slot aim, aim]
    simp [h]
  · have aim : oneAim i level j = none := if_neg h
    simp [State.joinSlot, State.giveSlot, State.leaveFades, aim, h, Channel.join]

/-- Without a free slot it takes the level at once, and RAMP_SHORT is reported (R112). -/
theorem levelSet_short (long : fade ≠ 0) (full : freeSlot s.pool = none) : s.runLevelSet .station (some i) level fade =
    (s.runLevelSet .station (some i) level 0).raise .rampShort := by
  have some : goalCount (oneAim i level) ≠ 0 := by rw [goalCount_oneAim]; decide
  rw [runLevelSet_station, runLevelSet_station, changeLevels_now, if_neg some, State.changeLevels, if_neg some]
  dsimp only
  rw [if_neg long, leaveFades_oneAim_pool fadeless, full]
  exact markScene_raise _ _ _ _

end

end Sys2Proof.Machine
end


section
/-! PROOFS. LEVEL SET, SCENE RECALL and a key's group recall, answered: at once, with a report, scheduled or refused. -/

namespace Sys2Proof.Machine

/-! ## A report that holds no axis and makes no notice -/

theorem withAlarm_heldNow {s : State} {a : Alarm} {ax : Axis} (inert : a.within (s.axisCfg ax).holdMask = false) :
    (s.withAlarm a).heldNow ax = s.heldNow ax := by
  rw [Bool.eq_iff_iff, heldNow_iff, heldNow_iff]
  refine or_congr Iff.rfl (or_congr Iff.rfl (or_congr Iff.rfl (exists_congr fun b => and_congr_right fun masked => ?_)))
  have other : b ≠ a := by
    rintro rfl
    have masked : b.within (s.axisCfg ax).holdMask = true := masked
    rw [inert] at masked; cases masked
  have set : (s.withAlarm a).alarmSet b = s.alarmSet b := by rw [withAlarm_alarmSet]; simp [other]
  rw [State.alarmCounts, State.alarmCounts, set]; rfl

theorem withAlarm_calm {s : State} {a : Alarm} (calm : s.calm = true)
    (inert : ∀ ax, a.within (s.axisCfg ax).holdMask = false) : (s.withAlarm a).calm = true := by
  obtain ⟨none, within, synced, -, -⟩ := (calm_iff s).1 calm
  have stale (ax : Axis) : (s.withAlarm a).holdStale ax = false := by
    have held : ((s.withAlarm a).axisSafety ax).held = (s.axisSafety ax).held := by cases ax <;> rfl
    have open_ : (s.withAlarm a).safety.within = false := within
    simp [State.holdStale, State.holdOn, open_, withAlarm_heldNow (inert ax), held, held_of_calm calm]
  exact (calm_iff _).2 ⟨none, within, synced, stale .A, stale .B⟩

/-- It is taken, and nothing follows from it (R174, R175). -/
theorem inert_settled {s : State} {a : Alarm} (calm : s.calm = true) (notice : s.cfg.reportMask = 0)
    (inert : ∀ ax, a.within (s.axisCfg ax).holdMask = false) : ∃ x : SafetyUnit, (s.raise a).settled = s.setSafety x ∧
      (s.setSafety x).calm = true ∧ (s.station ≠ .loading → (s.setSafety x).alarmSet a = true) := by
  obtain ⟨none, -, synced, -, -⟩ := (calm_iff s).1 calm
  have popped : (s.setSafety { s.safety with raised := [a] }).setSafety
      { (s.setSafety { s.safety with raised := [a] }).safety with raised := [] } = s := by
    have same : s.safety = { s.safety with raised := [] } := by rw [← none]
    show s.setSafety { s.safety with raised := [] } = s
    rw [← same]; rfl
  have one : (s.raise a).settled = (s.takeReport a).settle 127 := by
    rw [raise_of_calm calm, State.settled,
      settle_of_report (n := 127) (s := s.setSafety { s.safety with raised := [a] }) synced rfl, popped]
  rw [one]
  by_cases taken : s.station = .loading ∨ s.alarmSet a = true
  · rw [takeReport_of_taken taken, settle_of_calm 126 calm]
    exact ⟨s.safety, rfl, calm, fun station => taken.resolve_left station⟩
  · simp only [not_or, Bool.not_eq_true] at taken
    have quiet : s.setAlarm a = s.withAlarm a := by
      have out : a.within s.cfg.reportMask = false := by rw [notice]; simp [Alarm.within]
      simp [State.setAlarm, out, State.withAlarm]
    have still := withAlarm_calm calm inert
    rw [takeReport_of_harmless taken.1 taken.2 inert, quiet, settle_of_calm 126 still]
    exact ⟨_, rfl, still, fun _ => by
      have set : (s.withAlarm a).alarmSet a = true := by rw [withAlarm_alarmSet]; simp
      exact set⟩

theorem loading_of_not_sends {s : State} (sends : s.sends = true) : s.station ≠ .loading := by
  intro loading
  simp [State.sends, loading] at sends

/-- What a decode leaves that changes lights alone, reports an alarm and answers its peer. -/
structure Warned (s u t : State) (al : Alarm) (r : Request) (a : Nat) (code : Code) : Prop where
  alarm : t.alarmSet al = true
  time : t.time = s.time
  motion : t.motion = s.motion
  channels : t.light.channels = u.light.channels
  pool : t.pool = u.pool
  queue : t.line.queue = s.line.queue ++ [t.outcomeFrame a r.clsKind.1 r.clsKind.2 r.named code false]

theorem warned_reply {s u : State} {r : Request} {a : Nat} {al : Alarm} (awake : s.awake = true) (room : s.room 1 = true)
    (source : r.source = .peer a) (station : r.addressing = .station) (relit : Relit (s.endDecode r) u)
    (notice : s.cfg.reportMask = 0) (inert : ∀ ax, al.within (s.axisCfg ax).holdMask = false) (code : Code) :
    Warned s u ((u.raise al).settled.reply r code).finish al r a code := by
  have calm : u.calm = true := relit.calm (calm_of_awake awake : s.calm = true)
  have cfg : u.cfg = s.cfg := relit.cfg
  have loader : u.loader = s.loader := relit.loader
  have line : u.line = s.line := relit.line
  have roomU : u.room 1 = true := (relit.dims.room 1).trans room
  obtain ⟨x, settled, still, alarm⟩ := inert_settled calm (by rw [cfg]; exact notice)
    (fun ax => by rw [State.axisCfg, cfg]; exact inert ax)
  have past : u.station ≠ .loading := by
    have sends : s.sends = true := by
      simp only [State.room, Bool.and_eq_true] at room; exact room.1
    rw [State.station, loader]; exact loading_of_not_sends sends
  have set := alarm past
  rw [settled, reply_of_room (n := 0) (s := u.setSafety x) roomU source station]
  have closed : ((u.setSafety x).replied r a code).calm = true := still
  rw [finish_of_calm closed]
  refine ⟨set, ?_, ?_, ?_, ?_, ?_⟩
  · exact relit.keeps.time
  · rw [publish_motion]; exact relit.motion
  · rw [publish_channels]; rfl
  · rw [publish_pool]; rfl
  · rw [publish_line, State.replied, State.withFrame]
    show u.line.queue ++ _ = _
    rw [line]; rfl

/-! ## LEVEL SET -/

theorem exec_levelSet {s : State} {r : Request} {a : Nat} {p : List Byte} {x : Timed × Option Byte} (flies : s.flies r)
    (awake : s.awake = true) (form : r = fromPeer a 3 2 p) (parsed : parseLevelSet p = .ok x) : exec .levelSet s =
      .next (((s.endDecode r).runTimed r x).2.settled.reply r ((s.endDecode r).runTimed r x).1).finish := by
  have completion : (completionOf r == .levelSet) = true := by rw [form]; rfl
  have payload : r.payload = p := by rw [form]; rfl
  have arm : exec .levelSet s = completing s .levelSet fun r s =>
    respond r (parseLevelSet r.payload) (fun x s => s.runTimed r x) s := rfl
  rw [arm, completing_of_flies flies completion, event_of_due (running_of_awake awake) rfl, payload, parsed]; rfl

theorem byteOf_toNat {n : Nat} (low : n < 256) : (byteOf n).toNat = n := by
  rw [byteOf, BitVec.toNat_ofNat]; exact Nat.mod_eq_of_lt low

theorem parseLevelSet_channel (i : Fin 24) (hi lo fade : Byte) (at_ : List Byte) (short : at_.length ≤ 1) :
    parseLevelSet ([byteOf i.val, hi, lo, 0, fade] ++ at_) =
      .ok (.levelSet (some i) (min (hi.toNat * 256 + lo.toNat) 4095) fade.toNat, at_.head?) := by
  have number : (byteOf i.val).toNat = i.val := byteOf_toNat (by omega)
  have first : natAt ([byteOf i.val, hi, lo, 0, fade] ++ at_) 0 = i.val := number
  have channel : codeBelow 24 i.val = some i := by rw [← number]; exact codeBelow_byteOf (by omega) i
  have level : clampLevel (nat16At ([byteOf i.val, hi, lo, 0, fade] ++ at_) 1) = min (hi.toNat * 256 + lo.toNat) 4095 := rfl
  have periods : clampFade (nat16At ([byteOf i.val, hi, lo, 0, fade] ++ at_) 3) = fade.toNat := by
    have small := fade.isLt
    have field : nat16At ([byteOf i.val, hi, lo, 0, fade] ++ at_) 3 = 0 * 256 + fade.toNat := rfl
    rw [field, clampFade]; omega
  have due : optByte ([byteOf i.val, hi, lo, 0, fade] ++ at_) 5 = at_.head? := by
    match at_ with
    | [] => rfl
    | d :: l => simp [optByte, byteAt]
  have lengths : (([byteOf i.val, hi, lo, 0, fade] ++ at_).length == 5 || ([byteOf i.val, hi, lo, 0, fade] ++ at_).length == 6) = true := by
    simp only [List.length_append, List.length_cons, List.length_nil, Bool.or_eq_true, beq_iff_eq]; omega
  simp only [parseLevelSet, lengths, first, channel, level, periods, due, need, i.isLt]
  rfl

end Sys2Proof.Machine
end


section
/-! PROOFS. The at byte of a LEVEL SET, the recall of scenes, and the statement on both. -/

namespace Sys2Proof.Machine

/-! ## The schedule list -/

/-- An entry is placed after every entry due no later, and before the rest (R39). -/
theorem insertEntry_split (p : BitVec 16) (e : Entry) (l : List Entry) : ∃ before after, l = before ++ after ∧
    insertEntry p e l = before ++ [e] ++ after ∧ (∀ x ∈ before, x.distance p ≤ e.distance p) ∧
    ∀ x ∈ after.head?, e.distance p < x.distance p := by
  induction l with
  | nil => exact ⟨[], [], rfl, rfl, by simp, by simp⟩
  | cons x l ih =>
    by_cases earlier : x.distance p ≤ e.distance p
    · obtain ⟨before, after, split, placed, no_later, later⟩ := ih
      refine ⟨x :: before, after, by rw [split]; rfl, ?_, ?_, later⟩
      · rw [insertEntry, if_pos earlier, placed]; rfl
      · intro y hy
        rcases List.mem_cons.1 hy with rfl | hy
        · exact earlier
        · exact no_later y hy
    · refine ⟨[], x :: l, rfl, ?_, by simp, ?_⟩
      · rw [insertEntry, if_neg earlier]; rfl
      · intro y hy
        obtain rfl : x = y := by simpa using hy
        omega

theorem distance_of_ahead {e : Entry} {p : BitVec 16} {k : Nat} (due : e.due = p + BitVec.ofNat 16 k) (near : k < 65536) :
    e.distance p = k := by
  rw [Entry.distance, due]
  have cancel : p + BitVec.ofNat 16 k - p = BitVec.ofNat 16 k := by
    rw [BitVec.add_comm, BitVec.add_sub_cancel]
  rw [cancel, BitVec.toNat_ofNat]; exact Nat.mod_eq_of_lt near

/-! ## The at byte -/

section
variable {s : State} {r : Request} {channel : Option (Fin 24)} {level fade : Nat} {d : Byte}

theorem runTimed_none (x : Timed) : s.runTimed r (x, none) = s.perform r.addressing x := rfl

theorem runTimed_now (x : Timed) (now : s.ahead d = 0) : s.runTimed r (x, some d) = s.perform r.addressing x := by
  simp [State.runTimed, now]

theorem runTimed_expired (x : Timed) (past : 128 ≤ s.ahead d) (near : s.ahead d ≤ 247) : s.runTimed r (x, some d) = (.expired, s) := by
  have some : s.ahead d ≠ 0 := by omega
  have far : ¬s.ahead d ≤ 127 := by omega
  simp [State.runTimed, some, far, near]

theorem admits_levelSet (available : s.lightingHeld = false) : s.admits (.levelSet channel level fade) = none := by
  simp [State.admits, admission, available]

theorem runTimed_full (available : s.lightingHeld = false) (later : 1 ≤ s.ahead d) (near : s.ahead d ≤ 127)
    (full : 16 ≤ s.time.schedule.length) : s.runTimed r (.levelSet channel level fade, some d) = (.full, s) := by
  have later : s.ahead d ≠ 0 := by omega
  have no_room : ¬s.time.schedule.length < 16 := by omega
  simp [State.runTimed, later, near, no_room, admits_levelSet available]

theorem runTimed_scheduled (available : s.lightingHeld = false) (later : 1 ≤ s.ahead d) (near : s.ahead d ≤ 127)
    (room : s.time.schedule.length < 16) : s.runTimed r (.levelSet channel level fade, some d) =
      (.scheduled, s.schedule (.levelSet channel level fade) r.source r.addressing (s.ahead d)) := by
  have later : s.ahead d ≠ 0 := by omega
  simp [State.runTimed, later, near, room, admits_levelSet available]

theorem runTimed_late (past : 248 ≤ s.ahead d) (x : Timed) : s.runTimed r (x, some d) =
    (lateCode ((s.raise .lateRun).perform r.addressing x).1, ((s.raise .lateRun).perform r.addressing x).2) := by
  have later : s.ahead d ≠ 0 := by omega
  have out : ¬s.ahead d ≤ 127 := by omega
  have beyond : ¬s.ahead d ≤ 247 := by omega
  simp [State.runTimed, later, out, beyond]

end

/-- A change of lights after a report is the change with the report after it. -/
theorem relit_of_raise {s u : State} {a : Alarm} (h : Relit (s.raise a) u) : ∃ v, Relit s v ∧ u = v.raise a := by
  obtain ⟨c, p, rfl⟩ := h
  refine ⟨{ s with light := { s.light with channels := c }, pool := p }, ⟨c, p, rfl⟩, ?_⟩
  have same : ({ s with light := { s.light with channels := c }, pool := p } : State).safety = s.safety := rfl
  rw [State.raise, State.raise, same]
  split <;> rfl

/-! ## Scenes -/

/-- A scene recalled without a fade time gives each channel of the selection with a level in it that level, and the scene
(R86). -/
theorem recallScene_now_channel (s : State) (scene : Fin 8) (sel : Fin 24 → Bool) {fade : Option Nat}
    (now : fade.getD s.light.scenes[scene].fadeTime = 0) (i : Fin 24) :
    (s.recallScene scene sel fade).light.channels[i] = match s.light.scenes[scene].levels[i] with
      | some level => if sel i then { s.light.channels[i] with level := level, fade := none, lastScene := some scene }
        else s.light.channels[i]
      | none => s.light.channels[i] := by
  rw [State.recallScene, now]
  dsimp only
  rw [markScene_channel, changeLevels_now_channel, State.sceneGoals]
  cases sel i <;> cases s.light.scenes[scene].levels[i] <;> rfl

theorem relit_recallScene_now (s : State) (scene : Fin 8) (sel : Fin 24 → Bool) {fade : Option Nat}
    (now : fade.getD s.light.scenes[scene].fadeTime = 0) : Relit s (s.recallScene scene sel fade) := by
  rw [State.recallScene, now]
  exact (relit_changeLevels_now s _).trans (relit_markScene _ _ _)

theorem foldl_groups_getLsbD (l : List Channel) (m : BitVec 32) (g : Nat) :
    (l.foldl (fun m c => m ||| c.groups) m).getLsbD g = (m.getLsbD g || l.any fun c => c.groups.getLsbD g) := by
  induction l generalizing m with
  | nil => simp
  | cons c l ih => rw [List.foldl_cons, ih, BitVec.getLsbD_or, List.any_cons, Bool.or_assoc]

/-- A group that the station is not in has none of its channels (R13). -/
theorem groups_of_not_inGroup {s : State} {g : Nat} (out : s.inGroup g = false) (i : Fin 24) :
    (s.light.channels[i]).groups.getLsbD g = false := by
  rw [State.inGroup, State.membership, foldl_groups_getLsbD, Bool.or_eq_false_iff, List.any_eq_false] at out
  have mem : s.light.channels[i] ∈ s.light.channels.toList := by simp
  simpa using out.2 _ mem

theorem parseSceneRecall_now (k : Fin 8) : parseSceneRecall [byteOf k.val, 0, 0] = .ok (.sceneRecall k (some 0), none) := by
  have number : natAt [byteOf k.val, 0, 0] 0 = k.val := byteOf_toNat (by omega)
  have scene : codeBelow 8 k.val = some k := by
    rw [codeBelow, if_pos k.isLt]; exact congrArg some (Fin.ofNat_val_eq_self k)
  have periods : clampFade (nat16At [byteOf k.val, 0, 0] 1) = 0 := by simp [clampFade, nat16At, natAt, byteAt]
  simp only [parseSceneRecall, number, scene, periods]; rfl

theorem exec_sceneRecall_now {s : State} {r : Request} {a : Nat} {k : Fin 8} (flies : s.flies r) (awake : s.awake = true)
    (form : r = fromPeer a 3 1 [byteOf k.val, 0, 0]) (available : s.lightingHeld = false) : exec .sceneRecall s =
      .next ((((s.endDecode r).recallScene k (fun _ => true) (some 0)).settled).reply r .ok).finish := by
  have completion : (completionOf r == .sceneRecall) = true := by rw [form]; rfl
  have payload : r.payload = [byteOf k.val, 0, 0] := by rw [form]; rfl
  have addressing : r.addressing = .station := by rw [form]; rfl
  have arm : exec .sceneRecall s = completing s .sceneRecall fun r s =>
    respond r (parseSceneRecall r.payload) (fun x s => s.runTimed r x) s := rfl
  have free : (s.endDecode r).admits (.sceneRecall k (some 0)) = none := by
    have held : (s.endDecode r).lightingHeld = false := available
    simp [State.admits, admission, held]
  have ran : (s.endDecode r).runTimed r (.sceneRecall k (some 0), none) =
      (.ok, (s.endDecode r).recallScene k (fun _ => true) (some 0)) := by
    rw [runTimed_none, addressing, State.perform, free]; rfl
  rw [arm, completing_of_flies flies completion, event_of_due (running_of_awake awake) rfl, payload, parseSceneRecall_now, respond,
    ran]

theorem exec_groupRecall {s : State} {r : Request} {k : Fin 8} {g : Nat} (flies : s.flies r) (awake : s.awake = true)
    (form : r = keyRequest (.groupRecall k.val g)) :
    exec .groupRecallRequest s = .next ((s.endDecode r).groupRecall k.val g).finish := by
  have completion : (completionOf r == .groupRecallRequest) = true := by rw [form]; rfl
  have body : r.body = .groupRecall k.val g := by rw [form]; rfl
  have arm : exec .groupRecallRequest s = completing s .groupRecallRequest fun r s =>
    match r.body with
    | .groupRecall scene group => s.groupRecall scene group
    | _ => s := rfl
  rw [arm, completing_of_flies flies completion, event_of_due (running_of_awake awake) rfl, body]

end Sys2Proof.Machine
end


section
/-! PROOFS. The statement on levels and scenes, clause by clause. -/

namespace Sys2Proof.Machine

theorem endDecode_light (s : State) (r : Request) : (s.endDecode r).light = s.light := rfl
theorem endDecode_pool (s : State) (r : Request) : (s.endDecode r).pool = s.pool := rfl

theorem Given.channel {s u t : State} {f : SendFrame} (h : Given s u t f) (j : Fin 24) :
    t.light.channels[j] = u.light.channels[j] := by rw [h.channels]

theorem Warned.channel {s u t : State} {al : Alarm} {r : Request} {a : Nat} {code : Code} (h : Warned s u t al r a code)
    (j : Fin 24) : t.light.channels[j] = u.light.channels[j] := by rw [h.channels]

section
variable {s : State} {a : Nat} {r : Request} {i : Fin 24} {hi lo : Byte}

/-- What a LEVEL SET of one channel from a peer answers, whatever its at byte. -/
theorem exec_levelSet_channel {fade : Byte} {n : Nat} {at_ : List Byte} (flies : s.flies r) (awake : s.awake = true)
    (form : r = fromPeer a 3 2 ([byteOf i.val, hi, lo, 0, fade] ++ at_)) (short : at_.length ≤ 1)
    (periods : fade.toNat = n) {code : Code} {u : State}
    (ran : (s.endDecode r).runTimed r
      (.levelSet (some i) (min (hi.toNat * 256 + lo.toNat) 4095) n, at_.head?) = (code, u)) :
    exec .levelSet s = .next (u.settled.reply r code).finish := by
  rw [exec_levelSet flies awake form (parseLevelSet_channel i hi lo fade at_ short), periods, ran]

/-- Without an at byte it is performed at once. -/
theorem ran_at_once {level fade : Nat} (station : r.addressing = .station) (available : s.lightingHeld = false) :
    (s.endDecode r).runTimed r (.levelSet (some i) level fade, none) =
      (.ok, (s.endDecode r).runLevelSet .station (some i) level fade) := by
  rw [runTimed_none, station, perform_levelSet _ _ _ _ (by exact available)]

theorem levelSet_now_pool (s : State) (i : Fin 24) (level : Nat) : (s.runLevelSet .station (some i) level 0).pool =
    (s.leaveFades fun j => (oneAim i level j).isSome).pool := by
  rw [runLevelSet_station, changeLevels_now, if_neg (by rw [goalCount_oneAim]; decide)]
  simp [State.markScene, State.takeLevels]

theorem levelSet_fading_pool (s : State) (aims : Fin 24 → Option Nat) (k : Fin 16) (slot : Slot) :
    ((((s.leaveFades fun j => (aims j).isSome).giveSlot k slot).joinSlot aims k).markScene aims none).pool =
      (s.leaveFades fun j => (aims j).isSome).pool.set k (some slot) := rfl

/-- A LEVEL SET without a fade time that acts at once (R81, R87). -/
theorem levelSet_performed {at_ : List Byte} (flies : s.flies r) (awake : s.awake = true) (room : s.room 1 = true)
    (form : r = fromPeer a 3 2 ([byteOf i.val, hi, lo, 0, 0] ++ at_)) (short : at_.length ≤ 1)
    (ran : (s.endDecode r).runTimed r (.levelSet (some i) (min (hi.toNat * 256 + lo.toNat) 4095) 0, at_.head?) =
      (.ok, (s.endDecode r).runLevelSet .station (some i) (min (hi.toNat * 256 + lo.toNat) 4095) 0)) :
    ∃ t, exec .levelSet s = .next t ∧ t.line = (s.replied r a .ok).line ∧ s.sameBesideLights t ∧
      ∀ j : Fin 24, t.light.channels[j] = if j = i then { s.light.channels[j] with
          level := min (hi.toNat * 256 + lo.toNat) 4095, fade := none, lastScene := none }
        else s.light.channels[j] := by
  have station : r.addressing = .station := by rw [form]; rfl
  have source : r.source = .peer a := by rw [form]; rfl
  refine ⟨_, exec_levelSet_channel flies awake form short rfl ran, ?_⟩
  generalize min (hi.toNat * 256 + lo.toNat) 4095 = level
  have given := given_reply awake room source station
    (relit_runLevelSet_now (s.endDecode r) .station (some i) level).dims .ok
  refine ⟨given.line, given.same, fun j => ?_⟩
  rw [given.channel, levelSet_now_channel, endDecode_light]

/-- With a fade time and a free slot (R106, R110). -/
theorem levelSet_joins {k : Fin 16} {fade : Byte} (flies : s.flies r) (awake : s.awake = true) (room : s.room 1 = true)
    (available : s.lightingHeld = false) (long : 1 ≤ fade.toNat) (fadeless : s.light.channels[i].fade = none)
    (free : freeSlot s.pool = some k) (form : r = fromPeer a 3 2 [byteOf i.val, hi, lo, 0, fade]) :
    ∃ t, exec .levelSet s = .next t ∧ s.sameBesideLights t ∧
      t.pool = s.pool.set k (some { owner := .light, length := fade.toNat, elapsed := 0, members := 1 }) ∧
      ∀ j : Fin 24, t.light.channels[j] = if j = i then { s.light.channels[j] with
          fade := some { start := s.light.channels[j].level, goal := min (hi.toNat * 256 + lo.toNat) 4095,
                         slot := k }, lastScene := none }
        else s.light.channels[j] := by
  have station : r.addressing = .station := by rw [form]; rfl
  have source : r.source = .peer a := by rw [form]; rfl
  refine ⟨_, exec_levelSet_channel (at_ := []) flies awake form (by simp) rfl (ran_at_once station available), ?_⟩
  generalize min (hi.toNat * 256 + lo.toNat) 4095 = level
  rw [levelSet_fading (s := s.endDecode r) (level := level) fadeless (Nat.ne_of_gt long) free]
  have dims := (((relit_leaveFades (s.endDecode r) fun j => (oneAim i level j).isSome).dims.trans
    (dims_giveSlot _ k { owner := .light, length := fade.toNat, elapsed := 0, members := 1 })).trans
    (dims_joinSlot _ (oneAim i level) k)).trans
    (relit_markScene _ (oneAim i level) none).dims
  have given := given_reply awake room source station dims .ok
  refine ⟨given.same, ?_, fun j => ?_⟩
  · rw [given.pool, levelSet_fading_pool, leaveFades_oneAim_pool (s := s.endDecode r) fadeless, endDecode_pool]
  · rw [given.channel, levelSet_fading_channel, endDecode_light]

/-- With a fade time and no free slot (R112). -/
theorem levelSet_falls_short {fade : Byte} (flies : s.flies r) (awake : s.awake = true) (room : s.room 1 = true)
    (available : s.lightingHeld = false) (long : 1 ≤ fade.toNat) (fadeless : s.light.channels[i].fade = none)
    (full : freeSlot s.pool = none) (notice : s.cfg.reportMask = 0)
    (inert : ∀ ax, Alarm.rampShort.within (s.axisCfg ax).holdMask = false)
    (form : r = fromPeer a 3 2 [byteOf i.val, hi, lo, 0, fade]) :
    ∃ t, exec .levelSet s = .next t ∧ t.alarmSet .rampShort = true ∧ t.pool = s.pool ∧ t.motion = s.motion ∧
      t.time = s.time ∧ ∀ j : Fin 24, t.light.channels[j] = if j = i then { s.light.channels[j] with
          level := min (hi.toNat * 256 + lo.toNat) 4095, lastScene := none }
        else s.light.channels[j] := by
  have station : r.addressing = .station := by rw [form]; rfl
  have source : r.source = .peer a := by rw [form]; rfl
  refine ⟨_, exec_levelSet_channel (at_ := []) flies awake form (by simp) rfl (ran_at_once station available), ?_⟩
  generalize min (hi.toNat * 256 + lo.toNat) 4095 = level
  rw [levelSet_short (s := s.endDecode r) fadeless (Nat.ne_of_gt long) full]
  have warned := warned_reply awake room source station
    (relit_runLevelSet_now (s.endDecode r) .station (some i) level) notice inert .ok
  refine ⟨warned.alarm, ?_, warned.motion, warned.time, fun j => ?_⟩
  · rw [warned.pool, levelSet_now_pool, leaveFades_oneAim_pool (s := s.endDecode r) fadeless, endDecode_pool]
  · rw [warned.channel, levelSet_now_channel, endDecode_light]
    refine if_ctx_congr Iff.rfl (fun same => ?_) fun _ => rfl
    subst same
    rw [← fadeless]

/-! ## With an at byte -/

/-- An answer that brings nothing else ends the command. -/
theorem answer_of_awake {u : State} (awake : u.awake = true) (room : u.room 1 = true) (source : r.source = .peer a)
    (station : r.addressing = .station) (code : Code) : (u.settled.reply r code).finish = u.replied r a code := by
  rw [settled_of_calm (calm_of_awake awake), reply_of_room (n := 0) room source station]
  exact finish_same awake rfl rfl rfl rfl rfl rfl rfl rfl rfl rfl rfl rfl

theorem awake_endDecode (awake : s.awake = true) (r : Request) : (s.endDecode r).awake = true := by
  have same : (s.endDecode r).awake = s.awake := awake_congr rfl rfl rfl rfl rfl rfl rfl rfl rfl rfl rfl rfl rfl
  rw [same]; exact awake

/-- Refused, with nothing else done (R40). -/
theorem levelSet_refused {d : Byte} {code : Code} (flies : s.flies r) (awake : s.awake = true) (room : s.room 1 = true)
    (form : r = fromPeer a 3 2 [byteOf i.val, hi, lo, 0, 0, d])
    (ran : (s.endDecode r).runTimed r (.levelSet (some i) (min (hi.toNat * 256 + lo.toNat) 4095) 0, some d) =
      (code, s.endDecode r)) : exec .levelSet s = .next ((s.endDecode r).replied r a code) := by
  have answer := exec_levelSet_channel (at_ := [d]) flies awake form (by simp) rfl ran
  rw [answer, answer_of_awake (awake_endDecode awake r) room (by rw [form]; rfl) (by rw [form]; rfl)]

/-- Scheduled by its due distance (R39, R40). -/
theorem levelSet_scheduled {d : Byte} (flies : s.flies r) (awake : s.awake = true) (room : s.room 1 = true)
    (available : s.lightingHeld = false) (form : r = fromPeer a 3 2 [byteOf i.val, hi, lo, 0, 0, d])
    (later : 1 ≤ s.ahead d) (near : s.ahead d ≤ 127) (few : s.time.schedule.length < 16) :
    ∃ t before after, exec .levelSet s = .next t ∧ t.line = (s.replied r a .scheduled).line ∧
      t.light = s.light ∧ s.time.schedule = before ++ after ∧
      t.time = { s.time with nextOrder := s.time.nextOrder + 1, schedule := before ++ [{
        request := .levelSet (some i) (min (hi.toNat * 256 + lo.toNat) 4095) 0, source := .peer a,
        addressing := .station, due := s.time.p + BitVec.ofNat 16 (s.ahead d),
        order := s.time.nextOrder }] ++ after } ∧
      (∀ e ∈ before, e.distance s.time.p ≤ s.ahead d) ∧
      ∀ e ∈ after.head?, s.ahead d < e.distance s.time.p := by
  have station : r.addressing = .station := by rw [form]; rfl
  have source : r.source = .peer a := by rw [form]; rfl
  have ran := runTimed_scheduled (s := s.endDecode r) (r := r) (channel := some i)
    (level := min (hi.toNat * 256 + lo.toNat) 4095) (fade := 0) (d := d) available later near few
  have answer := exec_levelSet_channel (at_ := [d]) flies awake form (by simp) rfl ran
  rw [source, station] at answer
  generalize min (hi.toNat * 256 + lo.toNat) 4095 = level at *
  have awakeU : ((s.endDecode r).schedule (.levelSet (some i) level 0) (.peer a) .station (s.ahead d)).awake = true := by
    have same : ((s.endDecode r).schedule (.levelSet (some i) level 0) (.peer a) .station (s.ahead d)).awake = s.awake :=
      awake_congr rfl rfl rfl rfl rfl rfl rfl rfl rfl rfl rfl rfl rfl
    rw [same]; exact awake
  have ends := answer_of_awake awakeU room source station .scheduled
  obtain ⟨before, after, split, placed, no_later, rest⟩ := insertEntry_split s.time.p
    { request := .levelSet (some i) level 0, source := .peer a, addressing := .station,
      due := s.time.p + BitVec.ofNat 16 (s.ahead d), order := s.time.nextOrder } s.time.schedule
  rw [distance_of_ahead rfl (by omega)] at no_later rest
  refine ⟨_, before, after, answer.trans (congrArg _ ends), rfl, rfl, split, ?_, no_later, rest⟩
  rw [← placed]; rfl

/-- Run late (R40). -/
theorem levelSet_late {d : Byte} (flies : s.flies r) (awake : s.awake = true) (room : s.room 1 = true)
    (available : s.lightingHeld = false) (form : r = fromPeer a 3 2 [byteOf i.val, hi, lo, 0, 0, d])
    (past : 248 ≤ s.ahead d) (notice : s.cfg.reportMask = 0)
    (inert : ∀ ax, Alarm.lateRun.within (s.axisCfg ax).holdMask = false) :
    ∃ t, exec .levelSet s = .next t ∧ t.alarmSet .lateRun = true ∧ t.time = s.time ∧ t.motion = s.motion ∧
      t.light.channels[i].level = min (hi.toNat * 256 + lo.toNat) 4095 ∧
      t.line.queue = s.line.queue ++ [{
        cls := 4, kind := 1, dest := a, onLine := false,
        payload := some [0x62, 0x02, t.safety.count, s.pLow] }] := by
  have station : r.addressing = .station := by rw [form]; rfl
  have source : r.source = .peer a := by rw [form]; rfl
  have available' : ((s.endDecode r).raise .lateRun).lightingHeld = false := by
    rw [State.lightingHeld, raise_line, raise_cfg]; exact available
  have ran : (s.endDecode r).runTimed r (.levelSet (some i) (min (hi.toNat * 256 + lo.toNat) 4095) 0, some d) = (.late,
      ((s.endDecode r).raise .lateRun).runLevelSet .station (some i) (min (hi.toNat * 256 + lo.toNat) 4095) 0) := by
    rw [runTimed_late (s := s.endDecode r) past, station, perform_levelSet _ _ _ _ available']; rfl
  have answer := exec_levelSet_channel (at_ := [d]) flies awake form (by simp) rfl ran
  generalize min (hi.toNat * 256 + lo.toNat) 4095 = level at *
  have channel := levelSet_now_channel ((s.endDecode r).raise .lateRun) i level i
  obtain ⟨v, relit, reported⟩ := relit_of_raise
    (relit_runLevelSet_now ((s.endDecode r).raise .lateRun) .station (some i) level)
  rw [reported] at answer channel
  have warned := warned_reply awake room source station relit notice inert .late
  rw [raise_light, if_pos rfl] at channel
  refine ⟨_, answer, warned.alarm, warned.time, warned.motion, ?_, warned.queue.trans ?_⟩
  · rw [warned.channel, channel]
  · have form4 : r.clsKind = (3, 2) ∧ r.named = none := by rw [form]; exact ⟨rfl, rfl⟩
    rw [form4.1, form4.2]
    generalize answered : ((v.raise .lateRun).settled.reply r .late).finish = t at *
    have low : t.pLow = s.pLow := by rw [State.pLow, warned.time]; rfl
    rw [State.outcomeFrame, low]; rfl

end

/-! ## Scenes -/

/-- SCENE RECALL with a fade time of 0 (R86). -/
theorem sceneRecall_given {s : State} {a : Nat} {r : Request} {k : Fin 8} (flies : s.flies r) (awake : s.awake = true)
    (room : s.room 1 = true) (available : s.lightingHeld = false) (form : r = fromPeer a 3 1 [byteOf k.val, 0, 0]) :
    ∃ t, exec .sceneRecall s = .next t ∧ t.line = (s.replied r a .ok).line ∧ s.sameBesideLights t ∧
      ∀ j : Fin 24, t.light.channels[j] =
        match s.light.scenes[k].levels[j] with
        | some level => { s.light.channels[j] with level := level, fade := none, lastScene := some k }
        | none => s.light.channels[j] := by
  refine ⟨_, exec_sceneRecall_now flies awake form available, ?_⟩
  have given := given_reply awake room (by rw [form]; rfl) (by rw [form]; rfl)
    (relit_recallScene_now (s.endDecode r) k (fun _ => true) (fade := some 0) rfl).dims .ok
  refine ⟨given.line, given.same, fun j => ?_⟩
  rw [given.channel, recallScene_now_channel _ _ _ rfl, endDecode_light]
  cases s.light.scenes[k].levels[j] <;> rfl

/-- A key's group recall of a scene of fade time 0 (R65). -/
theorem groupRecall_given {s : State} {k : Fin 8} {g : Nat} {r : Request} (form : r = keyRequest (.groupRecall k.val g))
    (flies : s.flies r) (awake : s.awake = true) (room : s.room 1 = true) (available : s.lightingHeld = false)
    (now : s.light.scenes[k].fadeTime = 0) :
    ∃ t, exec .groupRecallRequest s = .next t ∧ s.sameBesideLights t ∧
      t.line = (s.withFrame { cls := 3, kind := 1, dest := 64 + g, payload := some [byteOf k.val],
                              onLine := false }).line ∧
      ∀ j : Fin 24, t.light.channels[j] =
        match s.light.scenes[k].levels[j] with
        | some level => if s.light.channels[j].groups.getLsbD g then
            { s.light.channels[j] with level := level, fade := none, lastScene := some k }
          else s.light.channels[j]
        | none => s.light.channels[j] := by
  refine ⟨_, exec_groupRecall flies awake form, ?_⟩
  have scene : Fin.ofNat 8 k.val = k := Fin.ofNat_val_eq_self k
  have offered := offer_of_room (n := 0) (s := s.endDecode r) room
    { cls := 3, kind := 1, dest := 64 + g, payload := some [byteOf k.val], onLine := false }
  rw [State.groupRecall, offered, scene]
  dsimp only
  generalize framed : (s.endDecode r).withFrame
    { cls := 3, kind := 1, dest := 64 + g, payload := some [byteOf k.val], onLine := false } = u
  have light : u.light = s.light := by rw [← framed]; rfl
  have free : u.lightingHeld = false := by rw [← framed]; exact available
  rw [free, Bool.not_false, Bool.and_true]
  cases member : u.inGroup g with
  | true =>
    have dims := (relit_recallScene_now u k (u.selects (.group g)) (fade := none) (by rw [light]; exact now)).dims
    rw [if_pos rfl]
    have given : Given s _ _ _ := given_finish awake (by rw [framed]; exact dims)
    refine ⟨given.same, given.line, fun j => ?_⟩
    have formula := recallScene_now_channel u k (u.selects (.group g)) (fade := none) (by rw [light]; exact now) j
    rw [State.selects, light] at formula
    exact (given.channel j).trans formula
  | false =>
    rw [if_neg (by decide)]
    have given : Given s _ _ _ := given_finish awake (by rw [framed]; exact (Relit.refl u).dims)
    refine ⟨given.same, given.line, fun j => ?_⟩
    have outside := groups_of_not_inGroup member j
    rw [light] at outside
    rw [given.channel, light, outside]
    cases s.light.scenes[k].levels[j] <;> rfl

/-- Settles O52: the clauses on a LEVEL SET of one channel, on its at byte, and on the recall of a scene. -/
theorem levelsAndScenesAreGiven : Obligations.LevelsAndScenesAreGiven := by
  unfold Obligations.LevelsAndScenesAreGiven
  refine ⟨fun s a r i hi lo flies awake room available => ⟨fun form => ?_, fun k fade long fadeless free form => ?_,
    fun fade long fadeless full notice inert form => ?_, fun d form => ?_⟩,
    fun s a r k form flies awake room available => sceneRecall_given flies awake room available form,
    fun s k g r form flies awake room available _ now => groupRecall_given form flies awake room available now⟩
  · exact levelSet_performed (at_ := []) flies awake room form (by simp) (ran_at_once (by rw [form]; rfl) available)
  · exact levelSet_joins flies awake room available long fadeless free form
  · exact levelSet_falls_short flies awake room available long fadeless full notice inert form
  · refine ⟨?_, fun later near => ⟨fun full => ?_, fun few => ?_⟩, fun past near => ?_, fun past notice inert => ?_⟩
    · intro now
      have ahead : (s.endDecode r).ahead d = 0 := by
        show (d - s.pLow).toNat = 0
        rw [now]; simp
      have ran := (runTimed_now (r := r) (.levelSet (some i) (min (hi.toNat * 256 + lo.toNat) 4095) 0) ahead).trans
        (ran_at_once (s := s) (by rw [form]; rfl) available)
      obtain ⟨t, answer, line, same, channels⟩ := levelSet_performed (at_ := [d]) flies awake room form (by simp) ran
      exact ⟨t, answer, line, same, by rw [channels, if_pos rfl]⟩
    · exact levelSet_refused flies awake room form (runTimed_full (s := s.endDecode r) available later near full)
    · exact levelSet_scheduled flies awake room available form later near few
    · exact levelSet_refused flies awake room form (runTimed_expired (s := s.endDecode r) _ past near)
    · exact levelSet_late flies awake room available form past notice inert

end Sys2Proof.Machine
end


section
/-! PROOFS. ALARM CLEAR and MAP CLEAR: what is cleared and set again, and the reply that follows it. -/

namespace Sys2Proof.Machine

/-! ## Room for the reply -/

/-- The frames of the send queue, with one for an announcement where none waits (R20, R21). -/
def State.filled (s : State) : Nat := s.line.queue.length + bit (!s.line.queue.any fun f => f.cls == annCls)

theorem length_le_filled (s : State) : s.line.queue.length ≤ s.filled := Nat.le_add_right _ _

theorem filled_of_line {s t : State} (h : t.line = s.line) : t.filled = s.filled := by rw [State.filled, h]; rfl

theorem filled_announceRequest {s : State} (few : s.filled ≤ 7) : s.announceRequest.filled ≤ 7 := by
  by_cases sends : s.sends = true
  · cases found : s.line.queue.find? fun f => f.cls == annCls with
    | some f =>
      rw [announceRequest_of_some sends found]
      split <;> exact few
    | none =>
      have none : ∀ f ∈ s.line.queue, f.cls ≠ annCls := fun f hf => by simpa using List.find?_eq_none.1 found f hf
      have no_ann : (s.line.queue.any fun f => f.cls == annCls) = false := by
        rw [List.any_eq_false]; simpa using none
      have short : s.line.queue.length + 1 ≤ 7 := by
        rw [State.filled, no_ann] at few; exact few
      rw [announceRequest_of_none sends none,
        offer_of_short_queue (s := s.setPeer { s.peer with counter := s.cfg.interval }) announceFrame sends
          (show s.line.queue.length < 8 by omega)]
      have joined : (s.line.queue ++ [announceFrame]).any (fun f => f.cls == annCls) = true := by simp [announceFrame]
      show (s.line.queue ++ [announceFrame]).length + bit (!(s.line.queue ++ [announceFrame]).any fun f => f.cls == annCls) ≤ 7
      rw [joined, List.length_append]; exact short
  · have same : s.announceRequest = s := by simp [State.announceRequest, sends]
    rw [same]; exact few

theorem filled_announceRequests {n : Nat} {s : State} (few : s.filled ≤ 7) : (State.announceRequests n s).filled ≤ 7 := by
  induction n generalizing s with
  | zero => exact few
  | succ n ih => exact ih (filled_announceRequest few)

theorem filled_syncContent {s : State} (few : s.filled ≤ 7) : s.syncContent.filled ≤ 7 := by
  unfold State.syncContent; split
  · exact few
  · exact filled_announceRequests (s := s.setPeer { s.peer with content := s.contentNow }) few

theorem filled_enter {s : State} (few : s.filled ≤ 7) (ax : Axis) (st : AxisState) : (s.enter ax st).filled ≤ 7 := by
  unfold State.enter; dsimp only; split
  · exact few
  · refine filled_syncContent (Nat.le_trans (Nat.le_of_eq (filled_of_line ?_)) few)
    split <;> simp [State.clearObstruction]

theorem filled_followHold {s : State} (few : s.filled ≤ 7) (ax : Axis) : (s.followHold ax).filled ≤ 7 := by
  have written (r : AxisSafety) : (s.setAxisSafety ax r).filled ≤ 7 :=
    Nat.le_trans (Nat.le_of_eq (filled_of_line (State.setAxisSafety_line s ax r))) few
  unfold State.followHold; dsimp only; split
  · exact few
  · split
    · exact filled_enter (written _) ax _
    · exact filled_enter (written _) ax _
    · exact written _

/-- A send queue with room beside an announcement has room for one. -/
theorem roomy_of_filled {s : State} (few : s.filled ≤ 7) : s.roomy := fun _ =>
  .inl (by have := length_le_filled s; omega)

theorem filled_of_room {s : State} (room : s.room 2 = true) : s.filled ≤ 7 := by
  simp only [State.room, Bool.and_eq_true, decide_eq_true_eq] at room
  have one : bit (!s.line.queue.any fun f => f.cls == annCls) ≤ 1 := by
    cases (s.line.queue.any fun f => f.cls == annCls) <;> decide
  rw [State.filled]; omega

/-! ## Holds that follow alone -/

theorem Nearly.calm {s : State} (h : Nearly s) (within : s.safety.within = false) : s.syncContent.calm = true := by
  obtain ⟨safety, -⟩ := syncContent_of_roomy h.roomy
  have trails := trails_syncContent s
  have fits (ax : Axis) : s.syncContent.holdStale ax = false := by
    have on := holdOn_congr trails.cfg safety (by rw [trails.line]) (by rw [trails.line]) ax
    simp [State.holdStale, on, axisSafety_of_safety safety, h.held]
  exact (calm_iff _).2 ⟨by rw [safety]; exact h.raised, by rw [safety]; exact within, synced_syncContent s, fits .A, fits .B⟩

/-- Where nothing but the holds' changes is left to take, the end is calm, the alarms stand, and a reply finds room. -/
theorem Open.settled_calm {s : State} (h : Open s) (synced : s.synced) (few : s.filled ≤ 7) :
    s.settled.calm = true ∧ s.settled.safety.alarms = s.safety.alarms ∧ s.settled.safety.count = s.safety.count ∧
      s.settled.line.queue.length < 8 := by
  obtain ⟨nearly, alarms, count⟩ := h.followHolds
  have settled : s.settled = s.followHolds.syncContent := h.settle synced 126
  obtain ⟨safety, -⟩ := syncContent_of_roomy nearly.roomy
  have within : s.followHolds.safety.within = false :=
    ((trails_followHold s .A).trans (trails_followHold _ .B)).within.trans h.within
  have filled : s.followHolds.syncContent.filled ≤ 7 :=
    filled_syncContent (filled_followHold (filled_followHold few .A) .B)
  have := length_le_filled s.followHolds.syncContent
  rw [settled]
  exact ⟨nearly.calm within, by rw [safety]; exact alarms, by rw [safety]; exact count, by omega⟩

end Sys2Proof.Machine
end


section
/-! PROOFS. The statement on ALARM CLEAR and MAP CLEAR, clause by clause. -/

namespace Sys2Proof.Machine

/-! ## The request -/

section
variable {s : State} {a : Nat} {r : Request} {p : List Byte} {x : BitVec 23 × Option Byte}

theorem exec_alarmClear (flies : s.flies r) (awake : s.awake = true) (form : r = fromPeer a 3 11 p)
    (parsed : parseAlarmClear p = .ok x) : exec .alarmClear s =
      .next (((s.endDecode r).alarmClear x).2.settled.reply r ((s.endDecode r).alarmClear x).1).oneInstant.finish := by
  have completion : (completionOf r == .alarmClear) = true := by rw [form]; rfl
  have payload : r.payload = p := by rw [form]; rfl
  have arm : exec .alarmClear s = completing s .alarmClear fun r s =>
    (respond r (parseAlarmClear r.payload) (fun x s => s.alarmClear x) s).oneInstant := rfl
  rw [arm, completing_of_flies flies completion, event_of_due (running_of_awake awake) rfl, payload, parsed]; rfl

theorem oneInstant_of_not_within {u : State} (within : u.safety.within = false) : u.oneInstant = u := by
  rw [State.oneInstant, within]; rfl

/-- Where all that follows is taken before the reply, the reply is the last of the command. -/
theorem alarmClear_replied {u : State} {code : Code} (flies : s.flies r) (awake : s.awake = true)
    (form : r = fromPeer a 3 11 p) (parsed : parseAlarmClear p = .ok x) (ran : (s.endDecode r).alarmClear x = (code, u))
    (calm : u.settled.calm = true) (room : u.settled.room 1 = true) :
    exec .alarmClear s = .next (u.settled.replied r a code).publish := by
  have replied : u.settled.reply r code = u.settled.replied r a code :=
    reply_of_room (n := 0) room (by rw [form]; rfl) (by rw [form]; rfl) code
  have still : (u.settled.replied r a code).calm = true := calm
  rw [exec_alarmClear flies awake form parsed, ran]
  dsimp only
  rw [replied, oneInstant_of_not_within ((calm_iff _).1 still).2.1, finish_of_calm still]

end

theorem parseAlarmClear_flags (x y z : Byte) (count : List Byte) (low : x.toNat < 128) (short : count.length ≤ 1) :
    parseAlarmClear ([x, y, z] ++ count) = .ok (BitVec.ofNat 23 (x.toNat * 65536 + y.toNat * 256 + z.toNat), count.head?) := by
  have flags : nat24At ([x, y, z] ++ count) 0 = x.toNat * 65536 + y.toNat * 256 + z.toNat :=
    (Nat.add_assoc _ _ _).symm
  have known : x.toNat * 65536 + y.toNat * 256 + z.toNat < 2 ^ 23 := by
    have := y.isLt; have := z.isLt
    omega
  have lengths : (([x, y, z] ++ count).length == 3 || ([x, y, z] ++ count).length == 4) = true := by
    simp only [List.length_append, List.length_cons, List.length_nil, Bool.or_eq_true, beq_iff_eq]; omega
  have expected : optByte ([x, y, z] ++ count) 3 = count.head? := by
    match count with
    | [] => rfl
    | c :: l => simp [optByte, byteAt]
  simp only [parseAlarmClear, lengths, expected, need, flags, decide_eq_true known]
  rfl

/-- In a calm state every axis is held just as its causes are, so nothing holds one again (R181). -/
theorem heldAgain_of_calm {s : State} (calm : s.calm = true) : s.heldAgain = false := by
  have one (ax : Axis) : s.axisHeldAgain ax = false := by
    rw [State.axisHeldAgain, held_of_calm calm]
    cases s.heldNow ax <;> simp
  simp [State.heldAgain, one]

theorem foresee_of_calm {s : State} (calm : s.calm = true) : s.foresee = s := by
  rw [State.foresee, heldAgain_of_calm calm, setWithin_of_calm calm]

theorem alarmClear_stale {s : State} {set : BitVec 23} {count : Byte} (other : count ≠ s.safety.count) :
    s.alarmClear (set, some count) = (.stale, s) := by
  have differs : stale (some count) s.safety.count = true := by simpa [stale] using other
  rw [State.alarmClear, differs]; rfl

theorem alarmClear_none (s : State) (set : BitVec 23) : s.alarmClear (set, none) = (.ok, (s.clearAndSetAgain set).foresee) := rfl

theorem alarmClear_calm {s : State} {set : BitVec 23} (calm : (s.clearAndSetAgain set).calm = true) :
    s.alarmClear (set, none) = (.ok, s.clearAndSetAgain set) := by
  rw [alarmClear_none, foresee_of_calm calm]

/-! ## Clearing and setting again -/

/-- The alarms that are set again. -/
def State.setAgain (s : State) (set : BitVec 23) : List Alarm :=
  Alarm.all.filter fun al => al.within set && s.alarmSet al && s.lasts al

theorem clearAndSetAgain_eq (s : State) (set : BitVec 23) :
    s.clearAndSetAgain set = (s.setAgain set).foldl State.setAlarm (s.clearAlarms set) := rfl

theorem clearAlarms_alarmSet (s : State) (set : BitVec 23) (al : Alarm) :
    (s.clearAlarms set).alarmSet al = (s.alarmSet al && !al.within set) := by
  show (s.safety.alarms &&& ~~~set).getLsbD al.code = _
  rw [BitVec.getLsbD_and, BitVec.getLsbD_not, decide_eq_true (alarm_code_lt al), Bool.true_and]; rfl

/-- How many alarms are cleared. -/
theorem popcount_cleared (s : State) (set : BitVec 23) :
    popcount (s.safety.alarms &&& set) = (Alarm.all.filter fun al => al.within set && s.alarmSet al).length := by
  rw [popcount_alarms]
  refine congrArg List.length (List.filter_congr fun al _ => ?_)
  rw [Bool.and_comm (al.within set)]
  exact BitVec.getLsbD_and

/-- Where no notices are sent, clearing and setting again writes the set and the count alone (R175, R177, R178). -/
theorem clearAndSetAgain_unreported {s : State} {set : BitVec 23} (notice : s.cfg.reportMask = 0) : ∃ alarms,
    s.clearAndSetAgain set = s.setSafety { s.safety with alarms := alarms, count := s.safety.count + BitVec.ofNat 8 (
      (Alarm.all.filter fun al => al.within set && s.alarmSet al).length +
      (Alarm.all.filter fun al => al.within set && s.alarmSet al && s.lasts al).length) } ∧
    ∀ al : Alarm, al.within alarms = (s.alarmSet al && (!al.within set || s.lasts al)) := by
  obtain ⟨alarms, after, stands⟩ := foldl_setAlarm_of_unreported (s := s.clearAlarms set) (l := s.setAgain set) notice
  refine ⟨alarms, ?_, fun al => ?_⟩
  · rw [clearAndSetAgain_eq, after, ← popcount_cleared, BitVec.ofNat_add, ← BitVec.add_assoc]; rfl
  · have again : (s.setAgain set).contains al = (al.within set && s.alarmSet al && s.lasts al) := by
      rw [Bool.eq_iff_iff]; simp [State.setAgain, mem_all]
    rw [stands, again, clearAlarms_alarmSet]
    cases s.alarmSet al <;> cases al.within set <;> cases s.lasts al <;> rfl

/-- A change of the alarm set outside the hold masks leaves a calm state calm. -/
theorem calm_of_same_holds {s : State} {alarms : BitVec 23} {count : Byte} (calm : s.calm = true)
    (masked : ∀ ax (al : Alarm), al.within (s.axisCfg ax).holdMask = true → al.within alarms = s.alarmSet al) :
    (s.setSafety { s.safety with alarms := alarms, count := count }).calm = true := by
  obtain ⟨none, within, synced, -, -⟩ := (calm_iff s).1 calm
  generalize written : s.setSafety { s.safety with alarms := alarms, count := count } = u
  have now (ax : Axis) : u.heldNow ax = s.heldNow ax := by
    rw [← written, Bool.eq_iff_iff, heldNow_iff, heldNow_iff]
    refine or_congr Iff.rfl (or_congr Iff.rfl (or_congr Iff.rfl (exists_congr fun al => and_congr_right fun inside => ?_)))
    have same : (s.setSafety { s.safety with alarms := alarms, count := count }).alarmSet al = s.alarmSet al := masked ax al inside
    rw [State.alarmCounts, State.alarmCounts, same]; rfl
  have open_ : u.safety.within = false := by rw [← written]; exact within
  have fits (ax : Axis) : u.holdStale ax = false := by
    have held : (u.axisSafety ax).held = (s.axisSafety ax).held := by rw [← written]; cases ax <;> rfl
    simp [State.holdStale, State.holdOn, open_, now, held, held_of_calm calm]
  exact (calm_iff u).2 ⟨by rw [← written]; exact none, open_, by rw [← written]; exact synced, fits .A, fits .B⟩


/-! ## The clauses -/

section
variable {s : State} {a : Nat} {r : Request}

/-- STALE (R72, R178). -/
theorem alarmClear_refused {x y z count : Byte} (flies : s.flies r) (awake : s.awake = true) (room : s.room 1 = true)
    (low : x.toNat < 128) (other : count ≠ s.safety.count) (form : r = fromPeer a 3 11 [x, y, z, count]) :
    exec .alarmClear s = .next ((s.endDecode r).replied r a .stale) := by
  have ran := alarmClear_stale (s := s.endDecode r) (set := BitVec.ofNat 23 (x.toNat * 65536 + y.toNat * 256 + z.toNat)) other
  rw [exec_alarmClear flies awake form (parseAlarmClear_flags x y z [count] low (by simp)), List.head?_cons, ran]
  dsimp only
  rw [settled_of_calm (calm_of_awake (awake_endDecode awake r)),
    reply_of_room (n := 0) (s := s.endDecode r) room (by rw [form]; rfl) (by rw [form]; rfl)]
  have answered : ((s.endDecode r).replied r a .stale).finish = (s.endDecode r).replied r a .stale :=
    finish_withFrame awake r _
  rw [oneInstant_of_not_within (u := (s.endDecode r).replied r a .stale)
    (show s.safety.within = false from ((calm_iff s).1 (calm_of_awake awake)).2.1), answered]

/-- A set that leaves the station calm is cleared at once, and the reply follows. -/
theorem alarmClear_at_once {x y z : Byte} (flies : s.flies r) (awake : s.awake = true) (low : x.toNat < 128)
    (form : r = fromPeer a 3 11 [x, y, z])
    (calm : ((s.endDecode r).clearAndSetAgain (BitVec.ofNat 23 (x.toNat * 65536 + y.toNat * 256 + z.toNat))).calm = true)
    (room : ((s.endDecode r).clearAndSetAgain (BitVec.ofNat 23 (x.toNat * 65536 + y.toNat * 256 + z.toNat))).room 1 = true) :
    exec .alarmClear s = .next (((s.endDecode r).clearAndSetAgain
      (BitVec.ofNat 23 (x.toNat * 65536 + y.toNat * 256 + z.toNat))).replied r a .ok).publish := by
  have settled := settled_of_calm calm
  have answer := alarmClear_replied flies awake form (parseAlarmClear_flags x y z [] low (by simp)) (alarmClear_calm calm)
    (by rw [settled]; exact calm) (by rw [settled]; exact room)
  rw [settled] at answer; exact answer

/-- With no alarm of the set there is nothing to clear. -/
theorem clearAndSetAgain_of_clear {u : State} {set : BitVec 23} (clear : u.safety.alarms &&& set = 0) :
    u.clearAndSetAgain set = u := by
  have none (al : Alarm) : (al.within set && u.alarmSet al) = false := by
    rw [Bool.and_comm]
    have bit : (u.safety.alarms &&& set).getLsbD al.code = false := by rw [clear]; exact BitVec.getLsbD_zero
    rw [BitVec.getLsbD_and] at bit
    exact bit
  have again : u.setAgain set = [] := by
    rw [State.setAgain, List.filter_eq_nil_iff]
    intro al _
    rw [none al]; simp
  have kept : u.safety.alarms &&& ~~~set = u.safety.alarms := by
    refine BitVec.eq_of_getLsbD_eq fun i hi => ?_
    have bit : (u.safety.alarms &&& set).getLsbD i = false := by rw [clear]; exact BitVec.getLsbD_zero
    rw [BitVec.getLsbD_and] at bit
    rw [BitVec.getLsbD_and, BitVec.getLsbD_not, decide_eq_true hi, Bool.true_and]
    cases h : u.safety.alarms.getLsbD i <;> simp_all
  have nothing : popcount (u.safety.alarms &&& set) = 0 := by rw [clear]; decide
  have count : u.safety.count + BitVec.ofNat 8 (popcount (u.safety.alarms &&& set)) = u.safety.count := by
    rw [nothing]; exact BitVec.add_zero _
  rw [clearAndSetAgain_eq, again, List.foldl_nil, State.clearAlarms]
  dsimp only
  rw [kept, count]; rfl

/-- A set that names only clear alarms (R178). -/
theorem alarmClear_nothing {x y z : Byte} (flies : s.flies r) (awake : s.awake = true) (room : s.room 1 = true)
    (low : x.toNat < 128) (form : r = fromPeer a 3 11 [x, y, z])
    (clear : s.safety.alarms &&& BitVec.ofNat 23 (x.toNat * 65536 + y.toNat * 256 + z.toNat) = 0) :
    exec .alarmClear s = .next ((s.endDecode r).replied r a .ok) := by
  have same := clearAndSetAgain_of_clear (u := s.endDecode r) clear
  have answer := alarmClear_at_once flies awake low form (by rw [same]; exact calm_of_awake (awake_endDecode awake r))
    (by rw [same]; exact room)
  rw [same] at answer
  have quiet : ((s.endDecode r).replied r a .ok).finish = (s.endDecode r).replied r a .ok := finish_withFrame awake r _
  have calm : ((s.endDecode r).replied r a .ok).calm = true :=
    (calm_of_awake (awake_endDecode awake r) : (s.endDecode r).calm = true)
  rw [answer, ← finish_of_calm calm, quiet]

end

end Sys2Proof.Machine
end


section
/-! PROOFS. ALARM CLEAR of any set, of an alarm that does not last and of one that does; MAP CLEAR. -/

namespace Sys2Proof.Machine

theorem setWithin_of_not_within {s : State} (within : s.safety.within = false) : s.setWithin false = s := by
  have same : s.safety = { s.safety with within := false } := by rw [← within]
  rw [State.setWithin, ← same]; rfl

/-- What a set that is cleared leaves, with no notices sent (R175, R177, R178). -/
structure ClearedSet (s t : State) (a : Nat) (named : BitVec 23) : Prop where
  alarms : ∀ al, t.alarmSet al = (s.alarmSet al && (!al.within named || s.lasts al))
  count : t.safety.count = s.safety.count + BitVec.ofNat 8 (
    (Alarm.all.filter fun al => al.within named && s.alarmSet al).length +
    (Alarm.all.filter fun al => al.within named && s.alarmSet al && s.lasts al).length)
  motion : (∀ ax, (s.axisCfg ax).holdMask &&& named = 0) → t.motion = s.motion
  outcome : ∃ f ∈ t.line.queue, f.cls = 4 ∧ f.kind = 1 ∧ f.dest = a ∧ f.onLine = false ∧
    f.payload = some [0x6B, 0, t.safety.count, s.pLow]

theorem not_within_of_disjoint {al : Alarm} {x y : BitVec 23} (disjoint : x &&& y = 0) (inside : al.within x = true) :
    al.within y = false := by
  have bit : (x &&& y).getLsbD al.code = false := by rw [disjoint]; exact BitVec.getLsbD_zero
  rw [BitVec.getLsbD_and] at bit
  rw [Alarm.within] at inside
  rw [inside, Bool.true_and] at bit
  exact bit

section
variable {s : State} {a : Nat} {r : Request}

/-- The OUTCOME of an ALARM CLEAR (R73). -/
theorem alarmClear_outcome {p : List Byte} (form : r = fromPeer a 3 11 p) (u : State) :
    u.outcomeFrame a r.clsKind.1 r.clsKind.2 r.named .ok false =
      { cls := 4, kind := 1, dest := a, onLine := false, payload := some [0x6B, 0, u.safety.count, u.pLow] } := by
  rw [form]; rfl

/-- A state that only follows its holds answers and ends so. -/
theorem cleared_of_open {p : List Byte} {named alarms : BitVec 23} {v : State} (form : r = fromPeer a 3 11 p)
    (calm : s.calm = true) (room : s.room 2 = true)
    (written : v = (s.endDecode r).setSafety { s.safety with alarms := alarms, count := s.safety.count + BitVec.ofNat 8 (
      (Alarm.all.filter fun al => al.within named && s.alarmSet al).length +
      (Alarm.all.filter fun al => al.within named && s.alarmSet al && s.lasts al).length) })
    (stands : ∀ al : Alarm, al.within alarms = (s.alarmSet al && (!al.within named || s.lasts al))) :
    v.settled.calm = true ∧ v.settled.room 1 = true ∧ ClearedSet s (v.settled.replied r a .ok).publish a named := by
  obtain ⟨none, within, synced, -, -⟩ := (calm_iff s).1 calm
  have few : v.filled ≤ 7 := by rw [written]; exact filled_of_room room
  have opened : Open v := ⟨by rw [written]; exact none, by rw [written]; exact within, roomy_of_filled few⟩
  obtain ⟨ended, alarmsW, countW, short⟩ := opened.settled_calm (by rw [written]; exact synced) few
  have trails := trails_settled v
  have time : v.settled.time = s.time := by rw [trails.time, written]; rfl
  have loader : v.settled.loader = s.loader := by rw [trails.loader, written]; rfl
  have sends : v.settled.sends = true := by
    simp only [State.room, Bool.and_eq_true] at room
    rw [State.sends, State.station, loader]; exact room.1
  refine ⟨ended, ?_, ?_, ?_, fun disjoint => ?_, ?_⟩
  · rw [State.room, sends]; simpa using short
  · intro al
    rw [State.alarmSet, publish_safety]
    show al.within v.settled.safety.alarms = _
    rw [alarmsW, written]; exact stands al
  · rw [publish_safety]
    show v.settled.safety.count = _
    rw [countW, written]; rfl
  · have still : v.calm = true := by
      rw [written]
      refine calm_of_same_holds (s := s.endDecode r) calm fun ax al inside => ?_
      rw [stands, not_within_of_disjoint (disjoint ax) inside]
      simp [State.alarmSet, State.endDecode]
    rw [publish_motion, settled_of_calm still, written]; rfl
  · have low : v.settled.pLow = s.pLow := by rw [State.pLow, time]; rfl
    rw [publish_line, publish_safety, State.replied, alarmClear_outcome form, low]
    exact ⟨_, List.mem_append_right _ (List.mem_singleton.2 rfl), rfl, rfl, rfl, rfl, rfl⟩

/-- Any set of alarms (R178). -/
theorem alarmClear_set {x y z : Byte} {named : BitVec 23} (flies : s.flies r) (awake : s.awake = true) (low : x.toNat < 128)
    (form : r = fromPeer a 3 11 [x, y, z]) (which : named = BitVec.ofNat 23 (x.toNat * 65536 + y.toNat * 256 + z.toNat))
    (room : s.room 2 = true) (notice : s.cfg.reportMask = 0)
    (free : ((s.endDecode r).clearAndSetAgain named).heldAgain = false) :
    ∃ t, exec .alarmClear s = .next t ∧ ClearedSet s t a named := by
  obtain ⟨alarms, written, stands⟩ := clearAndSetAgain_unreported (s := s.endDecode r) (set := named) notice
  obtain ⟨calm, roomW, cleared⟩ := cleared_of_open form (calm_of_awake awake) room written stands
  have within : ((s.endDecode r).clearAndSetAgain named).safety.within = false := by
    rw [written]; exact ((calm_iff s).1 (calm_of_awake awake)).2.1
  have ran : (s.endDecode r).alarmClear (named, none) = (.ok, (s.endDecode r).clearAndSetAgain named) := by
    rw [alarmClear_none, State.foresee, free, setWithin_of_not_within within]
  have parsed := parseAlarmClear_flags x y z [] low (by simp)
  rw [← which] at parsed
  exact ⟨_, alarmClear_replied flies awake form parsed ran calm roomW, cleared⟩

/-! ## One alarm -/

theorem filter_within_mask (al : Alarm) : (Alarm.all.filter fun b => b.within al.mask) = [al] := by
  have each : ∀ al ∈ Alarm.all, (Alarm.all.filter fun b => b.within al.mask) = [al] := by decide
  exact each al (mem_all al)

theorem filter_one (al : Alarm) (keep : Alarm → Bool) :
    (Alarm.all.filter fun b => b.within al.mask && keep b) = if keep al then [al] else [] := by
  have split : (Alarm.all.filter fun b => b.within al.mask && keep b) = (Alarm.all.filter fun b => b.within al.mask).filter keep := by
    rw [List.filter_filter]
    exact List.filter_congr fun b _ => Bool.and_comm _ _
  rw [split, filter_within_mask]
  cases h : keep al <;> simp [h]

/-- One alarm that is set and does not last (R178). -/
theorem clearAndSetAgain_one {u : State} {al : Alarm} (set : u.alarmSet al = true) (ended : u.lasts al = false) :
    u.clearAndSetAgain al.mask = u.setSafety { u.safety with
      alarms := u.safety.alarms &&& ~~~al.mask, count := u.safety.count + 1 } := by
  have again : u.setAgain al.mask = [] := by
    have whole := filter_one al fun b => u.alarmSet b && u.lasts b
    simp only [set, ended, Bool.and_false, Bool.false_eq_true, if_false] at whole
    rw [State.setAgain, ← whole]
    exact List.filter_congr fun b _ => Bool.and_assoc _ _ _
  have one : popcount (u.safety.alarms &&& al.mask) = 1 := by
    rw [popcount_cleared, filter_one, set]; rfl
  rw [clearAndSetAgain_eq, again, List.foldl_nil, State.clearAlarms, one]; rfl

/-- One alarm that is set and lasts is set again: the set stands, and the count has a step for each (R177). -/
theorem clearAndSetAgain_lasting {u : State} {al : Alarm} (set : u.alarmSet al = true) (lasts : u.lasts al = true) :
    u.clearAndSetAgain al.mask =
      if al.within u.cfg.reportMask then
        (u.setSafety { u.safety with alarms := u.safety.alarms, count := u.safety.count + 2 }).offer
          { cls := 0, kind := 1, dest := 127, payload := some [byteOf al.code, u.safety.count + 2], onLine := false }
      else u.setSafety { u.safety with alarms := u.safety.alarms, count := u.safety.count + 2 } := by
  have again : u.setAgain al.mask = [al] := by
    have whole := filter_one al fun b => u.alarmSet b && u.lasts b
    simp only [set, lasts, Bool.and_true, if_true] at whole
    rw [State.setAgain, ← whole]
    exact List.filter_congr fun b _ => Bool.and_assoc _ _ _
  have one : popcount (u.safety.alarms &&& al.mask) = 1 := by
    rw [popcount_cleared, filter_one, set]; rfl
  have back : u.safety.alarms &&& ~~~al.mask ||| al.mask = u.safety.alarms := by
    refine BitVec.eq_of_getLsbD_eq fun i hi => ?_
    rw [BitVec.getLsbD_or, BitVec.getLsbD_and, BitVec.getLsbD_not, decide_eq_true hi, Bool.true_and]
    cases bit : al.mask.getLsbD i
    · simp
    · have code : i = al.code := by
        rw [Alarm.mask, BitVec.getLsbD_shiftLeft, BitVec.getLsbD_one] at bit
        simp only [Bool.and_eq_true, decide_eq_true_eq, Bool.not_eq_true', decide_eq_false_iff_not] at bit
        omega
      have here : u.safety.alarms.getLsbD i = true := by rw [code]; exact set
      simp [here]
  have two : u.safety.count + BitVec.ofNat 8 1 + 1 = u.safety.count + 2 := by
    rw [BitVec.add_assoc]; rfl
  rw [clearAndSetAgain_eq, again, List.foldl_cons, List.foldl_nil, State.setAlarm, State.clearAlarms, one]
  dsimp only [State.setSafety_safety, State.setSafety_cfg]
  rw [back, two]; rfl

end

end Sys2Proof.Machine
end


section
/-! PROOFS. ALARM CLEAR and MAP CLEAR, assembled. -/

namespace Sys2Proof.Machine

section
variable {s : State} {a : Nat} {r : Request}

/-- A calm state of the same axes is left where the alarms that a hold mask names stand. -/
theorem calm_of_same_alarms {s : State} (calm : s.calm = true) (count : Byte) :
    (s.setSafety { s.safety with alarms := s.safety.alarms, count := count }).calm = true :=
  calm_of_same_holds calm fun _ _ _ => rfl

/-- INTERLOCK_A alone, in no hold mask (R178). -/
theorem alarmClear_interlock (flies : s.flies r) (awake : s.awake = true) (room : s.room 1 = true)
    (form : r = fromPeer a 3 11 [0, 0x80, 0]) (set : s.alarmSet (.interlock .A) = true)
    (inert : ∀ ax, (Alarm.interlock .A).within (s.axisCfg ax).holdMask = false) :
    ∃ t, exec .alarmClear s = .next t ∧ t.safety.alarms = s.safety.alarms &&& ~~~(Alarm.interlock .A).mask ∧
      t.safety.count = s.safety.count + 1 ∧ t.motion = s.motion := by
  have mask : BitVec.ofNat 23 ((0 : Byte).toNat * 65536 + (0x80 : Byte).toNat * 256 + (0 : Byte).toNat) =
      (Alarm.interlock .A).mask := by decide
  have cleared := clearAndSetAgain_one (u := s.endDecode r) set rfl
  have calm : ((s.endDecode r).clearAndSetAgain (Alarm.interlock .A).mask).calm = true := by
    rw [cleared]
    refine calm_of_same_holds (calm_of_awake (awake_endDecode awake r)) fun ax al inside => ?_
    have other : al ≠ .interlock .A := by
      rintro rfl
      have inside : (Alarm.interlock .A).within (s.axisCfg ax).holdMask = true := inside
      rw [inert ax] at inside; cases inside
    have stands := clearAlarms_alarmSet (s.endDecode r) (Alarm.interlock .A).mask al
    rw [within_mask, decide_eq_false other, Bool.not_false, Bool.and_true] at stands
    exact stands
  have answer := alarmClear_at_once flies awake (by decide) form (by rw [mask]; exact calm) (by rw [mask, cleared]; exact room)
  rw [mask, cleared] at answer
  refine ⟨_, answer, ?_, ?_, ?_⟩
  · rw [publish_safety]; rfl
  · rw [publish_safety]; rfl
  · rw [publish_motion]; rfl

/-- ALLSTOP_SEEN under ALLSTOP: cleared and set again, with a notice or without (R176, R177). -/
theorem alarmClear_allstop (flies : s.flies r) (awake : s.awake = true) (form : r = fromPeer a 3 11 [0, 0, 1])
    (set : s.alarmSet .allstopSeen = true) (present : s.line.allstop = true) :
    (s.cfg.reportMask = 0 → s.room 1 = true →
      ∃ t, exec .alarmClear s = .next t ∧ t.safety.alarms = s.safety.alarms ∧
        t.safety.count = s.safety.count + 2 ∧ t.motion = s.motion) ∧
    (Alarm.allstopSeen.within s.cfg.reportMask = true → s.room 2 = true →
      ∃ t, exec .alarmClear s = .next t ∧ t.safety.alarms = s.safety.alarms ∧
        t.safety.count = s.safety.count + 2 ∧ t.motion = s.motion ∧ t.line.queue = s.line.queue ++ [
          { cls := 0, kind := 1, dest := 127, onLine := false, payload := some [0, s.safety.count + 2] },
          { cls := 4, kind := 1, dest := a, onLine := false,
            payload := some [0x6B, 0, s.safety.count + 2, s.pLow] }]) := by
  have mask : BitVec.ofNat 23 ((0 : Byte).toNat * 65536 + (0 : Byte).toNat * 256 + (1 : Byte).toNat) =
      Alarm.allstopSeen.mask := by decide
  have cleared := clearAndSetAgain_lasting (u := s.endDecode r) (al := .allstopSeen) set present
  have still := calm_of_same_alarms (calm_of_awake (awake_endDecode awake r)) (s.safety.count + 2)
  constructor
  · intro notice room
    have out : Alarm.allstopSeen.within (s.endDecode r).cfg.reportMask = false := by
      show Alarm.allstopSeen.within s.cfg.reportMask = false
      rw [notice]; rfl
    rw [out, if_neg (by decide)] at cleared
    have answer := alarmClear_at_once flies awake (by decide) form (by rw [mask, cleared]; exact still)
      (by rw [mask, cleared]; exact room)
    rw [mask, cleared] at answer
    refine ⟨_, answer, ?_, ?_, ?_⟩
    · rw [publish_safety]; rfl
    · rw [publish_safety]; rfl
    · rw [publish_motion]; rfl
  · intro notice room
    have report : Alarm.allstopSeen.within (s.endDecode r).cfg.reportMask = true := notice
    rw [report, if_pos rfl, offer_of_room (n := 1) (by exact room)] at cleared
    have room1 : ((s.endDecode r).clearAndSetAgain Alarm.allstopSeen.mask).room 1 = true := by
      rw [cleared]
      simp only [State.room, Bool.and_eq_true, decide_eq_true_eq] at room ⊢
      refine ⟨room.1, ?_⟩
      show (s.line.queue ++ [_]).length + 1 ≤ 8
      rw [List.length_append, List.length_singleton]; exact room.2
    have answer := alarmClear_at_once flies awake (by decide) form (by rw [mask, cleared]; exact still)
      (by rw [mask]; exact room1)
    rw [mask, cleared] at answer
    refine ⟨_, answer, ?_, ?_, ?_, ?_⟩
    · rw [publish_safety]; rfl
    · rw [publish_safety]; rfl
    · rw [publish_motion]; rfl
    · rw [publish_line, State.replied, alarmClear_outcome form]
      exact List.append_assoc s.line.queue [_] [_]

/-- MAP CLEAR (R37). -/
theorem exec_mapClear (flies : s.flies r) (awake : s.awake = true) (room : s.room 1 = true) (form : r = fromPeer a 3 12 []) :
    exec .mapClear s = .next (((s.endDecode r).setTime { s.time with arrivals := 0 }).replied r a .ok) := by
  have completion : (completionOf r == .mapClear) = true := by rw [form]; rfl
  have payload : r.payload = [] := by rw [form]; rfl
  have arm : exec .mapClear s = completing s .mapClear fun r s =>
    respond r (parseNothing r.payload) (fun _ s => (.ok, s.setTime { s.time with arrivals := 0 })) s := rfl
  have parsed : parseNothing [] = .ok () := rfl
  have same : ((s.endDecode r).setTime { s.time with arrivals := 0 }).awake = s.awake :=
    awake_congr rfl rfl rfl rfl rfl rfl rfl rfl rfl rfl rfl rfl rfl
  have answer := answer_of_awake (u := (s.endDecode r).setTime { s.time with arrivals := 0 }) (r := r) (a := a)
    (by rw [same]; exact awake) room (by rw [form]; rfl) (by rw [form]; rfl) .ok
  rw [arm, completing_of_flies flies completion, event_of_due (running_of_awake awake) rfl, payload, parsed, ← answer]; rfl

end

/-- Settles O54: each clause of ALARM CLEAR from what the set it names leaves, and MAP CLEAR. -/
theorem alarmsAndMapAreCleared : Obligations.AlarmsAndMapAreCleared := by
  unfold Obligations.AlarmsAndMapAreCleared
  intro s a r flies awake room
  refine ⟨fun x y z count low other form => alarmClear_refused flies awake room low other form,
    fun x y z low form clear => alarmClear_nothing flies awake room low form clear,
    fun x y z named low form which room2 notice free => ?_,
    fun form set inert => alarmClear_interlock flies awake room form set inert,
    fun form set present => ?_,
    fun form => exec_mapClear flies awake room form⟩
  · obtain ⟨t, answer, cleared⟩ := alarmClear_set flies awake low form which room2 notice free
    exact ⟨t, answer, cleared.alarms, cleared.count, cleared.motion, cleared.outcome⟩
  · obtain ⟨unreported, reported⟩ := alarmClear_allstop flies awake form set present
    exact ⟨fun notice => unreported notice room, reported⟩

end Sys2Proof.Machine
end


section
/-! PROOFS. The counts of a boundary that bring no event of their own: what they leave of the axes, the lights, the pool and the
holds, and that a calm station stays calm under them. -/

namespace Sys2Proof.Machine

/-- What the counts of a boundary leave: of an axis they write the lease, the stall count and the blanking, of the hold-off a step
that does not end it; and they owe no step of a slot. -/
structure Counts (s t : State) : Prop where
  cfg : t.cfg = s.cfg
  switches : ∀ ax d, t.switchPin ax d = s.switchPin ax d
  level : ∀ k : Fin 8, (t.cmd.keys[k]).level = (s.cmd.keys[k]).level
  lock : t.time.lock = s.time.lock
  engine : t.time.engine = s.time.engine
  allstop : t.line.allstop = s.line.allstop
  estop : t.line.estop = s.line.estop
  content : t.peer.content = s.peer.content
  channels : t.light.channels = s.light.channels
  pool : t.pool = s.pool
  sense : t.sense = s.sense
  axis : ∀ ax, t.axis ax = { s.axis ax with
    lease := (t.axis ax).lease, stallCount := (t.axis ax).stallCount, blanking := (t.axis ax).blanking }
  ends : ∀ ax, (s.axis ax).leaseAfter = some 0 → (t.axis ax).leaseAfter = some 0
  safety : t.safety = { s.safety with holdOff := t.safety.holdOff }
  holdOff : 0 < t.safety.holdOff ↔ 0 < s.safety.holdOff
  owed : ∀ o ∈ s.owed, o ∈ t.owed
  steps : ∀ k, Owed.slotStep k ∈ t.owed → Owed.slotStep k ∈ s.owed

theorem Counts.trans {s t u : State} (h : Counts s t) (k : Counts t u) : Counts s u where
  cfg := k.cfg.trans h.cfg
  switches := fun ax d => (k.switches ax d).trans (h.switches ax d)
  level := fun x => (k.level x).trans (h.level x)
  lock := k.lock.trans h.lock
  engine := k.engine.trans h.engine
  allstop := k.allstop.trans h.allstop
  estop := k.estop.trans h.estop
  content := k.content.trans h.content
  channels := k.channels.trans h.channels
  pool := k.pool.trans h.pool
  sense := k.sense.trans h.sense
  axis := fun ax => by rw [k.axis, h.axis]
  ends := fun ax => k.ends ax ∘ h.ends ax
  safety := by rw [k.safety, h.safety]
  holdOff := k.holdOff.trans h.holdOff
  owed := fun o mem => k.owed o (h.owed o mem)
  steps := fun x mem => h.steps x (k.steps x mem)

/-! ## The writes -/

section
variable (s : State)

theorem Counts.refl : Counts s s :=
  ⟨rfl, fun _ _ => rfl, fun _ => rfl, rfl, rfl, rfl, rfl, rfl, rfl, rfl, rfl, fun _ => rfl, fun _ => id, rfl, Iff.rfl,
    fun _ => id, fun _ => id⟩

theorem counts_setTime {x : TimeBase} (lock : x.lock = s.time.lock) (engine : x.engine = s.time.engine) : Counts s (s.setTime x) :=
  { Counts.refl s with lock := lock, engine := engine }

theorem counts_setLine {x : LineUnit} (allstop : x.allstop = s.line.allstop) (estop : x.estop = s.line.estop) :
    Counts s (s.setLine x) :=
  { Counts.refl s with allstop := allstop, estop := estop }

theorem counts_setPins {x : Pins} (minusA : x.minusA = s.pins.minusA) (plusA : x.plusA = s.pins.plusA)
    (minusB : x.minusB = s.pins.minusB) (plusB : x.plusB = s.pins.plusB) : Counts s (s.setPins x) :=
  { Counts.refl s with switches := fun ax d => by cases ax <;> cases d <;> assumption }

theorem counts_setPeer {x : PeerUnit} (content : x.content = s.peer.content) : Counts s (s.setPeer x) :=
  { Counts.refl s with content := content }

theorem counts_setCmd {x : CommandUnit} (level : ∀ k : Fin 8, (x.keys[k]).level = (s.cmd.keys[k]).level) : Counts s (s.setCmd x) :=
  { Counts.refl s with level := level }

theorem counts_setLight {x : LightUnit} (channels : x.channels = s.light.channels) : Counts s (s.setLight x) :=
  { Counts.refl s with channels := channels }

theorem counts_setHoldOff {n : Nat} (holdOff : 0 < n ↔ 0 < s.safety.holdOff) :
    Counts s (s.setSafety { s.safety with holdOff := n }) :=
  { Counts.refl s with safety := rfl, holdOff := holdOff }

theorem counts_owes {l : List Owed} (none : ∀ k, Owed.slotStep k ∉ l) : Counts s (s.setOwed (s.owed ++ l)) :=
  { Counts.refl s with
    owed := fun _ mem => List.mem_append_left _ mem
    steps := fun k mem => (List.mem_append.1 mem).resolve_right (none k) }

theorem counts_owe {o : Owed} (other : ∀ k, o ≠ .slotStep k) : Counts s (s.owe o) :=
  counts_owes s fun k mem => other k (List.mem_singleton.1 mem).symm

theorem counts_oweIf {o : Owed} (c : Bool) (other : ∀ k, o ≠ .slotStep k) : Counts s (s.oweIf c o) := by
  unfold State.oweIf; split
  · exact counts_owe s other
  · exact .refl s

theorem counts_setAxis (ax : Axis) {r : AxisRecord}
    (same : r = { s.axis ax with lease := r.lease, stallCount := r.stallCount, blanking := r.blanking })
    (ends : (s.axis ax).leaseAfter = some 0 → r.leaseAfter = some 0) : Counts s (s.setAxis ax r) where
  cfg := by simp
  switches := fun x d => by cases ax <;> rfl
  level := fun k => by simp
  lock := by simp
  engine := by simp
  allstop := by simp
  estop := by simp
  content := by simp
  channels := by simp
  pool := by simp
  sense := by simp
  axis := fun x => by
    rw [setAxis_axis_eq]; split
    · next e => subst e; exact same
    · rfl
  ends := fun x h => by
    rw [setAxis_axis_eq]; split
    · next e => subst e; exact ends h
    · exact h
  safety := by simp
  holdOff := by simp
  owed := fun o mem => by simpa using mem
  steps := fun k mem => by simpa using mem

theorem counts_stepOrOwe {ends : Bool} {o : Owed} {step : State → State} (other : ∀ k, o ≠ .slotStep k)
    (h : ends = false → Counts s (step s)) : Counts s (s.stepOrOwe ends o step) := by
  unfold State.stepOrOwe; split
  · exact counts_owe s other
  · next going => exact h (by simpa using going)

theorem counts_foldl {α : Type} {step : State → α → State} (h : ∀ s a, Counts s (step s a)) (l : List α) (s : State) :
    Counts s (l.foldl step s) := by
  induction l generalizing s with
  | nil => exact .refl s
  | cons a l ih => exact (h s a).trans (ih _)

/-! ## The counts -/

theorem counts_openPeriod (level : s.time.slew = 0) : Counts s s.openPeriod := by
  have lock : lockAfter s.time.slew s.time.lock = s.time.lock := by simp [lockAfter, level]
  exact counts_setTime s lock rfl

theorem counts_countSilenceTimer : Counts s s.countSilenceTimer := by
  refine counts_stepOrOwe s (by simp) fun going => ?_
  unfold State.silenceTimerStep
  split
  · exact .refl s
  · next standby =>
    split
    · exact counts_setTime s rfl rfl
    · next last =>
      simp only [Bool.and_eq_false_iff, beq_eq_false_iff_ne, decide_eq_false_iff_not] at going
      exact (going.elim standby fun more => more (by omega)).elim

theorem counts_countReference : Counts s s.countReference := by
  refine counts_stepOrOwe s (by simp) fun going => ?_
  unfold State.referenceStep
  split
  · exact .refl s
  · next held =>
    split
    · exact counts_setTime s rfl rfl
    · next last =>
      simp only [Bool.and_eq_false_iff, decide_eq_false_iff_not] at going
      exact (going.elim (fun none => held (by simpa using none)) fun more => more (by omega)).elim

theorem counts_countSilence : Counts s s.countSilence := by
  refine counts_stepOrOwe s (by simp) fun going => ?_
  unfold State.silenceStep; dsimp only
  split
  · exact .refl s
  · next waits =>
    split
    · exact counts_setLine s rfl rfl
    · next last =>
      simp only [not_or, not_le] at waits
      simp only [Bool.and_eq_false_iff, bne_eq_false_iff_eq, beq_eq_false_iff_ne] at going
      exact (going.elim waits.1 fun more => more (by omega)).elim

theorem counts_countRelease (asserted : Bool) : Counts s (s.countRelease asserted) := by
  have sampled : Counts s ((s.setPins { s.pins with estop := asserted }).setLine { s.line with estopSeen := false }) := by
    refine .trans (counts_setPins s ?_ ?_ ?_ ?_) (counts_setLine _ ?_ ?_) <;> rfl
  unfold State.countRelease; dsimp only
  split
  · refine sampled.trans (counts_setLine _ ?_ ?_) <;> rfl
  · split
    · exact sampled.trans (counts_owe _ (by simp))
    · refine sampled.trans (counts_setLine _ ?_ ?_) <;> rfl

theorem counts_countAges : Counts s s.countAges := by
  refine .trans (counts_setPeer s (x := { s.peer with table := s.peer.table.map fun e => if e.lapses then e else e.aged }) rfl)
    (counts_owes _ fun k mem => ?_)
  obtain ⟨e, -, h⟩ := List.mem_map.1 mem
  cases h

theorem counts_countKey (k : Fin 8) : Counts s (s.countKey k) := by
  refine counts_stepOrOwe s (fun j => ?_) fun going => ?_
  · unfold State.keyEvent; split <;> simp
  · unfold State.keyStep; dsimp only
    rw [going]
    refine counts_setCmd s fun j => ?_
    by_cases same : j = k
    · subst same; simp [KeyRecord.counted]
    · have apart : k.val ≠ j.val := fun e => same (Fin.ext e.symm)
      simp [apart]

theorem counts_countKeys (keys : BitVec 8) : Counts s (s.countKeys keys) := by
  have pins : Counts s (s.setPins { s.pins with keys := keys }) := counts_setPins s rfl rfl rfl rfl
  unfold State.countKeys; dsimp only
  split
  · exact pins
  · exact pins.trans (counts_foldl (fun t k => counts_countKey t k) _ _)

theorem counts_countRun : Counts s s.countRun := by
  refine counts_stepOrOwe s (by simp) fun going => ?_
  unfold State.runStepNow
  split
  · exact .refl s
  · split
    · exact .refl s
    · split <;> exact counts_setLight s rfl

end

end Sys2Proof.Machine
end


section
/-! PROOFS. The counts of the axes, the hold-off, the schedule list and the announcements, and all counts of a boundary
together. -/

namespace Sys2Proof.Machine

/-! ## An axis -/

/-- The lease's step, where it does not end, writes the lease alone (R149). -/
theorem leaseStep_going {s : State} {ax : Axis} (going : (s.axis ax).leaseAfter ≠ some 0) :
    ∃ l, s.leaseStep ax = s ∨ s.leaseStep ax = s.setAxis ax { s.axis ax with lease := l } := by
  unfold State.leaseStep; dsimp only
  split
  · next ended => exact absurd ended going
  · exact ⟨_, .inr rfl⟩
  · exact ⟨none, .inl rfl⟩

theorem counts_leaseStep {s : State} {ax : Axis} (going : (s.axis ax).leaseAfter ≠ some 0) :
    Counts s (s.leaseStep ax) ∧ ((s.leaseStep ax).axis ax).stallCount = (s.axis ax).stallCount := by
  obtain ⟨l, h | h⟩ := leaseStep_going going <;> rw [h]
  · exact ⟨.refl s, rfl⟩
  · exact ⟨counts_setAxis s ax rfl fun ended => absurd ended going, by simp⟩

/-- The stall count's step, where it does not end, writes the count alone (R156). -/
theorem counts_stallStep {s : State} {ax : Axis}
    (going : ((s.axis ax).state.guarded && (s.axisCfg ax).stallTime ≤ (s.axis ax).stallCount + 1) = false) :
    Counts s (s.stallStep ax) := by
  unfold State.stallStep; dsimp only
  split
  · exact .refl s
  · next guarded =>
    split
    · exact counts_setAxis s ax rfl id
    · next last =>
      simp only [Bool.and_eq_false_iff, decide_eq_false_iff_not] at going
      exact (going.elim (fun free => guarded (by rw [free]; rfl)) fun more => more (by omega)).elim

theorem counts_blankingStep (s : State) (ax : Axis) : Counts s (s.blankingStep ax) := by
  unfold State.blankingStep; dsimp only
  split
  · exact counts_setAxis s ax rfl id
  · exact .refl s

theorem counts_countAxis (s : State) (ax : Axis) : Counts s (s.countAxis ax) := by
  unfold State.countAxis; dsimp only
  generalize first : s.stepOrOwe ((s.axis ax).leaseAfter == some 0) (.leaseEnd ax) (fun s => s.leaseStep ax) = u
  have leased : Counts s u ∧ (u.axis ax).stallCount = (s.axis ax).stallCount := by
    rw [← first, State.stepOrOwe]
    split
    · exact ⟨counts_owe s (by simp), rfl⟩
    · next going => exact counts_leaseStep (by simpa using going)
  obtain ⟨counts, stalls⟩ := leased
  have state : (u.axis ax).state = (s.axis ax).state := by rw [counts.axis]
  have cfg : u.axisCfg ax = s.axisCfg ax := by simp [State.axisCfg, counts.cfg]
  refine (counts.trans (counts_stepOrOwe u (by simp) fun going => counts_stallStep ?_)).trans
    (counts_stepOrOwe _ (by simp) fun _ => counts_blankingStep _ ax)
  rw [state, stalls, cfg]; exact going

/-- A lease that would end is owed instead (R149). -/
theorem leaseEnd_owed {s : State} {ax : Axis} (ended : (s.axis ax).leaseAfter = some 0) : Owed.leaseEnd ax ∈ (s.countAxis ax).owed := by
  unfold State.countAxis; dsimp only
  have owed : s.stepOrOwe ((s.axis ax).leaseAfter == some 0) (.leaseEnd ax) (fun s => s.leaseStep ax) = s.owe (.leaseEnd ax) := by
    rw [State.stepOrOwe, ended]; rfl
  have noted : Owed.leaseEnd ax ∈ (s.owe (.leaseEnd ax)).owed := List.mem_append_right _ (List.mem_singleton.2 rfl)
  rw [owed]
  refine Counts.owed ((counts_stepOrOwe (s.owe (.leaseEnd ax)) (by simp) fun going => counts_stallStep ?_).trans
    (counts_stepOrOwe _ (by simp) fun _ => counts_blankingStep _ ax)) _ noted
  exact going

/-! ## The rest -/

theorem counts_countHoldOff (s : State) : Counts s s.countHoldOff := by
  refine counts_stepOrOwe s (by simp) fun going => counts_setHoldOff s ?_
  have more : s.safety.holdOff ≠ 1 := by simpa using going
  omega

theorem counts_countAnnounce (s : State) : Counts s s.countAnnounce := by
  refine counts_stepOrOwe s (by simp) fun going => ?_
  unfold State.announceCountStep
  split
  · exact .refl s
  · next sends =>
    split
    · exact counts_setPeer s rfl
    · next last =>
      simp only [Bool.and_eq_false_iff, decide_eq_false_iff_not] at going
      exact (going.elim (fun silent => sends (by rw [silent]; rfl)) fun more => more (by omega)).elim

/-- What the counts before those of the axes leave. -/
def State.countFirst (s : State) (keys : BitVec 8) (asserted : Bool) : State :=
  ((((s.countSilenceTimer.countReference.countSilence.countRelease asserted).countAges).countKeys keys).countRun)

/-- The counts after those of the axes. -/
def State.countLast (s : State) : State := s.countHoldOff.countSchedule.countBeacon.countAnnounce

theorem countPeriod_eq (s : State) (keys : BitVec 8) (asserted : Bool) :
    s.countPeriod keys asserted = (((s.countFirst keys asserted).countAxis .A).countAxis .B).countLast := rfl

theorem counts_countFirst (s : State) (keys : BitVec 8) (asserted : Bool) : Counts s (s.countFirst keys asserted) :=
  (((((((counts_countSilenceTimer s).trans (counts_countReference _)).trans (counts_countSilence _)).trans
    (counts_countRelease _ asserted)).trans (counts_countAges _)).trans (counts_countKeys _ keys)).trans (counts_countRun _))

theorem counts_countLast (s : State) : Counts s s.countLast :=
  (((counts_countHoldOff s).trans (counts_oweIf _ _ (by simp))).trans (counts_oweIf _ _ (by simp))).trans (counts_countAnnounce _)

/-- What a boundary has counted where it finds no slew (R25). -/
theorem counts_period {s : State} (level : s.time.slew = 0) (keys : BitVec 8) (asserted : Bool) :
    Counts s (s.openPeriod.countPeriod keys asserted) :=
  ((counts_openPeriod s level).trans (counts_countFirst _ keys asserted)).trans
    (((counts_countAxis _ .A).trans (counts_countAxis _ .B)).trans (counts_countLast _))

/-- A lease that ends at the boundary is owed when the pool steps (R110, R149). -/
theorem leaseEnd_owed_period {s : State} {ax : Axis} (level : s.time.slew = 0) (ended : (s.axis ax).leaseAfter = some 0)
    (keys : BitVec 8) (asserted : Bool) : Owed.leaseEnd ax ∈ (s.openPeriod.countPeriod keys asserted).owed := by
  rw [countPeriod_eq]
  refine (counts_countLast _).owed _ ?_
  have before := ((counts_openPeriod s level).trans (counts_countFirst _ keys asserted)).ends ax ended
  cases ax with
  | A => exact (counts_countAxis _ .B).owed _ (leaseEnd_owed before)
  | B => exact leaseEnd_owed ((counts_countAxis _ .A).ends .B before)

/-! ## What the counts leave of a calm station -/

theorem Counts.contentNow {s t : State} (h : Counts s t) : t.contentNow = s.contentNow := by
  have states (ax : Axis) : (t.axis ax).state = (s.axis ax).state := by rw [h.axis]
  have axesCfg : ∀ ax, t.axisCfg ax = s.axisCfg ax := by intro ax; simp [State.axisCfg, h.cfg]
  have reads : ∀ ax d, t.switchRead ax d = s.switchRead ax d := by
    intro ax d; simp [State.switchRead, h.switches, axesCfg]
  have flags : t.flagValue = s.flagValue := by
    funext f
    cases f with
    | key k => exact congrArg (· == some KeyLevel.pressed) (h.level k)
    | _ => simp [State.flagValue, reads, states, h.estop, h.sense]
  have demand : t.demandNow = s.demandNow := by simp [State.demandNow, State.axisDemand, states, axesCfg]
  have stateA : t.motion.a.state = s.motion.a.state := states .A
  have stateB : t.motion.b.state = s.motion.b.state := states .B
  simp [State.contentNow, State.flagsNow, flags, h.cfg, demand, stateA, stateB, h.lock, h.engine]

theorem Counts.axisSafety {s t : State} (h : Counts s t) (ax : Axis) : t.axisSafety ax = s.axisSafety ax := by
  cases ax <;> simp only [State.axisSafety] <;> rw [h.safety]

theorem Counts.heldNow {s t : State} (h : Counts s t) (ax : Axis) : t.heldNow ax = s.heldNow ax := by
  have cfg : t.axisCfg ax = s.axisCfg ax := by simp [State.axisCfg, h.cfg]
  have counts (a : Alarm) : t.alarmCounts a = s.alarmCounts a := by
    rw [State.alarmCounts, State.alarmSet, h.safety]; rfl
  rw [Bool.eq_iff_iff, heldNow_iff, heldNow_iff, h.allstop, h.estop, h.holdOff, cfg]
  simp only [counts]

theorem Counts.calm {s t : State} (h : Counts s t) (calm : s.calm = true) : t.calm = true := by
  obtain ⟨none, within, synced, -, -⟩ := (calm_iff s).1 calm
  have within' : t.safety.within = false := by rw [h.safety]; exact within
  have fits (ax : Axis) : t.holdStale ax = false := by
    simp [State.holdStale, State.holdOn, within', h.heldNow, h.axisSafety, held_of_calm calm]
  exact (calm_iff t).2 ⟨by rw [h.safety]; exact none, within', by rw [h.contentNow, h.content]; exact synced, fits .A, fits .B⟩

theorem Counts.lawful {s t : State} (h : Counts s t) (lawful : s.slotsLawful) : t.slotsLawful := by
  have slot (ax : Axis) : (t.axis ax).slot = (s.axis ax).slot := by rw [h.axis]
  have state (ax : Axis) : (t.axis ax).state = (s.axis ax).state := by rw [h.axis]
  refine slotsLawful_congr h.pool (fun k => fadesOn_congr fun i => by rw [h.channels]) slot (fun ax _ moving => ?_) lawful
  rw [state]; exact moving

end Sys2Proof.Machine
end


section
/-! PROOFS. The stepping of the Ramp Pool at a boundary with no event before it: taken whole, or owed whole. -/

namespace Sys2Proof.Machine

/-! ## What the boundary owes -/

theorem stepDue_iff (s : State) (k : Fin 16) : s.stepDue k = true ↔ Owed.slotStep k ∈ s.owed := by
  rw [State.stepDue, List.contains_iff_mem]

theorem slotStep_mem_oweSteps {u : State} (given : List (Fin 16)) (k : Fin 16) : Owed.slotStep k ∈ (u.oweSteps given).owed ↔
    Owed.slotStep k ∈ u.owed ∨ u.stepsNow given k = true := by
  have owed : (u.oweSteps given).owed = u.owed ++ ((List.finRange 16).filter (u.stepsNow given)).map Owed.slotStep := rfl
  rw [owed, List.mem_append, List.mem_map]
  refine or_congr Iff.rfl ⟨?_, fun now => ⟨k, List.mem_filter.2 ⟨List.mem_finRange k, now⟩, rfl⟩⟩
  rintro ⟨j, mem, same⟩
  obtain rfl : j = k := by simpa using same
  exact (List.mem_filter.1 mem).2

theorem stepsNow_iff (s : State) (given : List (Fin 16)) (k : Fin 16) : s.stepsNow given k = true ↔
    ∃ slot, s.pool[k] = some slot ∧ ¬(k ∈ given ∧ slot.elapsed = 0) := by
  rw [State.stepsNow]
  cases busy : s.pool[k] with
  | none => simp
  | some slot => simp [imp_iff_not_or]

theorem stepsNow_of_pool {s u : State} (pool : u.pool = s.pool) (given : List (Fin 16)) (k : Fin 16) :
    u.stepsNow given k = s.stepsNow given k := by rw [State.stepsNow, State.stepsNow, pool]

theorem stepsNow_nil (s : State) (k : Fin 16) : s.stepsNow [] k = s.pool[k].isSome := by
  rw [State.stepsNow]
  cases s.pool[k] <;> rfl

/-! ## The stepping taken at once -/

theorem takeSteps_of_none {s : State} (none : s.completingSlots = []) :
    s.takeSteps = (s.stepSlots s.stepDue).setOwed (s.owed.filter fun o => !isSlotStep o) := by
  rw [State.takeSteps, none]; rfl

/-- A stepping in which nothing completes leaves a calm state calm. -/
theorem stepSlots_calm {s : State} (calm : s.calm = true) (due : Fin 16 → Bool) (l : List Owed) :
    ((s.stepSlots due).setOwed l).calm = true := by
  have states (ax : Axis) : ((s.stepSlots due).axis ax).state = (s.axis ax).state := by rw [stepSlots_axis]
  obtain ⟨m, x, p, same⟩ : ∃ m x p, s.stepSlots due = ((s.setMotion m).setLight x).setPool p := ⟨_, _, _, rfl⟩
  rw [same] at states ⊢
  have content : ((((s.setMotion m).setLight x).setPool p).setOwed l).contentNow = s.contentNow :=
    contentNow_of_states rfl rfl rfl (fun _ => rfl) states rfl rfl
  obtain ⟨none, within, synced, staleA, staleB⟩ := (calm_iff s).1 calm
  exact (calm_iff _).2 ⟨none, within, content.trans synced, staleA, staleB⟩

/-- What the boundary has counted and owes, before its pool steps. -/
structure Stepping (s : State) (given : List (Fin 16)) (v : State) : Prop where
  calm : v.calm = true
  channels : v.light.channels = s.light.channels
  pool : v.pool = s.pool
  axis : ∀ ax, v.axis ax = { s.axis ax with
    lease := (v.axis ax).lease, stallCount := (v.axis ax).stallCount, blanking := (v.axis ax).blanking }
  due : ∀ k, v.stepDue k = s.stepsNow given k

theorem stepping {s : State} (awake : s.awake = true) (none : s.owed = []) (level : s.time.slew = 0) (keys : BitVec 8)
    (asserted : Bool) (given : List (Fin 16)) :
    Stepping s given ((s.openPeriod.countPeriod keys asserted).oweSteps given) := by
  have counts := counts_period level keys asserted
  generalize s.openPeriod.countPeriod keys asserted = u at *
  refine ⟨(counts.calm (calm_of_awake awake) : u.calm = true), counts.channels, counts.pool, counts.axis, fun k => ?_⟩
  have free : Owed.slotStep k ∉ u.owed := fun mem => by
    have := counts.steps k mem
    rw [none] at this; cases this
  rw [Bool.eq_iff_iff, stepDue_iff, slotStep_mem_oweSteps, stepsNow_of_pool counts.pool]
  exact or_iff_right free

section
variable {s v : State} {given : List (Fin 16)} (h : Stepping s given v)
include h

theorem Stepping.owed (k : Fin 16) : Owed.slotStep k ∈ v.owed ↔
    ∃ slot, s.pool[k] = some slot ∧ ¬(k ∈ given ∧ slot.elapsed = 0) := by
  rw [← stepDue_iff, h.due, stepsNow_iff]

/-- Nothing completes where every slot that steps has a further step. -/
theorem Stepping.none_completes (young : ∀ (k : Fin 16) (slot : Slot), s.pool[k] = some slot → slot.elapsed + 1 < slot.length) :
    v.completingSlots = [] := by
  rw [State.completingSlots, List.filter_eq_nil_iff]
  intro k _
  rw [Bool.and_eq_true, State.lastStep, h.pool]
  rintro ⟨-, last⟩
  cases busy : s.pool[k] with
  | none => rw [busy] at last; cases last
  | some slot =>
    rw [busy] at last
    have := young k slot busy
    have : slot.length ≤ slot.elapsed + 1 := by simpa using last
    omega

/-- Something completes where a slot that steps has none. -/
theorem Stepping.some_completes {k : Fin 16} {slot : Slot} (due : s.stepsNow given k = true) (busy : s.pool[k] = some slot)
    (last : slot.length ≤ slot.elapsed + 1) : v.completingSlots ≠ [] := by
  have mem : k ∈ v.completingSlots := by
    rw [State.completingSlots, List.mem_filter]
    refine ⟨List.mem_finRange k, ?_⟩
    rw [h.due, due, State.lastStep, h.pool, busy]; simpa using last
  exact List.ne_nil_of_mem mem

end

/-! ## Taken -/

/-- What the stepping makes of the station, where nothing completes (R108). -/
structure Taken (s t : State) (given : List (Fin 16)) : Prop where
  owed : ∀ k, Owed.slotStep k ∉ t.owed
  pool : ∀ k : Fin 16, t.pool[k] = if s.stepsNow given k then s.pool[k].map Slot.stepped else s.pool[k]
  channels : ∀ i : Fin 24, t.light.channels[i] = s.light.channels[i].stepped (dueSlots s.pool (s.stepsNow given))
  axis : ∀ ax, (t.axis ax).state = (s.axis ax).state ∧ (t.axis ax).token = (s.axis ax).token ∧
    (t.axis ax).position = (s.axis ax).position ∧
    (t.axis ax).duty = (s.axis ax).steppedDuty (dueSlots s.pool (s.stepsNow given))

theorem steppedDuty_congr {r x : AxisRecord} (state : x.state = r.state) (slot : x.slot = r.slot) (duty : x.duty = r.duty)
    (stepping : Vector (Option Slot) 16) : x.steppedDuty stepping = r.steppedDuty stepping := by
  rw [AxisRecord.steppedDuty, AxisRecord.steppedDuty, state, slot, duty]

theorem Stepping.taken {s v : State} {given : List (Fin 16)} (h : Stepping s given v) (none : v.completingSlots = []) :
    Taken s v.takeSteps.finish given := by
  have dues : v.stepDue = s.stepsNow given := funext h.due
  have axes := h.axis
  rw [takeSteps_of_none none, dues, finish_of_calm (stepSlots_calm h.calm _ _)]
  refine ⟨fun k mem => ?_, fun k => ?_, fun i => ?_, fun ax => ?_⟩
  · rw [publish_owed] at mem
    have := (List.mem_filter.1 mem).2
    cases this
  · rw [publish_pool]
    show (v.stepSlots (s.stepsNow given)).pool[k] = _
    rw [stepSlots_pool, h.pool]
  · rw [publish_channels]
    show (v.stepSlots (s.stepsNow given)).light.channels[i] = _
    simp only [State.stepSlots, State.setPool_light, State.setLight_light, Fin.getElem_fin, Vector.getElem_ofFn, h.channels, h.pool]
  · rw [publish_axis]
    have same : ((v.stepSlots (s.stepsNow given)).setOwed (v.owed.filter fun o => !isSlotStep o)).axis ax =
        (v.stepSlots (s.stepsNow given)).axis ax := rfl
    have record := axes ax
    have state : (v.axis ax).state = (s.axis ax).state := by rw [record]
    have slot : (v.axis ax).slot = (s.axis ax).slot := by rw [record]
    have duty : (v.axis ax).duty = (s.axis ax).duty := by rw [record]
    rw [same, stepSlots_axis, h.pool]
    refine ⟨state, ?_, ?_, steppedDuty_congr state slot duty _⟩
    · show (v.axis ax).token = _; rw [record]
    · show (v.axis ax).position = _; rw [record]

/-! ## Owed -/

/-- What a boundary leaves that owes the stepping. -/
structure Waits (s t : State) (given : List (Fin 16)) : Prop where
  pool : t.pool = s.pool
  channels : t.light.channels = s.light.channels
  axis : ∀ ax, (t.axis ax).state = (s.axis ax).state ∧ (t.axis ax).token = (s.axis ax).token ∧
    (t.axis ax).position = (s.axis ax).position ∧ (t.axis ax).duty = (s.axis ax).duty
  owed : ∀ k : Fin 16, Owed.slotStep k ∈ t.owed ↔ ∃ slot, s.pool[k] = some slot ∧ ¬(k ∈ given ∧ slot.elapsed = 0)

theorem Stepping.waits {s v : State} {given : List (Fin 16)} (h : Stepping s given v) : Waits s v.finish given := by
  rw [finish_of_calm h.calm]
  refine ⟨by rw [publish_pool, h.pool], by rw [publish_channels, h.channels], fun ax => ?_, fun k => ?_⟩
  · have record := h.axis ax
    rw [publish_axis]
    refine ⟨?_, ?_, ?_, ?_⟩ <;> rw [record]
  · rw [publish_owed]; exact h.owed k

/-- What a boundary with no event before the stepping answers. -/
theorem boundary_cases {s : State} (awake : s.awake = true) (none : s.owed = []) (level : s.time.slew = 0) (keys : BitVec 8)
    (asserted later : Bool) (given : List (Fin 16)) : ∃ v t, Stepping s given v ∧
      exec (.periodBoundary keys { estopRead := asserted, given := given, stepsLater := later }) s = .next t ∧
      ((later = false ∧ v.completingSlots = [] ∧ Taken s t given) ∨
        ((later = true ∨ v.completingSlots ≠ []) ∧ Waits s t given)) := by
  have h := stepping awake none level keys asserted given
  have answer := exec_periodBoundary (keys := keys)
    (found := { estopRead := asserted, given := given, stepsLater := later }) (running_of_awake awake) none
  have pool : (s.openPeriod.countPeriod keys asserted).stepPool { estopRead := asserted, given := given, stepsLater := later } =
      if !later && ((s.openPeriod.countPeriod keys asserted).oweSteps given).completingSlots.isEmpty then
        ((s.openPeriod.countPeriod keys asserted).oweSteps given).takeSteps
      else (s.openPeriod.countPeriod keys asserted).oweSteps given := rfl
  dsimp only at answer
  rw [pool] at answer
  generalize (s.openPeriod.countPeriod keys asserted).oweSteps given = v at *
  refine ⟨v, _, h, answer, ?_⟩
  by_cases now : (!later && v.completingSlots.isEmpty) = true
  · rw [if_pos now]
    simp only [Bool.and_eq_true, Bool.not_eq_true', List.isEmpty_iff] at now
    exact .inl ⟨now.1, now.2, h.taken now.2⟩
  · rw [if_neg now]
    refine .inr ⟨?_, h.waits⟩
    simp only [Bool.and_eq_true, Bool.not_eq_true', List.isEmpty_iff, not_and] at now
    cases later with
    | true => exact .inl rfl
    | false => exact .inr (now rfl)

end Sys2Proof.Machine
end


section
/-! PROOFS. A boundary steps every busy slot, or owes the step of each; a slot given at the instant does neither (R108, R110). -/

namespace Sys2Proof.Machine

/-! ## One step, read off -/

theorem dueSlots_get (pool : Vector (Option Slot) 16) (due : Fin 16 → Bool) (k : Fin 16) :
    (dueSlots pool due)[k] = if due k then pool[k] else none := by
  simp [dueSlots]

theorem Channel.stepped_of_none {c : Channel} (free : c.fade = none) (stepping : Vector (Option Slot) 16) :
    c.stepped stepping = c := by
  rw [Channel.stepped, free]

/-- A channel that fades on a slot that does not step stands. -/
theorem Channel.stepped_of_idle {c : Channel} {f : Fade} {stepping : Vector (Option Slot) 16} (fade : c.fade = some f)
    (idle : stepping[f.slot] = none) : c.stepped stepping = c := by
  rw [Channel.stepped, fade]
  simp only [stepsTo, idle]

/-- A channel that fades on a slot with a further step takes R108's level. -/
theorem Channel.stepped_level {c : Channel} {f : Fade} {stepping : Vector (Option Slot) 16} {slot : Slot} (fade : c.fade = some f)
    (steps : stepping[f.slot] = some slot) (young : slot.elapsed + 1 < slot.length) :
    (c.stepped stepping).level = interpolate f.start f.goal (slot.elapsed + 1) slot.length := by
  rw [Channel.stepped, fade]
  simp only [stepsTo, steps, if_pos young]

theorem AxisRecord.steppedDuty_of_idle {r : AxisRecord} {k : Fin 16} {stepping : Vector (Option Slot) 16} (holds : r.slot = some k)
    (idle : stepping[k] = none) : r.steppedDuty stepping = r.duty := by
  rw [AxisRecord.steppedDuty, holds]
  simp only [idle]
  split <;> rfl

/-- A motor-powered axis on a slot of its own with a further step takes R108's duty. -/
theorem AxisRecord.steppedDuty_motor {r : AxisRecord} {k : Fin 16} {stepping : Vector (Option Slot) 16} {slot : Slot} {ax : Axis}
    {start goal : Nat} (powered : r.state.motorPowered = true) (holds : r.slot = some k) (steps : stepping[k] = some slot)
    (owner : slot.owner = .motor ax start goal) (young : slot.elapsed + 1 < slot.length) :
    r.steppedDuty stepping = interpolate start goal (slot.elapsed + 1) slot.length := by
  rw [AxisRecord.steppedDuty, if_pos powered, holds]
  simp only [steps, Option.map_some, Option.getD_some, motorStep, owner, if_pos young]

/-! ## No slot given at the instant -/

theorem due_of_busy {s : State} {k : Fin 16} {slot : Slot} (busy : s.pool[k] = some slot) :
    (dueSlots s.pool (s.stepsNow []))[k] = some slot := by
  rw [dueSlots_get, stepsNow_nil, busy]; rfl

section
variable {s t : State} (h : Taken s t [])
include h

theorem Taken.pool_stepped (young : ∀ (k : Fin 16) (slot : Slot), s.pool[k] = some slot → slot.elapsed + 1 < slot.length)
    (k : Fin 16) : t.pool[k] = s.pool[k].map fun slot => { slot with elapsed := slot.elapsed + 1 } := by
  rw [h.pool, stepsNow_nil]
  cases busy : s.pool[k] with
  | none => rfl
  | some slot => exact congrArg some (if_pos (young k slot busy))

theorem Taken.level {i : Fin 24} {f : Fade} {slot : Slot} (fade : s.light.channels[i].fade = some f)
    (busy : s.pool[f.slot] = some slot) (young : slot.elapsed + 1 < slot.length) :
    t.light.channels[i].level = interpolate f.start f.goal (slot.elapsed + 1) slot.length := by
  rw [h.channels]
  exact Channel.stepped_level fade (due_of_busy busy) young

theorem Taken.duty {ax : Axis} {k : Fin 16} {slot : Slot} {start goal : Nat} (holds : (s.axis ax).slot = some k)
    (busy : s.pool[k] = some slot) (young : slot.elapsed + 1 < slot.length) (owner : slot.owner = .motor ax start goal)
    (powered : (s.axis ax).state.motorPowered = true) :
    (t.axis ax).duty = interpolate start goal (slot.elapsed + 1) slot.length := by
  obtain ⟨-, -, -, duty⟩ := h.axis ax
  rw [duty]
  exact AxisRecord.steppedDuty_motor powered holds (due_of_busy busy) owner young

end

/-- Taken or owed, the stepping leaves the axes' states, tokens and positions and the channels without a fade. -/
theorem stepping_leaves {s t : State} {given : List (Fin 16)} (h : Taken s t given ∨ Waits s t given) :
    (∀ ax, (t.axis ax).state = (s.axis ax).state ∧ (t.axis ax).token = (s.axis ax).token ∧
      (t.axis ax).position = (s.axis ax).position) ∧
    ∀ i : Fin 24, s.light.channels[i].fade = none → t.light.channels[i] = s.light.channels[i] := by
  rcases h with taken | waits
  · refine ⟨fun ax => ?_, fun i free => ?_⟩
    · obtain ⟨state, token, position, -⟩ := taken.axis ax
      exact ⟨state, token, position⟩
    · rw [taken.channels]; exact Channel.stepped_of_none free _
  · refine ⟨fun ax => ?_, fun i _ => by rw [waits.channels]⟩
    obtain ⟨state, token, position, -⟩ := waits.axis ax
    exact ⟨state, token, position⟩

/-- A slot at n = 0 given at the instant stands and owes nothing, and so do the channels that fade on it (R110). -/
theorem given_stands {s t : State} {given : List (Fin 16)} (h : Taken s t given ∨ Waits s t given) {k : Fin 16} {slot : Slot}
    (mem : k ∈ given) (busy : s.pool[k] = some slot) (fresh : slot.elapsed = 0) :
    t.pool[k] = some slot ∧ Owed.slotStep k ∉ t.owed ∧
      ∀ (i : Fin 24) (f : Fade), s.light.channels[i].fade = some f → f.slot = k → t.light.channels[i] = s.light.channels[i] := by
  rcases h with taken | waits
  · have idle : s.stepsNow given k = false := by
      rw [Bool.eq_false_iff, Ne, stepsNow_iff, busy]
      rintro ⟨x, same, other⟩
      obtain rfl := Option.some.inj same
      exact other ⟨mem, fresh⟩
    refine ⟨by rw [taken.pool, idle]; exact busy, taken.owed k, fun i f fade on => ?_⟩
    subst on
    rw [taken.channels]
    refine Channel.stepped_of_idle fade ?_
    rw [dueSlots_get, idle]; rfl
  · refine ⟨by rw [waits.pool]; exact busy, fun mem' => ?_, fun i f _ _ => by rw [waits.channels]⟩
    obtain ⟨x, same, other⟩ := (waits.owed k).1 mem'
    obtain rfl := Option.some.inj (busy.symm.trans same)
    exact other ⟨mem, fresh⟩

end Sys2Proof.Machine
end


section
/-! PROOFS. An axis in STOPPING rides its ramp slot through everything that follows in the same instant: no alarm, hold or stop of
the other axis takes the slot from it. -/

namespace Sys2Proof.Machine

/-! ## What leaves the pool -/

theorem offer_pool (s : State) (f : SendFrame) : (s.offer f).pool = s.pool := by
  unfold State.offer; split
  · dsimp only; split <;> simp
  · rfl

theorem announceRequest_pool (s : State) : s.announceRequest.pool = s.pool := by
  unfold State.announceRequest; split
  · dsimp only; split
    · rw [offer_pool]; rfl
    · split <;> rfl
  · rfl

theorem announceRequests_pool (n : Nat) (s : State) : (State.announceRequests n s).pool = s.pool := by
  induction n generalizing s with
  | zero => rfl
  | succ n ih => exact (ih _).trans (announceRequest_pool s)

theorem syncContent_pool (s : State) : s.syncContent.pool = s.pool := by
  unfold State.syncContent; split
  · rfl
  · rw [announceRequests_pool]; rfl

theorem enter_pool (s : State) (ax : Axis) (st : AxisState) : (s.enter ax st).pool = s.pool := by
  unfold State.enter; dsimp only; split
  · rfl
  · rw [syncContent_pool]; split
    · exact State.setAxis_pool s ax _
    · exact State.setAxis_pool s ax _

theorem followHold_pool (s : State) (ax : Axis) : (s.followHold ax).pool = s.pool := by
  unfold State.followHold; dsimp only; split
  · rfl
  · split <;> simp only [enter_pool, State.setAxisSafety_pool]

theorem setAlarm_pool (s : State) (a : Alarm) : (s.setAlarm a).pool = s.pool := by
  unfold State.setAlarm; dsimp only; split
  · exact offer_pool _ _
  · rfl

/-! ## What leaves one slot -/

theorem releaseSlot_pool {s : State} {ax : Axis} {k : Fin 16} (other : (s.axis ax).slot ≠ some k) :
    (s.releaseSlot ax).pool[k] = s.pool[k] := by
  unfold State.releaseSlot; split
  · next j held =>
    have apart : j.val ≠ k.val := fun e => other (by rw [held, Fin.ext e])
    simp [Vector.getElem_set_ne _ _ apart]
  · rfl

theorem toStopping_pool {s : State} {ax : Axis} {k : Fin 16} (reason : StopReason) (other : (s.axis ax).slot ≠ some k) :
    (s.toStopping ax reason).pool[k] = s.pool[k] := by
  have same : (s.toStopping ax reason).pool = (s.releaseSlot ax).pool := (enter_pool _ _ _).trans (State.setAxis_pool _ _ _)
  rw [same]; exact releaseSlot_pool other

theorem rest_pool {s : State} {ax : Axis} {k : Fin 16} (other : (s.axis ax).slot ≠ some k) :
    (s.rest ax).pool[k] = s.pool[k] := by
  have same : (s.rest ax).pool = (s.releaseSlot ax).pool := (enter_pool _ _ _).trans (State.setAxis_pool _ _ _)
  rw [same]; exact releaseSlot_pool other

theorem giveMotor_pool (s : State) (ax : Axis) (n a b : Nat) (k : Fin 16) :
    (s.giveMotor ax n a b k).pool = s.pool.set k (some (motorSlot ax n a b)) := by
  simp [State.giveMotor, State.giveSlot]

section
variable {s : State} {k : Fin 16} {slot : Slot} {ax : Axis} {start goal : Nat}

/-- A ramp slot that is asked for is free or seized from lights, so no axis's slot is given (R106, R113). -/
theorem askMotor_pool (busy : s.pool[k] = some slot) (owner : slot.owner = .motor ax start goal) (x : Axis) (n a b : Nat) :
    (s.askMotor x n a b).pool[k] = some slot := by
  unfold State.askMotor; split
  · next j free =>
    have apart : j.val ≠ k.val := fun e => by
      obtain rfl := Fin.ext e
      rw [freeSlot_some free] at busy; cases busy
    rw [giveMotor_pool]
    simpa [Vector.getElem_set_ne _ _ apart] using busy
  · split
    · next j seized =>
      obtain ⟨y, found, light⟩ := seizedSlot_light seized
      have apart : j.val ≠ k.val := fun e => by
        obtain rfl := Fin.ext e
        rw [found] at busy
        obtain rfl := Option.some.inj busy
        rw [light] at owner; cases owner
      rw [raise_pool, giveMotor_pool, completeLight_pool]
      simpa [Vector.getElem_set_ne _ _ apart] using busy
    · exact busy

/-- A stop of an axis leaves a slot that the axis does not hold, if an axis has it. -/
theorem stopMoving_pool (busy : s.pool[k] = some slot) (owner : slot.owner = .motor ax start goal) {x : Axis}
    (other : (s.axis x).state.moves = true → (s.axis x).slot ≠ some k) (reason : StopReason) :
    (s.stopMoving reason x).pool[k] = some slot := by
  unfold State.stopMoving; split
  · next moving =>
    have released : (s.toStopping x reason).pool[k] = some slot := (toStopping_pool reason (other moving)).trans busy
    have bare := toStopping_slot s x reason
    rw [enterStopping_eq]; dsimp only
    generalize s.toStopping x reason = u at *
    split
    · rw [rest_pool (by simp [bare])]
      simpa using released
    · exact askMotor_pool released owner x _ _ _
  · exact busy

end

/-! ## Riding a slot -/

/-- An axis in STOPPING holds a slot of the pool, which owes no step, in a station that keeps the law for ramp slots. -/
structure Rides (ax : Axis) (k : Fin 16) (r : AxisRecord) (slot : Slot) (s : State) : Prop where
  lawful : s.slotsLawful
  axis : s.axis ax = r
  state : r.state = .stopping
  holds : r.slot = some k
  busy : s.pool[k] = some slot
  settledUp : Owed.slotStep k ∉ s.owed

namespace Rides

section
variable {ax : Axis} {k : Fin 16} {r : AxisRecord} {slot : Slot} {s t : State}

/-- The slot an axis rides is its own MOTOR slot (R111). -/
theorem owner (h : Rides ax k r slot s) : ∃ start goal, slot.owner = .motor ax start goal := by
  obtain ⟨x, start, goal, busy, owner, -⟩ := motorSlot_of_named h.lawful (ax := ax) (k := k) (by rw [h.axis]; exact h.holds)
  obtain rfl := Option.some.inj (h.busy.symm.trans busy)
  exact ⟨start, goal, owner⟩

theorem not_moves (h : Rides ax k r slot s) : (s.axis ax).state.moves = false := by rw [h.axis, h.state]; rfl

/-- No axis that moves holds the slot. -/
theorem apart (h : Rides ax k r slot s) {x : Axis} (moving : (s.axis x).state.moves = true) : (s.axis x).slot ≠ some k := by
  obtain ⟨_, _, _, -, -, -, only⟩ := motorSlot_of_named h.lawful (ax := ax) (k := k) (by rw [h.axis]; exact h.holds)
  intro held
  obtain rfl := only x held
  rw [h.not_moves] at moving; cases moving

theorem step (h : Rides ax k r slot s) (trails : Trails s t) (rests : Rests s t) (busy : t.pool[k] = some slot) :
    Rides ax k r slot t where
  lawful := trails.slots h.lawful
  axis := (rests.still ax h.not_moves (by rw [h.axis, h.state]; rfl)).trans h.axis
  state := h.state
  holds := h.holds
  busy := busy
  settledUp := fun mem => h.settledUp (trails.owed.1.subset mem)

theorem leave (h : Rides ax k r slot s) (trails : Trails s t) (rests : Rests s t) (pool : t.pool = s.pool) : Rides ax k r slot t :=
  h.step trails rests (by rw [pool]; exact h.busy)

theorem newlySet (h : Rides ax k r slot s) (a : Alarm) (x : Axis) : Rides ax k r slot (s.newlySet a x) := by
  obtain ⟨start, goal, owner⟩ := h.owner
  refine h.step (trails_newlySet s a x) (.of_axis (fun _ => (trails_newlySet s a x).firm)
    fun _ still => newlySet_axis_of_not_moves s a x still) ?_
  unfold State.newlySet; split
  · exact stopMoving_pool h.busy owner h.apart _
  · exact h.busy

theorem takeReport (h : Rides ax k r slot s) (a : Alarm) : Rides ax k r slot (s.takeReport a) := by
  unfold State.takeReport; split
  · exact h
  · exact ((h.leave (trails_setAlarm s a) ((trails_setAlarm s a).rests_of_motion (setAlarm_motion s a))
      (setAlarm_pool s a)).newlySet a .A).newlySet a .B

theorem followHold (h : Rides ax k r slot s) (x : Axis) : Rides ax k r slot (s.followHold x) :=
  h.leave (trails_followHold s x) (rests_followHold s x) (followHold_pool s x)

theorem setRaised (h : Rides ax k r slot s) (l : List Alarm) : Rides ax k r slot (s.setSafety { s.safety with raised := l }) :=
  h.leave (trails_setRaised s l) (rests_setRaised s l) rfl

theorem syncContent (h : Rides ax k r slot s) : Rides ax k r slot s.syncContent :=
  h.leave (trails_syncContent s) (rests_syncContent s) (syncContent_pool s)

theorem settle (n : Nat) (h : Rides ax k r slot s) : Rides ax k r slot (s.settle n) := by
  induction n generalizing s with
  | zero => exact h.leave (trails_seal s) ((trails_seal s).rests_of_motion rfl) rfl
  | succ n ih =>
    unfold State.settle; dsimp only; split
    · exact ih ((h.syncContent.setRaised _).takeReport _)
    · split
      · exact ih ((h.syncContent.followHold .A).followHold .B)
      · exact h.syncContent

theorem settled (h : Rides ax k r slot s) : Rides ax k r slot s.settled := settle 128 h

theorem finish (h : Rides ax k r slot s) : Rides ax k r slot s.finish := by
  have within : Rides ax k r slot (s.setWithin false) :=
    ⟨slotsLawful_congr rfl (fun _ => rfl) (fun _ => rfl) (fun _ _ => id) h.lawful, h.axis, h.state, h.holds, h.busy, h.settledUp⟩
  exact within.settled.leave (trails_publish _) ((trails_publish _).rests_of_motion (publish_motion _)) (publish_pool _)

/-- A slot that owes no step stands while the pool steps, and so does the axis on it (R110). -/
theorem takeSteps (h : Rides ax k r slot s) (none : s.completingSlots = []) : Rides ax k r slot s.takeSteps := by
  have idle : s.stepDue k = false := by
    rw [Bool.eq_false_iff, Ne, stepDue_iff]; exact h.settledUp
  have lawful := (orderly_takeSteps s).slots h.lawful
  rw [takeSteps_of_none none] at lawful ⊢
  refine ⟨lawful, ?_, h.state, h.holds, ?_, fun mem => h.settledUp (List.mem_filter.1 mem).1⟩
  · have same : ((s.stepSlots s.stepDue).setOwed (s.owed.filter fun o => !isSlotStep o)).axis ax =
        (s.stepSlots s.stepDue).axis ax := rfl
    rw [same, stepSlots_axis, h.axis, AxisRecord.steppedDuty_of_idle h.holds (by rw [dueSlots_get, idle]; rfl)]
  · show (s.stepSlots s.stepDue).pool[k] = _
    rw [stepSlots_pool, idle]; exact h.busy

end

end Rides

end Sys2Proof.Machine
end


section
/-! PROOFS. A lease that ends at a boundary before the pool steps gives its axis a ramp-down slot that does not step at it (R110,
R149); and the settling of the boundary's statement. -/

namespace Sys2Proof.Machine

/-! ## The slot that the stop is given -/

theorem freeSlot_set_none {pool : Vector (Option Slot) 16} (free : (freeSlot pool).isSome = true) (j : Fin 16) :
    (freeSlot (pool.set j none)).isSome = true := by
  rw [freeSlot, List.find?_isSome] at free ⊢
  obtain ⟨k, mem, empty⟩ := free
  refine ⟨k, mem, ?_⟩
  by_cases same : j.val = k.val
  · obtain rfl := Fin.ext same
    simp
  · simpa [Vector.getElem_set_ne _ _ same] using empty

theorem toStopping_freeSlot {s : State} {ax : Axis} (free : (freeSlot s.pool).isSome = true) (reason : StopReason) :
    (freeSlot (s.toStopping ax reason).pool).isSome = true := by
  have same : (s.toStopping ax reason).pool = (s.releaseSlot ax).pool := (enter_pool _ _ _).trans (State.setAxis_pool _ _ _)
  rw [same]
  unfold State.releaseSlot; split
  · rw [State.setAxis_pool]; exact freeSlot_set_none free _
  · exact free

/-- Each slot owes at most one step at a boundary (R108). -/
theorem slotStep_once {u : State} (none : ∀ k, Owed.slotStep k ∉ u.owed) (given : List (Fin 16)) (k : Fin 16) :
    (u.oweSteps given).owed.count (.slotStep k) ≤ 1 := by
  have owed : (u.oweSteps given).owed = u.owed ++ ((List.finRange 16).filter (u.stepsNow given)).map Owed.slotStep := rfl
  have once : (((List.finRange 16).filter (u.stepsNow given)).map Owed.slotStep).Nodup :=
    ((List.nodup_finRange 16).filter _).map fun _ _ same => by simpa using same
  rw [owed, List.count_append, List.count_eq_zero_of_not_mem (none k), Nat.zero_add]
  exact List.nodup_iff_count_le_one.1 once _

theorem not_mem_erase_of_count {l : List Owed} {o : Owed} (once : l.count o ≤ 1) : o ∉ l.erase o := by
  rw [← List.count_eq_zero, List.count_erase_self]; omega

/-- The record of an axis that enters STOPPING on a new slot, at the duty that it had (R145). -/
def AxisRecord.stoppedOn (r : AxisRecord) (k : Fin 16) (reason : StopReason) : AxisRecord :=
  { r with
    state := .stopping, token := r.token + 1, slot := some k, reason := reason, lease := none, stallCount := 0 }

/-- An axis that stops with a ramp-down, and a slot free, rides a new slot from its duty to 0 (R106, R145). -/
theorem rides_enterStopping {s : State} {ax : Axis} (lawful : s.slotsLawful) (moving : (s.axis ax).state.moves = true)
    (ramp : (s.axisCfg ax).rampDown ≠ 0) (free : (freeSlot s.pool).isSome = true)
    (once : ∀ k, s.owed.count (.slotStep k) ≤ 1) (reason : StopReason) :
    ∃ k, Rides ax k ((s.axis ax).stoppedOn k reason)
      (motorSlot ax (s.axisCfg ax).rampDown (s.axis ax).duty 0) (s.enterStopping ax reason) := by
  have formed := not_disabled_of_moves moving
  have other : (s.axis ax).state ≠ .stopping := fun e => by rw [e] at moving; cases moving
  have kept := (trails_enterStopping s ax reason formed).slots lawful
  have record := toStopping_axis_self s ax reason other
  have fewer := (trails_toStopping s ax reason formed).owed.1
  obtain ⟨k, found⟩ := Option.isSome_iff_exists.1 (toStopping_freeSlot (ax := ax) free reason)
  have given : s.enterStopping ax reason =
      (s.toStopping ax reason).giveMotor ax (s.axisCfg ax).rampDown (s.axis ax).duty 0 k := by
    rw [enterStopping_eq]; dsimp only
    rw [toStopping_axisCfg s ax reason formed, if_neg ramp, State.askMotor, found, record]
  rw [given] at kept ⊢
  refine ⟨k, kept, ?_, rfl, rfl, ?_, ?_⟩
  · rw [giveMotor_axis_self, record]; rfl
  · rw [giveMotor_pool]; simp
  · have owed : ((s.toStopping ax reason).giveMotor ax (s.axisCfg ax).rampDown (s.axis ax).duty 0 k).owed =
        (s.toStopping ax reason).owed.erase (.slotStep k) := by simp [State.giveMotor, State.giveSlot]
    rw [owed]
    exact not_mem_erase_of_count ((fewer.count_le _).trans (once k))

/-! ## The lease's end, before the pool steps -/

theorem leaseStep_of_ended {s : State} {ax : Axis} (ended : (s.axis ax).leaseAfter = some 0) :
    s.leaseStep ax = s.enterStopping ax .leaseEnd := by
  simp only [State.leaseStep, ended]

/-- What the lease's end leaves when it is carried out before the stepping (R149). -/
theorem rides_carryOwed {v : State} {ax : Axis} (lawful : v.slotsLawful) (ended : (v.axis ax).leaseAfter = some 0)
    (due : Owed.leaseEnd ax ∈ v.owed) (moving : (v.axis ax).state.moves = true) (ramp : (v.axisCfg ax).rampDown ≠ 0)
    (free : (freeSlot v.pool).isSome = true) (once : ∀ k, v.owed.count (.slotStep k) ≤ 1) :
    ∃ k, Rides ax k ((v.axis ax).stoppedOn k .leaseEnd)
      (motorSlot ax (v.axisCfg ax).rampDown (v.axis ax).duty 0) (v.carryOwed (.leaseEnd ax)) := by
  have carried : v.carryOwed (.leaseEnd ax) = ((v.disown (.leaseEnd ax)).enterStopping ax .leaseEnd).settled := by
    have step : (v.disown (.leaseEnd ax)).leaseStep ax = (v.disown (.leaseEnd ax)).enterStopping ax .leaseEnd :=
      leaseStep_of_ended ended
    rw [State.carryOwed, if_pos (by simpa using due)]
    exact congrArg State.settled step
  obtain ⟨k, rides⟩ := rides_enterStopping (s := v.disown (.leaseEnd ax)) (ax := ax)
    (slotsLawful_congr rfl (fun _ => rfl) (fun _ => rfl) (fun _ _ => id) lawful) moving ramp free
    (fun k => (List.erase_sublist.count_le _).trans (once k)) .leaseEnd
  rw [carried]
  exact ⟨k, rides.settled⟩

/-- A lease of one period left ends at the boundary (R149). -/
theorem leaseAfter_of_last {r : AxisRecord} {a : Nat} (lease : r.lease = some { holder := .peer a, remaining := 1 })
    (moving : r.state.moves = true) : r.leaseAfter = some 0 := by
  rw [AxisRecord.leaseAfter, lease]; dsimp only; rw [if_pos moving]

theorem stepPool_leaseEnd (u : State) (ax : Axis) (asserted : Bool) :
    u.stepPool { estopRead := asserted, early := [.leaseEnd ax] } =
      if ((u.oweSteps []).carryOwed (.leaseEnd ax)).completingSlots.isEmpty then
        ((u.oweSteps []).carryOwed (.leaseEnd ax)).takeSteps
      else (u.oweSteps []).carryOwed (.leaseEnd ax) := by
  simp only [State.stepPool, List.foldl_cons, List.foldl_nil, owedBy, Bool.not_false, Bool.true_and]

/-- The axis whose lease has ended rides its slot through the stepping and the end of the boundary. -/
theorem rides_stepPool {s u : State} {ax : Axis} {a : Nat} (counts : Counts s u) (none : s.owed = [])
    (due : Owed.leaseEnd ax ∈ u.owed) (lawful : s.slotsLawful)
    (lease : (s.axis ax).lease = some { holder := .peer a, remaining := 1 }) (moving : (s.axis ax).state.moves = true)
    (ramp : (s.axisCfg ax).rampDown ≠ 0) (free : (freeSlot s.pool).isSome = true) (asserted : Bool) :
    ∃ k r, Rides ax k r (motorSlot ax (s.axisCfg ax).rampDown (s.axis ax).duty 0)
        (u.stepPool { estopRead := asserted, early := [.leaseEnd ax] }).finish ∧
      r.reason = .leaseEnd ∧ r.lease = .none ∧ r.duty = (s.axis ax).duty := by
  have idle (k : Fin 16) : Owed.slotStep k ∉ u.owed := fun mem => by
    have := counts.steps k mem
    rw [none] at this; cases this
  have state : (u.axis ax).state = (s.axis ax).state := by rw [counts.axis]
  have duty : (u.axis ax).duty = (s.axis ax).duty := by rw [counts.axis]
  have cfg : u.axisCfg ax = s.axisCfg ax := by simp [State.axisCfg, counts.cfg]
  have ended := counts.ends ax (leaseAfter_of_last lease moving)
  rw [← state] at moving
  rw [← cfg] at ramp ⊢
  rw [← counts.pool] at free
  rw [← duty]
  obtain ⟨k, rides⟩ := rides_carryOwed (v := u.oweSteps []) (ax := ax)
    (slotsLawful_congr rfl (fun _ => rfl) (fun _ => rfl) (fun _ _ => id) (counts.lawful lawful))
    ended (List.mem_append_left _ due) moving ramp free (slotStep_once idle [])
  rw [stepPool_leaseEnd]
  refine ⟨k, (u.axis ax).stoppedOn k .leaseEnd, ?_, rfl, rfl, rfl⟩
  split
  · next young => exact (rides.takeSteps (List.isEmpty_iff.1 young)).finish
  · exact rides.finish

/-- Settles O18: the counts of the boundary bring no event of their own, so the stepping is taken whole or owed whole; and an axis
whose lease ends before it rides its new slot through the rest of the instant. -/
theorem boundaryStepsTheRamps : Obligations.BoundaryStepsTheRamps := by
  unfold Obligations.BoundaryStepsTheRamps
  intro keys asserted s awake none level
  refine ⟨?_, fun given => ⟨?_, fun k slot mem busy fresh => ?_⟩, fun ax a lawful lease moving ramp free => ?_⟩
  · obtain ⟨v, t, stepping, answer, cases⟩ := boundary_cases awake none level keys asserted false []
    have parts : Taken s t [] ∨ Waits s t [] := cases.imp (fun h => h.2.2) (fun h => h.2)
    obtain ⟨axes, fadeless⟩ := stepping_leaves parts
    refine ⟨t, answer, axes, fadeless, fun young => ?_, fun k slot busy last => ?_⟩
    · obtain ⟨-, -, taken⟩ := cases.resolve_right fun h =>
        h.1.elim (fun later => by cases later) fun ends => ends (stepping.none_completes young)
      exact ⟨fun k => ⟨taken.owed k, taken.pool_stepped young k⟩,
        fun i f fade slot busy => taken.level fade busy (young _ slot busy),
        fun ax k holds slot busy start goal owner powered => taken.duty holds busy (young k slot busy) owner powered⟩
    · have due : s.stepsNow [] k = true := by rw [stepsNow_nil, busy]; rfl
      obtain ⟨-, waits⟩ := cases.resolve_left fun h => stepping.some_completes due busy last h.2.1
      refine ⟨waits.pool, waits.channels, fun x => ?_, fun j => ?_⟩
      · obtain ⟨-, -, -, duty⟩ := waits.axis x
        exact duty
      · rw [waits.owed, Option.isSome_iff_exists]; simp
  · obtain ⟨v, t, -, answer, cases⟩ := boundary_cases awake none level keys asserted true given
    obtain ⟨-, waits⟩ := cases.resolve_left fun h => by cases h.1
    exact ⟨t, answer, waits.pool, waits.channels, waits.axis, waits.owed⟩
  · obtain ⟨v, t, -, answer, cases⟩ := boundary_cases awake none level keys asserted false given
    exact ⟨t, answer, given_stands (cases.imp (fun h => h.2.2) (fun h => h.2)) mem busy fresh⟩
  · have answer := exec_periodBoundary (keys := keys) (found := { estopRead := asserted, early := [.leaseEnd ax] })
      (running_of_awake awake) none
    obtain ⟨k, r, rides, reason, ended, duty⟩ := rides_stepPool (counts_period level keys asserted) none
      (leaseEnd_owed_period level (leaseAfter_of_last lease moving) keys asserted) lawful lease moving ramp free asserted
    have record := rides.axis
    refine ⟨_, answer, ?_, ?_, ?_, ?_, k, ?_, rides.settledUp, rides.busy⟩ <;> rw [record]
    · exact rides.state
    · exact reason
    · exact ended
    · exact duty
    · exact rides.holds

end Sys2Proof.Machine
end

section
/-! PROOFS. What every command leaves once it is done: a quiet state (R48, R57, R96, R171). -/

namespace Sys2Proof.Machine

/-! ## The end of a command -/

/-- Where no further event of the instant is to come, a sealed state holds each axis by its causes (R171). -/
theorem seal_fits {s : State} (alone : s.safety.within = false) (ax : Axis) : s.seal.holdStale ax = false := by
  have noted : (s.seal.axisSafety ax).held = (s.setSafety { s.safety with raised := [] }).holdOn ax := by cases ax <;> rfl
  have causes : s.seal.heldNow ax = (s.setSafety { s.safety with raised := [] }).heldNow ax := rfl
  have taken := holdOn_of_not_within (s := s.setSafety { s.safety with raised := [] }) alone ax
  have sealed := holdOn_of_not_within (s := s.seal) alone ax
  rw [State.holdStale, noted, taken, sealed, causes, bne_self_eq_false]

/-- With no further event of the instant to come, what is left once all is taken is calm. -/
theorem settle_calm (n : Nat) {s : State} (alone : s.safety.within = false) : (s.settle n).calm = true := by
  induction n generalizing s with
  | zero => exact (calm_iff _).2 ⟨rfl, alone, rfl, seal_fits alone .A, seal_fits alone .B⟩
  | succ n ih =>
    have sync := trails_syncContent s
    have synced : s.syncContent.safety.within = false := sync.within.trans alone
    unfold State.settle; dsimp only; split
    · next a rest _ =>
      exact ih (((trails_setRaised _ rest).trans (trails_takeReport _ a)).within.trans synced)
    · next none =>
      split
      · exact ih (((trails_followHold _ .A).trans (trails_followHold _ .B)).within.trans synced)
      · next fresh =>
        simp only [Bool.or_eq_true, not_or, Bool.not_eq_true] at fresh
        exact (calm_iff _).2 ⟨none, synced, synced_syncContent s, fresh.1, fresh.2⟩

theorem publish_calm (s : State) : s.publish.calm = s.calm := rfl

theorem publish_shedNow (s : State) : s.publish.shedNow = s.shedNow := rfl

/-- The output values rest on nothing of the outputs before (R95). -/
theorem compose_setOutputs (l : LightUnit) (outputs : Vector Nat 24) (shed : Nat) (i : Fin 24) :
    ({ l with outputs := outputs } : LightUnit).compose shed i = l.compose shed i := rfl

theorem publish_published (s : State) : s.publish.published = true := by
  refine (published_iff _).2 ⟨rfl, ?_⟩
  have shown : s.publish.light.outputs = Vector.ofFn fun i => s.light.compose s.shedNow i := rfl
  rw [publish_shedNow, shown, publish_light]
  simp only [compose_setOutputs]

theorem finish_quiet (s : State) : s.finish.quiet = true := by
  have calm : (s.setWithin false).settled.calm = true := settle_calm 128 rfl
  simp only [State.quiet, Bool.and_eq_true]
  exact ⟨(publish_calm _).trans calm, publish_published _⟩

/-! ## The commands -/

/-- A command that answers a next state changes nothing, or ends in what every command that takes place ends in. -/
def Finishes (s : State) (o : Host.Outcome State Fault Refusal) : Prop :=
  ∀ t, o = .next t → t = s ∨ s.inReset = false ∧ ∃ u : State, t = u.finish

theorem finishes_event (s : State) (due : Bool) (effect : State) : Finishes s (event s due effect) := by
  intro t h
  unfold event at h; split at h <;> cases h
  · next taken =>
    simp only [Bool.and_eq_true, Bool.not_eq_true'] at taken
    exact .inr ⟨taken.1, effect, rfl⟩
  · exact .inl rfl

theorem finishes_atLastBit (s : State) (bits : List LineBit) (due : State → Bool) (effect : State → State) :
    Finishes s (atLastBit s bits due effect) := by
  intro t h
  unfold atLastBit at h; dsimp only at h; split at h <;> cases h
  · exact .inl rfl
  · next running => exact .inr ⟨by simpa using running, _, rfl⟩

theorem finishes_completing (s : State) (row : Instr) (act : Request → State → State) :
    Finishes s (completing s row act) := by
  unfold completing; split
  · exact finishes_event s _ _
  · rintro t ⟨⟩; exact .inl rfl

theorem finishes_startBitRead (bits : List LineBit) (s : State) : Finishes s (execStartBitRead bits s) := by
  intro t h
  unfold execStartBitRead at h; dsimp only at h; split at h <;> cases h
  · exact .inl rfl
  · next running => exact .inr ⟨by simpa using running, _, rfl⟩

/-- An end switch's pin is the surroundings', and changes while the station is held in reset too (R184). -/
def changesSwitch : Instr → Bool
  | .endSwitchChange _ _ _ => true
  | _ => false

theorem finishes_exec (c : Instr) (s : State) (running : resets c = false) (other : changesSwitch c = false) :
    Finishes s (exec c s) := by
  cases c with
  | hardReset | heldInReset => cases running
  | endSwitchChange => cases other
  | startBitRead bits => exact finishes_startBitRead bits s
  | frameBegin | contentionLost | contentionWon | bitError | headerEndLatch | senderEntersSlot | frameReceiveIntact
  | receiveError | invalidSourceDiscard | allstopEntry | allstopExit => rw [exec]; exact finishes_atLastBit s _ _ _
  | goto | jog | jogRelease | stop | axisClear | reference | tare | sceneRecall | groupRecallRequest | levelSet
  | lightsEnable | channelEnable | nightSet | nightOff | runSet | runStart | runStop | sceneTime | alarmClear | mapClear
  | restart | readAxis | readSense | readTime | readAlarms | readLight | readPeer | readScene | levelWindow | levelData
  | replyDiscard | unknownKind => rw [exec]; exact finishes_completing s _ _
  | _ => rw [exec]; exact finishes_event s _ _

/-! ## A station held in reset -/

/-- Without a configuration no pin is announced (R46, R134). -/
theorem setPins_contentNow {s : State} (unread : s.cfg = Configuration.defaults) (x : Pins) :
    (s.setPins x).contentNow = s.contentNow := by
  have flags : (s.setPins x).flagsNow = s.flagsNow := by
    simp [State.flagsNow, unread, Configuration.defaults, State.flagValue]
  have rest : (s.setPins x).contentNow = { s.contentNow with flags := (s.setPins x).flagsNow } := rfl
  rw [rest, flags]; rfl

theorem setPins_quiet {s : State} (unread : s.cfg = Configuration.defaults) (x : Pins) :
    (s.setPins x).quiet = s.quiet := by
  have calm : (s.setPins x).calm = s.calm := by
    rw [Bool.eq_iff_iff, calm_iff, calm_iff, setPins_contentNow unread]; rfl
  have published : (s.setPins x).published = s.published := by
    rw [Bool.eq_iff_iff, published_iff, published_iff]; rfl
  rw [State.quiet, calm, published]; rfl

theorem setSwitchPin_quiet {s : State} (unread : s.cfg = Configuration.defaults) (ax : Axis) (d : Direction) (active : Bool) :
    (s.setSwitchPin ax d active).quiet = s.quiet := by
  cases ax <;> cases d <;> exact setPins_quiet unread _

/-! ## A step -/

theorem follows_of_finish {u t : State} (running : t.inReset = false) (finished : t = u.finish) : t.follows :=
  ⟨finished ▸ finish_quiet u, fun reset => by rw [running] at reset; cases reset⟩

theorem cold_quiet (pins : Pins) : (State.cold pins).quiet = true := by
  simp only [State.quiet, cold_calm, cold_published, Bool.and_self]

/-- Every block cold, and no configuration (R184, R191). -/
theorem follows_of_cold (pins : Pins) (pending : List Instr) (held : Bool) :
    State.follows { State.cold pins with pending := pending, inReset := held } :=
  have quiet := quiet_congr (s := State.cold pins) (t := { State.cold pins with pending := pending, inReset := held })
    rfl rfl rfl rfl rfl rfl rfl rfl rfl rfl rfl rfl
  ⟨quiet.trans (cold_quiet pins), fun _ => rfl⟩

theorem follows_endSwitchChange {s t : State} {ax : Axis} {d : Direction} {active : Bool} (f : s.follows)
    (h : execEndSwitchChange ax d active s = .next t) : t.follows := by
  obtain ⟨quiet, unread⟩ := f
  have kept : t.inReset = s.inReset := (commandsChangeOnlyTheirParts (.endSwitchChange ax d active) s t h).2.1 rfl
  unfold execEndSwitchChange at h; dsimp only at h; split at h
  · next reset =>
    cases h
    have cfg := unread reset
    have shown : (s.setSwitchPin ax d active).cfg = s.cfg := by cases ax <;> cases d <;> rfl
    exact ⟨(setSwitchPin_quiet cfg ax d active).trans quiet, fun _ => shown.trans cfg⟩
  · next running =>
    cases h
    exact follows_of_finish (kept.trans (by simpa using running)) rfl

theorem follows_exec (c : Instr) (s t : State) (f : s.follows) (h : exec c s = .next t) : t.follows := by
  have ends (running : resets c = false) (other : changesSwitch c = false) : t.follows := by
    rcases finishes_exec c s running other t h with rfl | ⟨awake, u, finished⟩
    · exact f
    · exact follows_of_finish (((commandsChangeOnlyTheirParts c s t h).2.1 running).trans awake) finished
  cases c with
  | hardReset straps => cases h; exact follows_of_cold _ _ _
  | heldInReset => cases h; exact follows_of_cold _ _ _
  | endSwitchChange ax d active => exact follows_endSwitchChange f h
  | _ => exact ends rfl rfl

/-- The queue of commands is the surroundings'. -/
theorem follows_setPending {s : State} (f : s.follows) (l : List Instr) : State.follows { s with pending := l } :=
  have quiet := quiet_congr (s := s) (t := { s with pending := l }) rfl rfl rfl rfl rfl rfl rfl rfl rfl rfl rfl rfl
  ⟨quiet.trans f.1, f.2⟩

theorem follows_passUnit {s : State} (f : s.follows) : s.passUnit.follows :=
  have quiet := quiet_congr (s := s) (t := s.passUnit) rfl rfl rfl rfl rfl rfl rfl rfl rfl rfl rfl rfl
  ⟨quiet.trans f.1, f.2⟩

theorem follows_clock {s : State} (f : s.follows) : s.clock.follows := by
  unfold State.clock; split
  · exact f
  · split
    · unfold State.advance; dsimp only; split
      · exact follows_passUnit f
      · exact follows_setPending (follows_passUnit f) _
    · exact follows_setPending f _

/-- Settles O7: a command that takes place ends in `State.finish`, which leaves any state quiet; the others, the resets and the
clock leave or write what a quiet state rests on. -/
theorem everyStepLeavesTheStationQuiet : Obligations.EveryStepLeavesTheStationQuiet := by
  intro s t f h
  unfold step at h; split at h
  · exact follows_exec _ _ t (follows_setPending f _) h
  · cases h; exact follows_clock f

end Sys2Proof.Machine
end

section
/-! PROOFS. The peer table: which entry a full table loses, and what an announcement makes of its laws (R52 to R55). -/

namespace Sys2Proof.Machine

/-! ## The laws of a table -/

/-- The laws for the peer table, of the table alone (R52, R54, R55). -/
def LawfulTable (l : List PeerEntry) : Prop :=
  l.length ≤ 32 ∧ (l.map PeerEntry.address).Nodup ∧ (l.filter PeerEntry.pinned).length ≤ 8

theorem tableLawful_iff (s : State) : s.tableLawful ↔ LawfulTable s.peer.table := Iff.rfl

/-- In a lawful table an entry is known by its address (R52). -/
theorem LawfulTable.eq_of_address {l : List PeerEntry} (lawful : LawfulTable l) {x y : PeerEntry} (hx : x ∈ l) (hy : y ∈ l)
    (same : x.address = y.address) : x = y := List.inj_on_of_nodup_map lawful.2.1 hx hy same

/-- The laws speak of addresses and pins alone. -/
theorem LawfulTable.map {l : List PeerEntry} (lawful : LawfulTable l) {f : PeerEntry → PeerEntry}
    (address : ∀ e, (f e).address = e.address) (pinned : ∀ e, (f e).pinned = e.pinned) : LawfulTable (l.map f) := by
  obtain ⟨few, once, pins⟩ := lawful
  have addresses : (l.map f).map PeerEntry.address = l.map PeerEntry.address := by simp [Function.comp_def, address]
  have filtered : ((l.map f).filter PeerEntry.pinned).length = (l.filter PeerEntry.pinned).length := by
    rw [List.filter_map, List.length_map, Function.comp_def]; simp only [pinned]
  exact ⟨by simpa using few, by rw [addresses]; exact once, by rw [filtered]; exact pins⟩

theorem LawfulTable.filter {l : List PeerEntry} (lawful : LawfulTable l) (p : PeerEntry → Bool) : LawfulTable (l.filter p) := by
  obtain ⟨few, once, pins⟩ := lawful
  have part : (l.filter p).Sublist l := List.filter_sublist
  exact ⟨Nat.le_trans part.length_le few, once.sublist (part.map _),
    Nat.le_trans (part.filter PeerEntry.pinned).length_le pins⟩

/-- A lawful table with room takes an entry that is not pinned, of an address it does not know. -/
theorem LawfulTable.concat {l : List PeerEntry} (lawful : LawfulTable l) (room : l.length < 32) {e : PeerEntry}
    (unknown : ∀ x ∈ l, x.address ≠ e.address) (unpinned : e.pinned = false) : LawfulTable (l ++ [e]) := by
  obtain ⟨-, once, pins⟩ := lawful
  refine ⟨by simpa using room, ?_, by simpa [unpinned] using pins⟩
  rw [List.map_append, List.map_singleton, ← List.concat_eq_append]
  refine once.concat fun known => ?_
  obtain ⟨x, mem, same⟩ := List.mem_map.1 known
  exact unknown x mem same

/-- A full lawful table has an entry that is not pinned, for at most 8 of its 32 are (R54, R55). -/
theorem LawfulTable.exists_unpinned {l : List PeerEntry} (lawful : LawfulTable l) (full : ¬ l.length < 32) :
    ∃ x ∈ l, x.pinned = false := by
  obtain ⟨-, -, pins⟩ := lawful
  by_contra all
  simp only [not_exists, not_and, Bool.not_eq_false] at all
  rw [List.filter_eq_self.2 all] at pins
  omega

/-! ## The entry that leaves -/

/-- The entry leaves a full table no later than the other: it is older, or as old and of no greater address (R54). -/
def PeerEntry.LeavesBefore (v x : PeerEntry) : Prop := x.age < v.age ∨ x.age = v.age ∧ v.address ≤ x.address

theorem PeerEntry.LeavesBefore.refl (v : PeerEntry) : v.LeavesBefore v := .inr ⟨rfl, Nat.le_refl _⟩

theorem PeerEntry.LeavesBefore.trans {v w x : PeerEntry} (h : v.LeavesBefore w) (k : w.LeavesBefore x) : v.LeavesBefore x := by
  unfold PeerEntry.LeavesBefore at *; omega

theorem PeerEntry.LeavesBefore.address_eq {v x : PeerEntry} (h : v.LeavesBefore x) (k : x.LeavesBefore v) :
    v.address = x.address := by
  unfold PeerEntry.LeavesBefore at *; omega

/-- The entry that R54 removes of these: of those not pinned, the one that leaves before the others. -/
structure Leaver (l : List PeerEntry) (v : PeerEntry) : Prop where
  mem : v ∈ l
  unpinned : v.pinned = false
  first : ∀ x ∈ l, x.pinned = false → v.LeavesBefore x

theorem elder_some (b e : PeerEntry) : ∃ v, elder (some b) e = some v ∧ (v = b ∨ v = e ∧ e.pinned = false) ∧
    v.LeavesBefore b ∧ (e.pinned = false → v.LeavesBefore e) := by
  unfold elder
  split
  · next pin => exact ⟨b, rfl, .inl rfl, .refl b, fun no => by rw [pin] at no; cases no⟩
  · next unpinned =>
    have unpinned : e.pinned = false := by simpa using unpinned
    dsimp only; split
    · next later => exact ⟨e, rfl, .inr ⟨rfl, unpinned⟩, later.imp id fun h => ⟨h.1, Nat.le_of_lt h.2⟩, fun _ => .refl e⟩
    · next sooner => exact ⟨b, rfl, .inl rfl, .refl b, fun _ => by unfold PeerEntry.LeavesBefore; omega⟩

theorem foldl_elder_some (l : List PeerEntry) (b : PeerEntry) : ∃ v, l.foldl elder (some b) = some v ∧
    (v = b ∨ v ∈ l ∧ v.pinned = false) ∧ v.LeavesBefore b ∧ ∀ x ∈ l, x.pinned = false → v.LeavesBefore x := by
  induction l generalizing b with
  | nil => exact ⟨b, rfl, .inl rfl, .refl b, fun x mem => by cases mem⟩
  | cons e l ih =>
    obtain ⟨w, one, origin, before, first⟩ := elder_some b e
    obtain ⟨v, all, among, earlier, rest⟩ := ih w
    refine ⟨v, by rw [List.foldl_cons, one, all], ?_, earlier.trans before, fun x mem unpinned => ?_⟩
    · rcases among with rfl | ⟨mem, unpinned⟩
      · exact origin.imp id fun ⟨same, unpinned⟩ => by rw [same]; exact ⟨List.mem_cons_self, unpinned⟩
      · exact .inr ⟨List.mem_cons_of_mem _ mem, unpinned⟩
    · rcases List.mem_cons.1 mem with rfl | mem
      · exact earlier.trans (first unpinned)
      · exact rest x mem unpinned

theorem foldl_elder_none {l : List PeerEntry} (loose : ∃ x ∈ l, x.pinned = false) :
    ∃ v, l.foldl elder none = some v ∧ Leaver l v := by
  induction l with
  | nil => obtain ⟨x, mem, -⟩ := loose; cases mem
  | cons e l ih =>
    cases pin : e.pinned with
    | true =>
      obtain ⟨x, mem, unpinned⟩ := loose
      have other : ∀ y ∈ e :: l, y.pinned = false → y ∈ l := fun y mem unpinned =>
        (List.mem_cons.1 mem).resolve_left fun same => by rw [same, pin] at unpinned; cases unpinned
      obtain ⟨v, found, leaver⟩ := ih ⟨x, other x mem unpinned, unpinned⟩
      exact ⟨v, by simpa [elder, pin] using found, List.mem_cons_of_mem _ leaver.mem, leaver.unpinned,
        fun y mem unpinned => leaver.first y (other y mem unpinned) unpinned⟩
    | false =>
      obtain ⟨v, found, among, earlier, rest⟩ := foldl_elder_some l e
      refine ⟨v, by simpa [elder, pin] using found, ?_, ?_, fun x mem unpinned => ?_⟩
      · rcases among with rfl | ⟨mem, -⟩
        · exact List.mem_cons_self
        · exact List.mem_cons_of_mem _ mem
      · rcases among with rfl | ⟨-, unpinned⟩
        · exact pin
        · exact unpinned
      · rcases List.mem_cons.1 mem with rfl | mem
        · exact earlier
        · exact rest x mem unpinned

/-! ## Room for one more -/

theorem makeRoom_of_room {l : List PeerEntry} (room : l.length < 32) : makeRoom l = l := by simp [makeRoom, room]

/-- A full lawful table loses the entry that leaves, and no other (R54). -/
theorem LawfulTable.makeRoom_of_full {l : List PeerEntry} (lawful : LawfulTable l) (full : ¬ l.length < 32) :
    ∃ v, Leaver l v ∧ makeRoom l = l.filter fun e => e.address != v.address := by
  obtain ⟨v, found, leaver⟩ := foldl_elder_none (lawful.exists_unpinned full)
  exact ⟨v, leaver, by simp [makeRoom, full, found]⟩

theorem LawfulTable.length_makeRoom {l : List PeerEntry} (lawful : LawfulTable l) : (makeRoom l).length < 32 := by
  by_cases room : l.length < 32
  · rw [makeRoom_of_room room]; exact room
  · obtain ⟨v, leaver, eq⟩ := lawful.makeRoom_of_full room
    rw [eq]
    refine Nat.lt_of_lt_of_le (List.length_filter_lt_length_iff_exists.2 ⟨v, leaver.mem, by simp⟩) lawful.1

theorem LawfulTable.lawful_makeRoom {l : List PeerEntry} (lawful : LawfulTable l) : LawfulTable (makeRoom l) := by
  by_cases room : l.length < 32
  · rw [makeRoom_of_room room]; exact lawful
  · obtain ⟨v, -, eq⟩ := lawful.makeRoom_of_full room
    rw [eq]; exact lawful.filter _

theorem makeRoom_subset (l : List PeerEntry) : makeRoom l ⊆ l := by
  unfold makeRoom
  split
  · exact fun _ => id
  · split
    · exact List.filter_subset_self _
    · exact fun _ => id

/-- A pinned entry never leaves (R54). -/
theorem LawfulTable.mem_makeRoom_of_pinned {l : List PeerEntry} (lawful : LawfulTable l) {x : PeerEntry} (mem : x ∈ l)
    (pin : x.pinned = true) : x ∈ makeRoom l := by
  by_cases room : l.length < 32
  · rw [makeRoom_of_room room]; exact mem
  · obtain ⟨v, leaver, eq⟩ := lawful.makeRoom_of_full room
    rw [eq, List.mem_filter]
    refine ⟨mem, bne_iff_ne.2 fun same => ?_⟩
    rw [lawful.eq_of_address mem leaver.mem same, leaver.unpinned] at pin
    cases pin

/-! ## The table after an announcement -/

/-- The entry that an announcement from an unknown address makes (R53). -/
def newcomer (a : Nat) (c : PeerContent) : PeerEntry :=
  { address := a, content := some c, age := 0, fresh := true, pinned := false }

theorem announceInto_of_known {l : List PeerEntry} {a : Nat} (known : ∃ x ∈ l, x.address = a) (c : PeerContent) :
    announceInto l a c = l.map fun e => if e.address = a then e.announced c else e := by
  simp [announceInto, known]

theorem announceInto_of_unknown {l : List PeerEntry} {a : Nat} (unknown : ∀ x ∈ l, x.address ≠ a) (c : PeerContent) :
    announceInto l a c = makeRoom l ++ [newcomer a c] := by
  have none : (l.any fun e => e.address == a) = false := by simpa [List.any_eq_false] using unknown
  simp [announceInto, none, newcomer]

/-- The own and the new entries of a table keep its laws (R52, R54, R55). -/
theorem LawfulTable.lawful_announceInto {l : List PeerEntry} (lawful : LawfulTable l) (a : Nat) (c : PeerContent) :
    LawfulTable (announceInto l a c) := by
  by_cases known : ∃ x ∈ l, x.address = a
  · rw [announceInto_of_known known]
    exact lawful.map (fun e => by split <;> rfl) (fun e => by split <;> rfl)
  · have unknown : ∀ x ∈ l, x.address ≠ a := fun x mem same => known ⟨x, mem, same⟩
    rw [announceInto_of_unknown unknown]
    exact lawful.lawful_makeRoom.concat lawful.length_makeRoom (fun x mem => unknown x (makeRoom_subset l mem)) rfl

/-- The announcement has an entry of its address, with its pin kept or without one (R53, R54). -/
theorem exists_announced (l : List PeerEntry) (a : Nat) (c : PeerContent) : ∃ e ∈ announceInto l a c, e.address = a ∧
    e.content = some c ∧ e.age = 0 ∧ e.fresh = true ∧ ((∀ x ∈ l, x.address ≠ a) → e.pinned = false) ∧
    (LawfulTable l → ∀ x ∈ l, x.address = a → e.pinned = x.pinned) := by
  by_cases known : ∃ x ∈ l, x.address = a
  · rw [announceInto_of_known known]
    obtain ⟨x, mem, same⟩ := known
    refine ⟨x.announced c, List.mem_map.2 ⟨x, mem, by simp [same]⟩, same, rfl, rfl, rfl, fun unknown => ?_,
      fun lawful y hy eq => ?_⟩
    · exact absurd same (unknown x mem)
    · rw [lawful.eq_of_address hy mem (eq.trans same.symm)]; rfl
  · have unknown : ∀ x ∈ l, x.address ≠ a := fun x mem same => known ⟨x, mem, same⟩
    rw [announceInto_of_unknown unknown]
    exact ⟨newcomer a c, List.mem_append_right _ (List.mem_singleton_self _), rfl, rfl, rfl, rfl, fun _ => rfl,
      fun _ y hy eq => absurd eq (unknown y hy)⟩

/-- Where the address is known or the table has room, no other entry changes (R53). -/
theorem mem_announceInto_of_room {l : List PeerEntry} {a : Nat} (c : PeerContent)
    (room : (∃ x ∈ l, x.address = a) ∨ l.length < 32) {x : PeerEntry} (mem : x ∈ l) (other : x.address ≠ a) :
    x ∈ announceInto l a c := by
  by_cases known : ∃ x ∈ l, x.address = a
  · rw [announceInto_of_known known]
    exact List.mem_map.2 ⟨x, mem, if_neg other⟩
  · rw [announceInto_of_unknown fun x mem same => known ⟨x, mem, same⟩, makeRoom_of_room (room.resolve_left known)]
    exact List.mem_append_left _ mem

/-- A pinned entry of another address stays (R54). -/
theorem LawfulTable.mem_announceInto_of_pinned {l : List PeerEntry} (lawful : LawfulTable l) {a : Nat} (c : PeerContent)
    {x : PeerEntry} (mem : x ∈ l) (pin : x.pinned = true) (other : x.address ≠ a) : x ∈ announceInto l a c := by
  by_cases known : ∃ x ∈ l, x.address = a
  · exact mem_announceInto_of_room c (.inl known) mem other
  · rw [announceInto_of_unknown fun x mem same => known ⟨x, mem, same⟩]
    exact List.mem_append_left _ (lawful.mem_makeRoom_of_pinned mem pin)

/-- A full table that does not know the address loses the entry that leaves, and no other (R54). -/
theorem LawfulTable.announceInto_of_full {l : List PeerEntry} (lawful : LawfulTable l) (full : l.length = 32) {a : Nat}
    (c : PeerContent) (unknown : ∀ x ∈ l, x.address ≠ a) {v : PeerEntry} (leaver : Leaver l v) :
    announceInto l a c = (l.filter fun e => e.address != v.address) ++ [newcomer a c] := by
  obtain ⟨w, found, eq⟩ := lawful.makeRoom_of_full (by omega)
  have same := (leaver.first w found.mem found.unpinned).address_eq (found.first v leaver.mem leaver.unpinned)
  rw [announceInto_of_unknown unknown, eq, same]

end Sys2Proof.Machine
end

section
/-! PROOFS. ANNOUNCE_RECEIVE and FRESHNESS_LAPSE: the table that each leaves, and the evaluation of the terms that follows. -/

namespace Sys2Proof.Machine

/-! ## The terms of an axis -/

/-- The terms of the axis and its permitted directions are those that the peer table gives (R172, R173). -/
structure State.Evaluated (s : State) (ax : Axis) : Prop where
  terms : (s.axisSafety ax).terms = (s.axisCfg ax).terms.map s.termSatisfied
  plus : (s.axisSafety ax).plus = s.permittedNow ax .plus
  minus : (s.axisSafety ax).minus = s.permittedNow ax .minus

theorem termSatisfied_of_table {s t : State} (table : t.peer.table = s.peer.table) : t.termSatisfied = s.termSatisfied := by
  funext x; simp only [State.termSatisfied, table]

theorem permittedNow_of_table {s t : State} (cfg : t.cfg = s.cfg) (table : t.peer.table = s.peer.table) :
    t.permittedNow = s.permittedNow := by
  funext ax d; simp only [State.permittedNow, axisCfg_of_cfg cfg, termSatisfied_of_table table]

/-- What leaves the table and what the Safety Unit keeps of the terms leaves them evaluated. -/
theorem State.Evaluated.of_interlock {s t : State} {ax : Axis} (h : s.Evaluated ax) (cfg : t.cfg = s.cfg)
    (table : t.peer.table = s.peer.table)
    (interlock : t.axisSafety ax = { s.axisSafety ax with held := (t.axisSafety ax).held }) : t.Evaluated ax where
  terms := by rw [interlock, axisCfg_of_cfg cfg, termSatisfied_of_table table]; exact h.terms
  plus := by rw [interlock, permittedNow_of_table cfg table]; exact h.plus
  minus := by rw [interlock, permittedNow_of_table cfg table]; exact h.minus

theorem State.Evaluated.of_spares {s t : State} {ax : Axis} (h : s.Evaluated ax) (k : Spares s t) : t.Evaluated ax :=
  h.of_interlock k.cfg k.table (k.interlock ax)

theorem evaluate_table (s : State) (ax : Axis) : (s.evaluate ax).peer.table = s.peer.table := by
  cases ax <;> rfl

theorem evaluate_cfg (s : State) (ax : Axis) : (s.evaluate ax).cfg = s.cfg := (keeps_setAxisSafety s ax _).cfg

theorem evaluate_evaluated (s : State) (ax : Axis) : (s.evaluate ax).Evaluated ax where
  terms := by
    rw [axisCfg_of_cfg (evaluate_cfg s ax), termSatisfied_of_table (evaluate_table s ax)]; cases ax <;> rfl
  plus := by rw [permittedNow_of_table (evaluate_cfg s ax) (evaluate_table s ax)]; cases ax <;> rfl
  minus := by rw [permittedNow_of_table (evaluate_cfg s ax) (evaluate_table s ax)]; cases ax <;> rfl

/-- The evaluation of the one axis leaves that of the other. -/
theorem State.Evaluated.evaluate {s : State} {ax : Axis} (h : s.Evaluated ax) (other : Axis) (ne : ax ≠ other) :
    (s.evaluate other).Evaluated ax :=
  h.of_interlock (evaluate_cfg s other) (evaluate_table s other) (by
    cases ax <;> cases other
    · exact absurd rfl ne
    · rfl
    · rfl
    · exact absurd rfl ne)

/-- What follows an evaluation is at most the loss of a direction (R159). -/
theorem trails_reevaluate (s : State) (ax : Axis) : Trails (s.evaluate ax) (s.reevaluate ax) := by
  have lose (t : State) (d : Direction) (c : Bool) : Trails t (if c then t.loseDirection ax d else t) := by
    split
    · exact trails_loseDirection t ax d
    · exact .refl t
  unfold State.reevaluate; dsimp only
  exact (lose _ .plus _).trans (lose _ .minus _)

theorem reevaluate_table (s : State) (ax : Axis) : (s.reevaluate ax).peer.table = s.peer.table :=
  (trails_reevaluate s ax).table.trans (evaluate_table s ax)

/-- A report about an entry leaves the table, and every term evaluated (R173). -/
theorem reportPeer_table (s : State) : s.reportPeer.peer.table = s.peer.table :=
  (reevaluate_table _ .B).trans (reevaluate_table s .A)

theorem keeps_reportPeer (s : State) : Keeps s s.reportPeer := (keeps_reevaluate s .A).trans (keeps_reevaluate _ .B)

theorem reportPeer_evaluated (s : State) (ax : Axis) : s.reportPeer.Evaluated ax := by
  have last := (trails_reevaluate (s.reevaluate .A) .B).toSpares
  cases ax with
  | A =>
    have first := (evaluate_evaluated s .A).of_spares (trails_reevaluate s .A).toSpares
    exact (first.evaluate .B (by decide)).of_spares last
  | B => exact (evaluate_evaluated _ .B).of_spares last

/-! ## The end of the command -/

/-- From `s` to `t` a command has given the peer table these entries and reported it: the terms are evaluated on them, and the
shed level is theirs (R57, R173). -/
structure PeerReported (l : List PeerEntry) (s t : State) : Prop where
  table : t.peer.table = l
  evaluated : ∀ ax, t.Evaluated ax
  shed : t.peer.shed = t.shedNow
  time : t.time = s.time
  cmd : t.cmd = s.cmd

theorem peerReported_finish (s : State) (l : List PeerEntry) :
    PeerReported l s (s.setPeer { s.peer with table := l }).reportPeer.finish := by
  have keeps := (keeps_reportPeer (s.setPeer { s.peer with table := l })).trans (keeps_finish _)
  have trails := trails_finish (s.setPeer { s.peer with table := l }).reportPeer
  have quiet := finish_quiet (s.setPeer { s.peer with table := l }).reportPeer
  simp only [State.quiet, Bool.and_eq_true] at quiet
  refine ⟨trails.table.trans (reportPeer_table _), fun ax => ?_, ((published_iff _).1 quiet.2).1, keeps.time, keeps.cmd⟩
  have within : ((s.setPeer { s.peer with table := l }).reportPeer.setWithin false).Evaluated ax :=
    (reportPeer_evaluated _ ax).of_interlock rfl rfl (by cases ax <;> rfl)
  exact within.of_spares trails.toSpares

/-! ## FRESHNESS_LAPSE -/

/-- A fresh entry whose age stands at four times its interval lapses at the boundary's step, one older (R56). -/
theorem aged_of_due {e : PeerEntry} {c : PeerContent} (content : e.content = some c) (fresh : e.fresh = true)
    (due : 4 * c.interval ≤ e.age) (young : e.age < 65535) :
    e.lapses = true ∧ e.aged = { e with age := e.age + 1, fresh := false } := by
  have older : min 65535 (e.age + 1) = e.age + 1 := by omega
  have lapses : e.lapses = true := by
    simp only [PeerEntry.lapses, content, fresh, PeerEntry.older, older, Bool.true_and, decide_eq_true_eq]; omega
  exact ⟨lapses, by simp only [PeerEntry.aged, lapses, PeerEntry.older, older, if_true]⟩

/-- The table once the entries of an address have taken the boundary's step (R56). -/
def agedAt (l : List PeerEntry) (a : Nat) : List PeerEntry := l.map fun e => if e.address = a then e.aged else e

/-- A lapse is reported once the entries of its address have aged (R56, R173). -/
theorem freshnessStep_of_lapse {s : State} {a : Nat} (lapse : ∃ e ∈ s.peer.table, e.address = a ∧ e.lapses = true) :
    s.freshnessStep a = (s.setPeer { s.peer with table := agedAt s.peer.table a }).reportPeer := by
  have lapsed : (s.peer.table.any fun e => e.address == a && e.lapses) = true := by
    obtain ⟨e, mem, address, lapses⟩ := lapse
    exact List.any_eq_true.2 ⟨e, mem, by simp [address, lapses]⟩
  simp only [State.freshnessStep, lapsed, if_true, agedAt]

theorem freshnessLapse_answers {s : State} {a : Nat} (running : s.inReset = false) (owed : Owed.freshnessLapse a ∈ s.owed)
    (lapse : ∃ e ∈ s.peer.table, e.address = a ∧ e.lapses = true) :
    ∃ t, exec (.freshnessLapse a) s = .next t ∧ PeerReported (agedAt s.peer.table a) s t := by
  have reported := peerReported_finish (s.disown (.freshnessLapse a)) (agedAt s.peer.table a)
  refine ⟨_, ?_, reported.table, reported.evaluated, reported.shed, reported.time, reported.cmd⟩
  rw [exec, execFreshnessLapse, event_of_due running (by simpa using owed),
    freshnessStep_of_lapse (s := s.disown (.freshnessLapse a)) lapse]; rfl

/-- Settles O23: the entry ages past its limit, and the report about it evaluates both axes on the table that it leaves. -/
theorem freshnessLapses : Obligations.FreshnessLapses := by
  intro s running e mem c content fresh due young owed
  obtain ⟨lapses, aged⟩ := aged_of_due content fresh due young
  obtain ⟨t, answer, reported⟩ := freshnessLapse_answers running owed ⟨e, mem, rfl, lapses⟩
  refine ⟨t, answer, ?_, ?_, fun x hx other => ?_, reported.shed, fun ax => ?_, reported.time, reported.cmd⟩
  · rw [reported.table, ← aged]; exact List.mem_map.2 ⟨e, mem, if_pos rfl⟩
  · rw [reported.table, agedAt, List.length_map]
  · rw [reported.table]; exact List.mem_map.2 ⟨x, hx, if_neg other⟩
  · obtain ⟨terms, plus, minus⟩ := reported.evaluated ax
    exact ⟨terms, plus, minus⟩

/-! ## ANNOUNCE_RECEIVE -/

/-- The announcement handed over is taken, and the station's blocks follow (R53). -/
theorem announceReceive_answers {s : State} {a : Nat} {p : List Byte}
    (handed : s.owed.find? isAnnounce = some (.announce a p)) (running : s.inReset = false) :
    ∃ t, exec .announceReceive s = .next t ∧ PeerReported (announceInto s.peer.table a (storedContent p)) s t := by
  have due : s.owed.any isAnnounce = true := List.any_eq_true.2 ⟨_, List.mem_of_find?_eq_some handed, rfl⟩
  have taken : s.takeOwed isAnnounce announceStepOf = (s.disown (.announce a p)).takeAnnounce a p := by
    simp only [State.takeOwed, handed, announceStepOf]
  have reported := peerReported_finish (s.disown (.announce a p)) (announceInto s.peer.table a (storedContent p))
  refine ⟨_, ?_, reported.table, reported.evaluated, reported.shed, reported.time, reported.cmd⟩
  rw [exec, execAnnounceReceive, event_of_due running due, taken]; rfl

/-- The fields of the stored content, as the layout gives them (R193, R195). -/
theorem storedContent_fields (p : List Byte) : (storedContent p).interval = max 10 (min 250 (natAt p 3)) ∧
    (storedContent p).flags = byteAt p 2 ∧ (storedContent p).group.toNat = natAt p 1 % 8 ∧
    (storedContent p).demand.toNat = natAt p 1 / 16 % 4 ∧ (storedContent p).stateA = byteAt p 4 ∧
    (storedContent p).stateB = byteAt p 5 ∧ (storedContent p).alarmCount = byteAt p 6 ∧
    (storedContent p).lock.toNat = natAt p 7 % 4 ∧ (storedContent p).engine.toNat = natAt p 7 / 4 % 4 ∧
    (storedContent p).role.toNat = natAt p 0 % 32 := by
  refine ⟨rfl, rfl, ?_, ?_, rfl, rfl, rfl, ?_, ?_, ?_⟩ <;>
    simp [storedContent, natAt, BitVec.toNat_setWidth, BitVec.toNat_ushiftRight, Nat.shiftRight_eq_div_pow]

/-- Settles O39: the table after the command is `announceInto` of the table before it. -/
theorem announcementIsStored : Obligations.AnnouncementIsStored := by
  intro s a p handed running
  obtain ⟨t, answer, reported⟩ := announceReceive_answers handed running
  refine ⟨t, answer, reported.time, reported.cmd, reported.shed, ?_, fun room x mem other => ?_,
    fun x mem pin other lawful => ?_, fun victim mem unpinned full lawful unknown first => ?_⟩ <;> rw [reported.table]
  · obtain ⟨e, mem, address, content, age, fresh, unpinned, pin⟩ := exists_announced s.peer.table a (storedContent p)
    exact ⟨e, mem, address, age, fresh, unpinned, pin, _, content, storedContent_fields p⟩
  · exact mem_announceInto_of_room _ room mem other
  · exact LawfulTable.mem_announceInto_of_pinned lawful _ mem pin other
  · rw [LawfulTable.announceInto_of_full lawful full _ unknown ⟨mem, unpinned, first⟩]
    refine ⟨fun e he => ?_, fun x hx other => ?_⟩
    · rcases List.mem_append.1 he with kept | new
      · exact bne_iff_ne.1 (List.mem_filter.1 kept).2
      · rw [List.mem_singleton.1 new]; exact (unknown victim mem).symm
    · exact List.mem_append_left _ (List.mem_filter.2 ⟨hx, bne_iff_ne.2 other⟩)

end Sys2Proof.Machine
end

section
/-! PROOFS. What each operation of the model makes of the laws for the peer table: the table changes only where an announcement is
taken, where its entries age and at the end of LOADING. -/

namespace Sys2Proof.Machine

/-! ## What ages and what is formed -/

theorem aged_address (e : PeerEntry) : e.aged.address = e.address := by
  unfold PeerEntry.aged; split <;> rfl

theorem aged_pinned (e : PeerEntry) : e.aged.pinned = e.pinned := by
  unfold PeerEntry.aged; split <;> rfl

theorem lawful_agedAt {l : List PeerEntry} (lawful : LawfulTable l) (a : Nat) : LawfulTable (agedAt l a) :=
  lawful.map (fun e => by split <;> simp only [aged_address]) (fun e => by split <;> simp only [aged_pinned])

/-- Where a boundary leaves a lapse to its own command the entry does not age yet (R56). -/
theorem lawful_ages {l : List PeerEntry} (lawful : LawfulTable l) :
    LawfulTable (l.map fun e => if e.lapses then e else e.aged) :=
  lawful.map (fun e => by split <;> simp only [aged_address]) (fun e => by split <;> simp only [aged_pinned])

/-- A placeholder for each of at most 8 addresses, none twice (R55). -/
theorem lawful_placeholders {l : List Nat} (few : l.length ≤ 8) : LawfulTable (l.dedup.map placeholder) := by
  have short : l.dedup.length ≤ 8 := Nat.le_trans (List.dedup_sublist l).length_le few
  refine ⟨by rw [List.length_map]; omega, ?_, Nat.le_trans (List.length_filter_le _ _) (by rw [List.length_map]; exact short)⟩
  have addresses : (l.dedup.map placeholder).map PeerEntry.address = l.dedup := by simp [Function.comp_def, placeholder]
  rw [addresses]; exact List.nodup_dedup l

/-- An axis section gives at most four terms (R172, R197). -/
theorem length_parseTerms (kind : AxisKind) (p : List Byte) : (parseTerms kind p).length ≤ 4 := by
  unfold parseTerms; split
  · exact Nat.zero_le _
  · rw [List.length_map, List.length_range]; exact Nat.min_le_left _ _

theorem length_pinnedBy (s : State) (ax : Axis) : (s.pinnedBy ax).length ≤ (s.axisCfg ax).terms.length :=
  Nat.le_trans (List.length_filter_le _ _) (Nat.le_of_eq (List.length_map _))

/-- The terms of an image pin at most 8 addresses (R55). -/
theorem length_pinnedBy_parsed (s : State) (img : List Byte) :
    ((s.endLoading .configured (parseImage img)).pinnedBy .A ++
      (s.endLoading .configured (parseImage img)).pinnedBy .B).length ≤ 8 := by
  have few (ax : Axis) : ((s.endLoading .configured (parseImage img)).pinnedBy ax).length ≤ 4 :=
    Nat.le_trans (length_pinnedBy _ ax) (by cases ax <;> exact length_parseTerms _ _)
  have a := few .A
  have b := few .B
  rw [List.length_append]; omega

/-! ## The shapes that the operations are made of -/

theorem tableLawful_ite {c : Prop} [Decidable c] {t u : State} (ht : t.tableLawful) (hu : u.tableLawful) :
    (if c then t else u).tableLawful := by
  split <;> assumption

theorem tableLawful_snd_ite {c : Prop} [Decidable c] {x y : Code × State} (hx : x.2.tableLawful) (hy : y.2.tableLawful) :
    (if c then x else y).2.tableLawful := by
  split <;> assumption

theorem tableLawful_foldl {α : Type} {step : State → α → State}
    (keeps : ∀ (s : State) (a : α), s.tableLawful → (step s a).tableLawful) (l : List α) {s : State} (h : s.tableLawful) :
    (l.foldl step s).tableLawful := by
  induction l generalizing s with
  | nil => exact h
  | cons a l ih => exact ih (keeps s a h)

namespace State.tableLawful

variable {s : State} (h : s.tableLawful)
include h

/-- The laws are those of the table alone. -/
theorem of_table {t : State} (table : t.peer.table = s.peer.table) : t.tableLawful := by
  rw [tableLawful_iff, table]; exact h

theorem of_trails {t : State} (k : Trails s t) : t.tableLawful := h.of_table k.table

/-! ## Writing a block -/

theorem setLoader (x : Loader) : (s.setLoader x).tableLawful := h
theorem setPins (x : Pins) : (s.setPins x).tableLawful := h
theorem setLine (x : LineUnit) : (s.setLine x).tableLawful := h
theorem setTime (x : TimeBase) : (s.setTime x).tableLawful := h
theorem setCmd (x : CommandUnit) : (s.setCmd x).tableLawful := h
theorem setLight (x : LightUnit) : (s.setLight x).tableLawful := h
theorem setPool (x : Vector (Option Slot) 16) : (s.setPool x).tableLawful := h
theorem setMotion (x : MotionUnit) : (s.setMotion x).tableLawful := h
theorem setSafety (x : SafetyUnit) : (s.setSafety x).tableLawful := h
theorem setOwed (x : List Owed) : (s.setOwed x).tableLawful := h
theorem owe (o : Owed) : (s.owe o).tableLawful := h
theorem disown (o : Owed) : (s.disown o).tableLawful := h
theorem setWithin (b : Bool) : (s.setWithin b).tableLawful := h
theorem setChannel (c : Fin 4) (ch : SenseChannel) : (s.setChannel c ch).tableLawful := h
theorem oweIf (c : Bool) (o : Owed) : (s.oweIf c o).tableLawful := tableLawful_ite (h.owe o) h
theorem setAxis (ax : Axis) (r : AxisRecord) : (s.setAxis ax r).tableLawful := by cases ax <;> exact h

/-! ## Alarms, announcements and axes -/

theorem raise (a : Alarm) : (s.raise a).tableLawful := h.of_trails (trails_raise s a)
theorem offer (f : SendFrame) : (s.offer f).tableLawful := h.of_trails (trails_offer s f)
theorem announceRequest : s.announceRequest.tableLawful := h.of_trails (trails_announceRequest s)
theorem syncContent : s.syncContent.tableLawful := h.of_trails (trails_syncContent s)
theorem setAlarm (a : Alarm) : (s.setAlarm a).tableLawful := h.of_trails (trails_setAlarm s a)
theorem settled : s.settled.tableLawful := h.of_trails (trails_settled s)
theorem finish : s.finish.tableLawful := (h.setWithin false).of_trails (trails_finish s)
theorem cut (ax : Axis) : (s.cut ax).tableLawful := h.of_trails (trails_cut s ax)
theorem setReason (ax : Axis) (reason : StopReason) : (s.setReason ax reason).tableLawful := h.setAxis ax _
theorem askMotor (ax : Axis) (n a b : Nat) : (s.askMotor ax n a b).tableLawful := h.of_table (spares_askMotor s ax n a b).table
theorem completeLight (k : Fin 16) : (s.completeLight k).tableLawful := (h.setLight _).setPool _

theorem enter (ax : Axis) (st : AxisState) : (s.enter ax st).tableLawful := by
  unfold State.enter; dsimp only
  have written := h.setAxis ax { s.axis ax with state := st, token := (s.axis ax).token + 1 }
  exact tableLawful_ite h (syncContent (tableLawful_ite (written.of_trails (trails_clearObstruction _ ax)) written))

theorem rest (ax : Axis) : (s.rest ax).tableLawful := (h.cut ax).enter ax _
theorem restFor (ax : Axis) (reason : StopReason) : (s.restFor ax reason).tableLawful := (h.setReason ax reason).rest ax
theorem faultFor (ax : Axis) (reason : StopReason) : (s.faultFor ax reason).tableLawful :=
  ((h.setReason ax reason).cut ax).enter ax _
theorem enterRunning (ax : Axis) : (s.enterRunning ax).tableLawful := (h.setAxis ax _).enter ax _

theorem enterStopping (ax : Axis) (reason : StopReason) : (s.enterStopping ax reason).tableLawful := by
  have entered (r : AxisRecord) : (((s.releaseSlot ax).setAxis ax r).enter ax .stopping).tableLawful :=
    ((h.of_trails (trails_releaseSlot s ax)).setAxis ax r).enter ax _
  exact tableLawful_ite (((entered _).setAxis ax _).rest ax) ((entered _).askMotor ax _ _ _)

theorem start (ax : Axis) (d : Direction) (mode : Mode) (target : Target) (lease : Option Lease) :
    (s.start ax d mode target lease).tableLawful := by
  have begun (r : AxisRecord) : ((s.setAxis ax r).enter ax .starting).tableLawful := (h.setAxis ax r).enter ax _
  unfold State.start; dsimp only
  exact tableLawful_ite ((begun _).enterRunning ax) ((begun _).askMotor ax _ _ _)

theorem backOff (ax : Axis) : (s.backOff ax).tableLawful :=
  ((h.of_trails (trails_releaseSlot s ax)).setAxis ax _).enter ax _

theorem stopMoving (reason : StopReason) (ax : Axis) : (s.stopMoving reason ax).tableLawful :=
  h.of_trails (trails_stopMoving s reason ax)
theorem lineStop : s.lineStop.tableLawful := h.of_trails (trails_lineStop s)

/-! ## Levels and fades -/

theorem leaveFades (sel : Fin 24 → Bool) : (s.leaveFades sel).tableLawful := (h.setPool _).setLight _
theorem takeLevels (aims : Fin 24 → Option Nat) : (s.takeLevels aims).tableLawful := h.setLight _
theorem giveSlot (k : Fin 16) (slot : Slot) : (s.giveSlot k slot).tableLawful := (h.setPool _).disown _
theorem joinSlot (aims : Fin 24 → Option Nat) (k : Fin 16) : (s.joinSlot aims k).tableLawful := h.setLight _
theorem markScene (aims : Fin 24 → Option Nat) (scene : Option (Fin 8)) : (s.markScene aims scene).tableLawful := h.setLight _

theorem changeLevels (aims : Fin 24 → Option Nat) (fade : Nat) : (s.changeLevels aims fade).tableLawful := by
  unfold State.changeLevels
  refine tableLawful_ite h (tableLawful_ite ((h.leaveFades _).takeLevels aims) ?_)
  split
  · exact ((h.leaveFades _).giveSlot _ _).joinSlot aims _
  · exact ((h.leaveFades _).takeLevels aims).raise _

theorem recallScene (scene : Fin 8) (sel : Fin 24 → Bool) (fade : Option Nat) : (s.recallScene scene sel fade).tableLawful :=
  (h.changeLevels _ _).markScene _ _

theorem recallAlert : s.recallAlert.tableLawful := by
  unfold State.recallAlert; split
  · exact h.recallScene _ _ _
  · exact h

theorem stopRun : s.stopRun.tableLawful := h
theorem beginOverride : s.beginOverride.tableLawful := ((h.setLight _).stopRun).recallAlert

theorem applyRow (row : TriggerRow) (reason : StopReason) : (s.applyRow row reason).tableLawful :=
  have axes := tableLawful_ite ((h.stopMoving reason .A).stopMoving reason .B) h
  tableLawful_ite axes.recallAlert axes

/-! ## The pool and the counts of an axis -/

theorem completeRamp (k : Fin 16) : (s.completeRamp k).tableLawful := by
  have freed := h.setPool (s.pool.set k none)
  unfold State.completeRamp; split
  · exact h.completeLight k
  · dsimp only; split
    · exact (freed.setAxis _ _).enterRunning _
    · exact (freed.setAxis _ _).rest _
    all_goals exact freed
  · exact h

theorem stepSlots (due : Fin 16 → Bool) : (s.stepSlots due).tableLawful := ((h.setMotion _).setLight _).setPool _

theorem takeSteps : s.takeSteps.tableLawful :=
  tableLawful_foldl (fun _ k h => h.completeRamp k) _ ((h.stepSlots _).setOwed _)

theorem leaseStep (ax : Axis) : (s.leaseStep ax).tableLawful := by
  unfold State.leaseStep; dsimp only; split
  · exact h.enterStopping ax _
  · exact h.setAxis ax _
  · exact h

theorem stallStep (ax : Axis) : (s.stallStep ax).tableLawful :=
  tableLawful_ite h (tableLawful_ite (h.setAxis ax _) ((h.raise _).faultFor ax _))

theorem blankingStep (ax : Axis) : (s.blankingStep ax).tableLawful := tableLawful_ite (h.setAxis ax _) h

/-! ## The peer table -/

omit h in
theorem setTable {l : List PeerEntry} (lawful : LawfulTable l) : (s.setPeer { s.peer with table := l }).tableLawful := lawful

theorem reportPeer : s.reportPeer.tableLawful := h.of_table (reportPeer_table s)

theorem freshnessStep (a : Nat) : (s.freshnessStep a).tableLawful := by
  have aged : (s.setPeer { s.peer with table := agedAt s.peer.table a }).tableLawful := setTable (lawful_agedAt h a)
  exact tableLawful_ite aged.reportPeer aged

theorem takeAnnounce (a : Nat) (p : List Byte) : (s.takeAnnounce a p).tableLawful :=
  (setTable (LawfulTable.lawful_announceInto h a _)).reportPeer

theorem countAges : s.countAges.tableLawful := lawful_ages h

/-! ## Requests at the blocks and the schedule list -/

theorem runGoto (ax : Axis) (target : Target) : (s.runGoto ax target).2.tableLawful := by
  unfold State.runGoto; dsimp only; split
  case h_8 =>
    refine tableLawful_snd_ite h ?_
    split
    · exact h.setAxis ax _
    · exact tableLawful_snd_ite (h.start ax _ _ _ _) h
  all_goals exact h

theorem stopAxis (ax : Axis) : (s.stopAxis ax).tableLawful := h.of_trails (trails_stopAxis s ax)

theorem runRunStart : s.runRunStart.2.tableLawful := by
  unfold State.runRunStart; split <;> exact h

theorem act (addressing : Addressing) (x : Timed) : (s.act addressing x).2.tableLawful := by
  cases x with
  | goto ax target token => exact h.runGoto ax target
  | stop ax => exact h.stopAxis ax
  | sceneRecall scene fade => exact h.recallScene scene _ fade
  | levelSet channel level fade => exact (h.changeLevels _ _).markScene _ _
  | runStart => exact h.runRunStart
  | runStop => exact h.stopRun

theorem perform (addressing : Addressing) (x : Timed) : (s.perform addressing x).2.tableLawful := by
  unfold State.perform; split
  · exact h
  · exact h.act addressing x

theorem runTimed (r : Request) (x : Timed × Option Byte) : (s.runTimed r x).2.tableLawful := by
  unfold State.runTimed; split
  · exact h.perform _ _
  · refine tableLawful_snd_ite (h.perform _ _) (tableLawful_snd_ite ?_ (tableLawful_snd_ite h ((h.raise _).perform _ _)))
    split
    · exact h
    · exact tableLawful_snd_ite h h

theorem deferred (e : Entry) (c : Code) : (s.deferred e c).tableLawful := by
  unfold State.deferred; split
  · exact h.offer _
  · exact h

theorem runEntry (e : Entry) : (s.runEntry e).tableLawful := ((h.perform _ _).settled.deferred e _).settled

theorem realignEntry (e : Entry) : (s.realignEntry e).tableLawful :=
  tableLawful_ite (((h.raise _).perform _ _).settled.deferred e _).settled (((h.raise _).settled).deferred e _).settled

theorem runDue : s.runDue.tableLawful := tableLawful_foldl (fun _ e h => h.runEntry e) _ (h.setTime _)

/-! ## The Time Base, announcing, the run and the keys -/

theorem silenceTimerStep : s.silenceTimerStep.tableLawful := tableLawful_ite h (tableLawful_ite h h)
theorem referenceStep : s.referenceStep.tableLawful := tableLawful_ite h (tableLawful_ite h h)

theorem hardRealign (pb : BitVec 16) (phib age : Nat) : (s.hardRealign pb phib age).tableLawful :=
  tableLawful_foldl (fun _ e h => h.realignEntry e) _ (((h.setTime _).raise .realigned).settled.setTime _)

theorem align (pb : BitVec 16) (phib : Nat) (latch : Latch) (delta : Option Int) : (s.align pb phib latch delta).tableLawful := by
  have far := (h.setTime { s.time with lastDelta := recordedDelta delta }).hardRealign pb phib latch.age
  unfold State.align; dsimp only; split
  · exact tableLawful_ite h (tableLawful_ite h far)
  · exact far

theorem deferTo (a : Nat) : (s.deferTo a).tableLawful := by
  refine tableLawful_ite ?_ h
  split <;> exact h

theorem takeBeacon (a : Nat) (pb : BitVec 16) (received : Nat) (latch : Latch) :
    (s.takeBeacon a pb received latch).tableLawful :=
  have deferred := (h.setTime _).deferTo a
  tableLawful_ite ((deferred.setTime _).align pb _ latch _) deferred

theorem offerBeacon : s.offerBeacon.tableLawful := tableLawful_ite (h.offer _) h
theorem announceCountStep : s.announceCountStep.tableLawful := tableLawful_ite h (tableLawful_ite h h.announceRequest)

theorem runStepNow : s.runStepNow.tableLawful := by
  unfold State.runStepNow; split
  · exact h
  · exact tableLawful_ite h (tableLawful_ite h h)

theorem keyStep (k : Fin 8) : (s.keyStep k).tableLawful := h

/-! ## The line -/

theorem endFrame (place : LinePlace) : (s.endFrame place).tableLawful := h

theorem leaveLine : s.leaveLine.tableLawful := tableLawful_ite (((h.setLine _).setLine _).offer _) (h.setLine _)

theorem credit : s.credit.tableLawful := h

theorem countError : s.countError.tableLawful :=
  tableLawful_ite ((((h.setLine _).setLine _).raise _).applyRow _ _) (h.setLine _)

theorem readBit (b : LineBit) : (s.readBit b).tableLawful := by
  have ended : ((s.setLine (s.line.read b)).endOwnSlot b).tableLawful :=
    tableLawful_ite (leaveLine (tableLawful_ite h (h.setLine _).credit)) h
  exact tableLawful_ite (ended.setLine _).countError ended

theorem readBits (bits : List LineBit) : (s.readBits bits).tableLawful := tableLawful_foldl (fun _ b h => h.readBit b) bits h

theorem beginFrame : s.beginFrame.tableLawful := h
theorem startReception : s.startReception.tableLawful := h
theorem loseContention : s.loseContention.tableLawful := tableLawful_ite h.leaveLine h

theorem winContention : s.winContention.tableLawful := by
  unfold State.winContention; dsimp only; split
  · exact tableLawful_ite h h
  · exact h

theorem bitErrorNow : s.bitErrorNow.tableLawful := by
  unfold State.bitErrorNow; dsimp only; split
  · exact (h.endFrame _).leaveLine.countError
  · exact (h.endFrame _).leaveLine

theorem latchCount : s.latchCount.tableLawful := tableLawful_ite h h
theorem enterSlot : s.enterSlot.tableLawful := h

theorem intake (f : Frame) : (s.intake f).tableLawful := tableLawful_ite h (tableLawful_ite h (h.raise _))

theorem route (f : Frame) (latch : Latch) : (s.route f latch).tableLawful := by
  unfold State.route; split
  iterate 4 exact h.intake f
  iterate 2 exact tableLawful_ite h h
  exact h

theorem receive (f : Frame) : (s.receive f).tableLawful :=
  tableLawful_ite (raise (s := (((s.endFrame .slot).acknowledge).credit).endSilence) h _)
    (route (s := (((s.endFrame .slot).acknowledge).credit).endSilence) h f _)

theorem receiveError : s.receiveError.tableLawful := by
  unfold State.receiveError; split
  · exact (h.endFrame _).countError
  · exact (h.endFrame _).countError
  · exact h
  · exact (h.endFrame _).countError
  all_goals exact h

/-! ## Line conditions -/

theorem discardFrame : s.discardFrame.tableLawful := by
  unfold State.discardFrame; dsimp only; split
  · exact h
  · exact (h.endFrame _).loseContention
  all_goals exact (h.endFrame _).leaveLine

theorem enterAllstop : s.enterAllstop.tableLawful :=
  have stopped := ((((h.discardFrame.setLine _).raise _).setSafety _).disown .holdOffEnd).lineStop
  tableLawful_ite stopped.beginOverride stopped

theorem holdOffStep : s.holdOffStep.tableLawful := h
theorem endHoldOff : s.endHoldOff.tableLawful := tableLawful_ite ((h.disown .holdOffEnd).holdOffStep.enterAllstop) h
theorem exitAllstop : s.exitAllstop.tableLawful := h

theorem cutFrame : s.cutFrame.tableLawful := by
  unfold State.cutFrame; split
  · exact (h.endFrame _).leaveLine
  · exact (h.endFrame _).leaveLine
  · exact h.leaveLine
  all_goals exact h

theorem sampleAsserted : s.sampleAsserted.tableLawful := h
theorem assertEstop : s.assertEstop.tableLawful := tableLawful_ite h ((h.sampleAsserted.cutFrame).setLine _).lineStop
theorem releaseEstop : s.releaseEstop.tableLawful := tableLawful_ite h h

theorem silenceStep : s.silenceStep.tableLawful :=
  tableLawful_ite h (tableLawful_ite h (((h.setLine _).raise _).applyRow _ _))

/-! ## Pulses, switches and sensors -/

theorem obstruct (ax : Axis) : (s.obstruct ax).tableLawful := by
  have raised := h.raise (.obstruction ax)
  unfold State.obstruct; split
  · exact tableLawful_ite (raised.backOff ax) (raised.restFor ax _)
  · exact tableLawful_ite (raised.backOff ax) (raised.restFor ax _)
  · exact raised.restFor ax _
  · exact raised.faultFor ax _
  all_goals exact h

theorem creepSwitch (ax : Axis) : (s.creepSwitch ax).tableLawful := tableLawful_ite (h.setAxis ax _) h

theorem countBackOff (ax : Axis) : (s.countBackOff ax).tableLawful :=
  tableLawful_ite ((h.setAxis ax _).rest ax) (h.setAxis ax _)

theorem afterPulse (ax : Axis) (high : Bool) : (s.afterPulse ax high).tableLawful := by
  have arrives {c d : Prop} [Decidable c] [Decidable d] : (if c then s.restFor ax .endReached
      else if d then s.restFor ax .target else s.creepSwitch ax).tableLawful :=
    tableLawful_ite (h.restFor ax _) (tableLawful_ite (h.restFor ax _) (h.creepSwitch ax))
  unfold State.afterPulse; dsimp only; split
  · exact arrives
  · exact arrives
  · exact tableLawful_ite (h.restFor ax _) h
  · exact tableLawful_ite (h.countBackOff ax) h
  all_goals exact h

theorem pulse (ax : Axis) (high : Bool) : (s.pulse ax high).tableLawful := (h.setAxis ax _).afterPulse ax high

theorem conflict (ax : Axis) : (s.conflict ax).tableLawful := tableLawful_ite (h.raise _) ((h.raise _).faultFor ax _)

theorem afterSwitch (ax : Axis) (which : Direction) : (s.afterSwitch ax which).tableLawful := by
  refine tableLawful_ite ?_ ?_
  · split
    iterate 3 exact h.restFor ax _
    · exact h.rest ax
    all_goals exact h
  · split
    iterate 2 exact tableLawful_ite (h.restFor ax _) (h.creepSwitch ax)
    all_goals exact h

theorem activate (ax : Axis) (which : Direction) : (s.activate ax which).tableLawful :=
  tableLawful_ite ((h.setAxis ax _).conflict ax) ((h.setAxis ax _).afterSwitch ax which)

theorem setSwitchPin (ax : Axis) (d : Direction) (active : Bool) : (s.setSwitchPin ax d active).tableLawful := by
  cases ax <;> cases d <;> exact h

theorem countObstruction (c : Fin 4) (ax : Axis) : (s.countObstruction c ax).tableLawful :=
  tableLawful_ite h (tableLawful_ite h ((h.setChannel c _).obstruct ax))

theorem compareForce (c : Fin 4) : (s.compareForce c).tableLawful := by
  unfold State.compareForce; split
  · exact tableLawful_ite ((h.setAxis _ _).countObstruction c _) h
  · exact h

theorem decimate (c : Fin 4) : (s.decimate c).tableLawful :=
  tableLawful_ite h ((h.setChannel c _).compareForce c).syncContent

theorem takeBit (c : Fin 4) (b : Bool) : (s.takeBit c b).tableLawful :=
  (tableLawful_ite (h.setChannel c _) ((h.setChannel c _).decimate c)).oweIf _ _

/-! ## Events owed -/

theorem takeOwed (kind : Owed → Bool) {step : Owed → State → State}
    (keeps : ∀ (o : Owed) (s : State), s.tableLawful → (step o s).tableLawful) : (s.takeOwed kind step).tableLawful := by
  unfold State.takeOwed; split
  · exact keeps _ _ (h.disown _)
  · exact h

theorem carryOut (o : Owed) : (s.carryOut o).tableLawful := by
  have noted := h.disown o
  cases o with
  | slotStep k => exact h.takeSteps
  | silenceTimerExpiry => exact noted.silenceTimerStep
  | beaconOffer => exact noted.offerBeacon
  | referenceLost => exact noted.referenceStep
  | scheduleDueRun => exact noted.runDue
  | announceExpiry => exact noted.announceCountStep
  | freshnessLapse a => exact noted.freshnessStep a
  | runStep => exact noted.runStepNow
  | keyEstablish k | keyPress k | keyRelease k => exact noted.keyStep k
  | leaseEnd ax => exact noted.leaseStep ax
  | stall ax => exact noted.stallStep ax
  | blankingEnd ax => exact noted.blankingStep ax
  | holdOffEnd => exact noted.holdOffStep
  | silentEntry => exact noted.silenceStep
  | estopRelease => exact noted.releaseEstop
  | beacon a pb phib latch => exact noted.takeBeacon a pb phib latch
  | announce a p => exact noted.takeAnnounce a p
  | obstruction ax c b => exact noted.takeBit c b
  | clip c => exact noted.raise _

theorem carryOwed (o : Owed) : (s.carryOwed o).tableLawful := tableLawful_ite (h.carryOut o).settled h

theorem carryTogether (events : List Owed) : (s.carryTogether events).tableLawful :=
  (tableLawful_foldl (fun _ o h => h.carryOwed o) events (h.setWithin true)).setWithin false

theorem takeHolders (ax : Axis) : (s.takeHolders ax).tableLawful :=
  tableLawful_ite h (tableLawful_ite h.enterAllstop (tableLawful_ite h.assertEstop (h.carryTogether _)))

theorem oneInstant : s.oneInstant.tableLawful := tableLawful_ite ((h.takeHolders .A).takeHolders .B) h

theorem foresee : s.foresee.tableLawful := h

theorem settleOwed : s.settleOwed.tableLawful :=
  tableLawful_ite h ((((h.carryTogether _).setOwed []).foresee.oneInstant).setWithin false).settled

/-! ## The boundary -/

theorem stepOrOwe (ends : Bool) (o : Owed) {step : State → State} (stepped : (step s).tableLawful) :
    (s.stepOrOwe ends o step).tableLawful := tableLawful_ite h stepped

theorem countRelease (asserted : Bool) : (s.countRelease asserted).tableLawful := tableLawful_ite h (tableLawful_ite h h)

theorem countKeys (keys : BitVec 8) : (s.countKeys keys).tableLawful :=
  tableLawful_ite h (tableLawful_foldl (fun _ k h => h.stepOrOwe _ _ (h.keyStep k)) _ (h.setPins _))

theorem countAxis (ax : Axis) : (s.countAxis ax).tableLawful := by
  have leased := h.stepOrOwe ((s.axis ax).leaseAfter == some 0) (.leaseEnd ax) (step := fun s => s.leaseStep ax) (h.leaseStep ax)
  have guarded := leased.stepOrOwe
    ((s.axis ax).state.guarded && decide ((s.axisCfg ax).stallTime ≤ (s.axis ax).stallCount + 1)) (.stall ax)
    (step := fun s => s.stallStep ax) (leased.stallStep ax)
  exact guarded.stepOrOwe _ _ (step := fun s => s.blankingStep ax) (guarded.blankingStep ax)

theorem countPeriod (keys : BitVec 8) (asserted : Bool) : (s.countPeriod keys asserted).tableLawful := by
  have timer : s.countSilenceTimer.tableLawful := h.stepOrOwe _ _ h.silenceTimerStep
  have reference : s.countSilenceTimer.countReference.tableLawful := timer.stepOrOwe _ _ timer.referenceStep
  have silence : s.countSilenceTimer.countReference.countSilence.tableLawful := reference.stepOrOwe _ _ reference.silenceStep
  have run {t : State} (h : t.tableLawful) : t.countRun.tableLawful := h.stepOrOwe _ _ h.runStepNow
  have off {t : State} (h : t.tableLawful) : t.countHoldOff.tableLawful := h.stepOrOwe _ _ h.holdOffStep
  have announce {t : State} (h : t.tableLawful) : t.countAnnounce.tableLawful := h.stepOrOwe _ _ h.announceCountStep
  have axes := ((run ((silence.countRelease asserted).countAges.countKeys keys)).countAxis .A).countAxis .B
  exact announce (((off axes).oweIf _ _).oweIf _ _)

theorem stepPool (found : BoundaryFound) : (s.stepPool found).tableLawful :=
  have early := tableLawful_foldl (fun _ e h => h.carryOwed (owedBy e)) found.early (s := s.oweSteps found.given) h
  tableLawful_ite early.takeSteps early

/-! ## The requests -/

theorem reply (r : Request) (c : Code) : (s.reply r c).tableLawful := by
  unfold State.reply; split
  · exact h.offer _
  · exact h

theorem responded {α : Type} {r : Request} {parsed : Except Code α} {run : α → State → Code × State}
    (keeps : ∀ x, (run x s).2.tableLawful) : (respond r parsed run s).tableLawful := by
  unfold respond; split
  · exact h.reply r _
  · exact (keeps _).settled.reply r _

theorem forStation {r : Request} {answered : State} (k : answered.tableLawful) : (stationOnly r answered s).tableLawful :=
  tableLawful_ite k h

theorem tareChannel (c : Fin 4) : (s.tareChannel c).2.tableLawful := tableLawful_snd_ite h (tableLawful_snd_ite h h)

theorem lighting {effect : Code × State} (k : effect.2.tableLawful) : (s.lighting effect).2.tableLawful :=
  tableLawful_snd_ite h k

theorem groupRecall (scene group : Nat) : (s.groupRecall scene group).tableLawful :=
  tableLawful_ite ((h.offer _).recallScene _ _ _) (h.offer _)

theorem setRegion (region : RunRegion) : (s.setRegion region).2.tableLawful := tableLawful_snd_ite h h
theorem setSceneTime (scene : Fin 8) (fade : Nat) : (s.setSceneTime scene fade).2.tableLawful := tableLawful_snd_ite h h
theorem openWindow (owner : Nat) (x : Fin 8 × Nat × Nat) : (s.openWindow owner x).2.tableLawful := tableLawful_snd_ite h h

theorem writeLevels (source : Source) (p : List Byte) : (s.writeLevels source p).2.tableLawful := by
  refine tableLawful_snd_ite h ?_
  split
  · exact h
  · exact tableLawful_snd_ite h h

theorem runJog (source : Source) (ax : Axis) (d : Direction) : (s.runJog source ax d).2.tableLawful := by
  refine tableLawful_snd_ite (h.setAxis ax _) ?_
  split
  case h_8 => exact tableLawful_snd_ite (h.setReason ax _) (tableLawful_snd_ite (h.start ax _ _ _ _) h)
  all_goals exact h

theorem jog (source : Source) (x : Axis × Direction × Option Byte) : (s.jog source x).2.tableLawful := by
  unfold State.jog; split
  · exact h
  · exact h.runJog source _ _

theorem releaseJog (a d : Byte) : (s.releaseJog a d).tableLawful := by
  unfold State.releaseJog; split
  · exact tableLawful_ite (h.stopAxis _) h
  · exact h

theorem clearAxis (x : Axis × Option Byte) : (s.clearAxis x).2.tableLawful := by
  unfold State.clearAxis; split
  · exact h
  · exact tableLawful_snd_ite h (tableLawful_snd_ite h (h.rest _))

theorem setReference (x : Axis × Nat × Option Byte) : (s.setReference x).2.tableLawful := by
  unfold State.setReference; dsimp only; split
  · exact h
  · split
    case h_2 => exact h.setAxis _ _
    all_goals exact h

theorem answeredRead (r : Request) (selector parts : Nat) (content : Nat → Byte → Except Code (List Byte)) :
    (answerRead r selector parts content s).tableLawful := by
  unfold answerRead; split
  · exact h.reply r _
  · split
    · exact h.reply r _
    · exact h.offer _
    · exact h

theorem takeRequest : s.takeRequest.tableLawful := by
  unfold State.takeRequest; split
  · split <;> exact h
  · split <;> exact h

theorem clearAndSetAgain (set : BitVec 23) : (s.clearAndSetAgain set).tableLawful :=
  tableLawful_foldl (fun _ a h => h.setAlarm a) _ (h.setSafety _)

theorem alarmClear (x : BitVec 23 × Option Byte) : (s.alarmClear x).2.tableLawful := by
  unfold State.alarmClear; split
  · exact h
  · exact (h.clearAndSetAgain _).foresee

theorem restartAxis (ax : Axis) : (s.restartAxis ax).tableLawful := by
  unfold State.restartAxis; split
  iterate 4 exact h.restFor ax _
  · exact tableLawful_ite h (h.rest ax)
  all_goals exact h

theorem restartLights : s.restartLights.tableLawful := (((h.setLight _).setPool _).setMotion _).stopRun

theorem softRestart : s.softRestart.tableLawful :=
  have emptied := (((h.setLine _).setCmd _).setTime _).restartLights
  (((emptied.clearAndSetAgain _).restartAxis .A).restartAxis .B).announceRequest

/-! ## The end of LOADING -/

theorem startSafety (formed : BitVec 23) : (s.startSafety formed).tableLawful :=
  h.of_table (congrArg PeerUnit.table (startSafety_peer s formed))

theorem startAnnouncing : s.startAnnouncing.tableLawful :=
  announceRequest (s := s.setPeer { s.peer with content := s.contentNow }) h

theorem powerOn : s.powerOn.tableLawful := by
  refine tableLawful_ite h.beginOverride ?_
  split
  · exact h.recallScene _ _ _
  · exact h

theorem unconfigure : s.unconfigure.tableLawful := by
  have engine : ((s.endLoading .unconfigured .defaults).startLine).startEngine.tableLawful := tableLawful_ite h h
  exact (engine.startSafety _).startAnnouncing

theorem failAttempt : s.failAttempt.tableLawful := tableLawful_ite h (h.setLoader _).unconfigure

omit h in
/-- The table at the end of LOADING holds a pinned placeholder for each station that a term names, and an axis has at most four
terms (R55, R172). -/
theorem configure (s : State) (img : List Byte) : (s.configure img).tableLawful := by
  have blocks : (s.configuredBlocks img).tableLawful := by
    rw [tableLawful_iff, configuredBlocks_table]
    exact lawful_placeholders (length_pinnedBy_parsed s img)
  rw [configure_eq]
  exact (blocks.startSafety 0).startAnnouncing.powerOn

theorem judgeImage : s.judgeImage.tableLawful := tableLawful_ite h (tableLawful_ite (configure s _) h.failAttempt)

end State.tableLawful

end Sys2Proof.Machine
end

section
/-! PROOFS. Every step keeps the laws for the peer table: each command takes effect through the operations whose lemmas stand
above, and a reset leaves the table empty. -/

namespace Sys2Proof.Machine

/-! ## The shapes of the commands -/

/-- The next state, where the command answers one, has a lawful table. -/
def AnswersLawful (o : Host.Outcome State Fault Refusal) : Prop := ∀ t, o = .next t → t.tableLawful

theorem answersLawful_next {t : State} (h : t.tableLawful) : AnswersLawful (.next t) := by rintro _ ⟨⟩; exact h

theorem answersLawful_ite {c : Prop} [Decidable c] {t u : State} (ht : t.tableLawful) (hu : u.tableLawful) :
    AnswersLawful (if c then .next t else .next u) := by
  split <;> apply answersLawful_next <;> assumption

namespace State.tableLawful

variable {s : State} (h : s.tableLawful)
include h

theorem answersEvent {due : Bool} {effect : State} (k : effect.tableLawful) : AnswersLawful (event s due effect) :=
  answersLawful_ite k.finish h

theorem answersAtLastBit (bits : List LineBit) (due : State → Bool) {effect : State → State}
    (keeps : ∀ t : State, t.tableLawful → (effect t).tableLawful) : AnswersLawful (atLastBit s bits due effect) :=
  have read := h.readBits bits
  answersLawful_ite h (tableLawful_ite (keeps _ read) read).finish

theorem endDecode (r : Request) : (s.endDecode r).tableLawful := h.setCmd _

theorem answersCompleting (row : Instr) {act : Request → State → State}
    (keeps : ∀ (r : Request) (t : State), t.tableLawful → (act r t).tableLawful) : AnswersLawful (completing s row act) := by
  unfold completing; split
  · exact h.answersEvent (keeps _ _ (h.endDecode _))
  · exact answersLawful_next h

/-- A request that may carry an at byte. -/
theorem answersTimed (row : Instr) {parse : Request → State → Except Code (Timed × Option Byte)} :
    AnswersLawful (completing s row fun r s => respond r (parse r s) (fun x s => s.runTimed r x) s) :=
  h.answersCompleting row fun r _ h => h.responded fun x => h.runTimed r x

/-- One that acts only when station-addressed (R69). -/
theorem answersStationTimed (row : Instr) {parse : Request → State → Except Code (Timed × Option Byte)} :
    AnswersLawful (completing s row fun r s => stationOnly r (respond r (parse r s) (fun x s => s.runTimed r x) s) s) :=
  h.answersCompleting row fun r _ h => h.forStation (h.responded fun x => h.runTimed r x)

/-- A READ (R74). -/
theorem answersRead (row : Instr) {selector parts : Nat} {content : State → Nat → Byte → Except Code (List Byte)} :
    AnswersLawful (completing s row fun r s => stationOnly r (answerRead r selector parts (content s) s) s) :=
  h.answersCompleting row fun r _ h => h.forStation (h.answeredRead r selector parts _)

theorem answersStartBitRead (bits : List LineBit) : AnswersLawful (execStartBitRead bits s) :=
  answersLawful_ite h (tableLawful_ite (h.readBits _).startReception (h.readBits bits)).finish

theorem answersEndSwitchChange (ax : Axis) (d : Direction) (active : Bool) :
    AnswersLawful (execEndSwitchChange ax d active s) :=
  have set := h.setSwitchPin ax d active
  answersLawful_ite set (tableLawful_ite (set.activate ax d) set).finish

/-! ## What the commands hand over -/

theorem feed (bytes : List Byte) : (s.feed bytes).tableLawful := h.setLoader _

theorem openPeriod : s.openPeriod.tableLawful := h.setTime _

theorem boundary (keys : BitVec 8) (found : BoundaryFound) :
    ((s.settleOwed.openPeriod.countPeriod keys found.estopRead).stepPool found).tableLawful :=
  (h.settleOwed.openPeriod.countPeriod keys _).stepPool found

theorem beaconStep (o : Owed) : (beaconStep o s).tableLawful := by
  unfold Machine.beaconStep; split
  · exact h.takeBeacon _ _ _ _
  · exact h

theorem announceStepOf (o : Owed) : (announceStepOf o s).tableLawful := by
  unfold Machine.announceStepOf; split
  · exact h.takeAnnounce _ _
  · exact h

theorem signalStep (o : Owed) : (signalStep o s).tableLawful := by
  unfold Machine.signalStep; split
  · exact h.takeBit _ _
  · exact h

theorem settleChannel (c : Fin 4) : (s.settleChannel c).tableLawful := by
  have taken : (if s.owed.any (isBitOf c) then (s.takeOwed (isBitOf c) Machine.signalStep).settled else s).tableLawful :=
    tableLawful_ite (h.takeOwed _ fun o _ h => h.signalStep o).settled h
  exact tableLawful_ite ((taken.disown _).raise _).settled taken

theorem presentBit (c : Fin 4) (b : Bool) : (s.presentBit c b).tableLawful := by
  have settled := h.settleChannel c
  unfold State.presentBit; dsimp only; split
  · exact settled.owe _
  · exact settled.takeBit c b

theorem enableChannels (addressing : Addressing) (set : BitVec 24) (on : Bool) :
    (s.enableChannels addressing set on).tableLawful := h.setLight _

end State.tableLawful

/-! ## The commands -/

theorem lawful_nil : LawfulTable [] := ⟨Nat.zero_le _, List.nodup_nil, Nat.zero_le _⟩

/-- A reset leaves the table empty (R184). -/
theorem tableLawful_of_cold (pins : Pins) (pending : List Instr) (held : Bool) :
    State.tableLawful { State.cold pins with pending := pending, inReset := held } := lawful_nil

theorem answersLawful_exec (c : Instr) {s : State} (h : s.tableLawful) : AnswersLawful (exec c s) := by
  cases c with
  | hardReset straps => rw [exec]; exact answersLawful_next (tableLawful_of_cold _ _ _)
  | heldInReset => rw [exec]; exact answersLawful_next (tableLawful_of_cold _ _ _)
  | attemptFail => rw [exec]; exact h.answersEvent h.failAttempt
  | imageJudged bytes => rw [exec]; exact h.answersEvent (h.feed bytes).judgeImage
  | periodBoundary keys found => rw [exec]; exact h.answersEvent (h.boundary keys found)
  | rampCompletion k => rw [exec]; exact h.answersEvent h.takeSteps
  | silenceTimerExpiry => rw [exec]; exact h.answersEvent (h.disown _).silenceTimerStep
  | beaconOffer => rw [exec]; exact h.answersEvent (h.disown _).offerBeacon
  | referenceLost => rw [exec]; exact h.answersEvent (h.disown _).referenceStep
  | scheduleDueRun => rw [exec]; exact h.answersEvent (h.disown _).runDue
  | announceExpiry => rw [exec]; exact h.answersEvent (h.disown _).announceCountStep
  | freshnessLapse a => rw [exec]; exact h.answersEvent ((h.disown _).freshnessStep a)
  | runStep => rw [exec]; exact h.answersEvent (h.disown _).runStepNow
  | keyDebounceEstablish k | keyPress k | keyRelease k => rw [exec]; exact h.answersEvent ((h.disown _).keyStep k)
  | leaseEnd ax => rw [exec]; exact h.answersEvent ((h.disown _).leaseStep ax)
  | stall ax => rw [exec]; exact h.answersEvent ((h.disown _).stallStep ax)
  | blankingEnd ax => rw [exec]; exact h.answersEvent ((h.disown _).blankingStep ax)
  | holdOffEnd => rw [exec]; exact h.answersEvent h.endHoldOff.foresee.oneInstant
  | frameBegin bits => rw [exec]; exact h.answersAtLastBit _ _ fun _ h => h.beginFrame
  | contentionLost bits => rw [exec]; exact h.answersAtLastBit _ _ fun _ h => h.loseContention
  | contentionWon bits => rw [exec]; exact h.answersAtLastBit _ _ fun _ h => h.winContention
  | bitError bits => rw [exec]; exact h.answersAtLastBit _ _ fun _ h => h.bitErrorNow
  | headerEndLatch bits => rw [exec]; exact h.answersAtLastBit _ _ fun _ h => h.latchCount
  | senderEntersSlot bits => rw [exec]; exact h.answersAtLastBit _ _ fun _ h => h.enterSlot
  | slotEnd level => rw [exec]; exact h.answersEvent (h.readBit level)
  | startBitRead bits => rw [exec]; exact h.answersStartBitRead bits
  | frameReceiveIntact bits =>
    rw [exec]; refine h.answersAtLastBit _ _ fun _ h => ?_
    split
    · exact h.receive _
    · exact h
  | receiveError bits => rw [exec]; exact h.answersAtLastBit _ _ fun _ h => h.receiveError
  | invalidSourceDiscard bits => rw [exec]; exact h.answersAtLastBit _ _ fun _ h => h.endFrame _
  | deferredErrorCount bits => rw [exec]; exact h.answersEvent (h.readBits bits)
  | beaconReceive => rw [exec]; exact h.answersEvent (h.takeOwed _ fun o _ h => h.beaconStep o)
  | announceReceive => rw [exec]; exact h.answersEvent (h.takeOwed _ fun o _ h => h.announceStepOf o)
  | silentEntry => rw [exec]; exact h.answersEvent (h.disown _).silenceStep
  | allstopEntry bits => rw [exec]; exact h.answersAtLastBit _ _ fun _ h => h.enterAllstop
  | allstopExit bits => rw [exec]; exact h.answersAtLastBit _ _ fun _ h => h.exitAllstop.foresee.oneInstant
  | estopAssert => rw [exec]; exact h.answersEvent h.assertEstop
  | estopRelease => rw [exec]; exact h.answersEvent (h.disown _).releaseEstop.foresee.oneInstant
  | travelPulse ax high => rw [exec]; exact h.answersEvent (h.pulse ax high)
  | endSwitchChange ax d active => rw [exec]; exact h.answersEndSwitchChange ax d active
  | senseSample c bits => rw [exec]; exact h.answersEvent (tableLawful_foldl (fun _ b h => h.presentBit c b) bits h)
  | obstructionSignal ax => rw [exec]; exact h.answersEvent (h.takeOwed _ fun o _ h => h.signalStep o)
  | clip c => rw [exec]; exact h.answersEvent ((h.disown _).raise _)
  | decodeTake => rw [exec]; exact h.answersEvent h.takeRequest
  | goto | stop => rw [exec]; exact h.answersStationTimed _
  | sceneRecall | levelSet | runStart | runStop => rw [exec]; exact h.answersTimed _
  | jog => rw [exec]; exact h.answersCompleting _ fun r _ h => h.forStation (h.responded fun x => h.jog _ x)
  | jogRelease =>
    rw [exec]; refine h.answersCompleting _ fun r _ h => ?_
    split
    · exact h.releaseJog _ _
    · exact h
  | axisClear => rw [exec]; exact h.answersCompleting _ fun r _ h => h.forStation (h.responded fun x => h.clearAxis x)
  | reference => rw [exec]; exact h.answersCompleting _ fun r _ h => h.forStation (h.responded fun x => h.setReference x)
  | tare => rw [exec]; exact h.answersCompleting _ fun r _ h => h.forStation (h.responded fun c => h.tareChannel c)
  | groupRecallRequest =>
    rw [exec]; refine h.answersCompleting _ fun r _ h => ?_
    split
    · exact h.groupRecall _ _
    · exact h
  | lightsEnable | nightSet | nightOff =>
    rw [exec]; exact h.answersCompleting _ fun r _ h => h.responded fun _ => h.lighting (h.setLight _)
  | channelEnable =>
    rw [exec]; exact h.answersCompleting _ fun r _ h => h.responded fun _ => h.lighting (h.enableChannels _ _ _)
  | runSet => rw [exec]; exact h.answersCompleting _ fun r _ h => h.responded fun region => h.lighting (h.setRegion region)
  | sceneTime => rw [exec]; exact h.answersCompleting _ fun r _ h => h.responded fun _ => h.lighting (h.setSceneTime _ _)
  | alarmClear => rw [exec]; exact h.answersCompleting _ fun r _ h => (h.responded fun x => h.alarmClear x).oneInstant
  | mapClear => rw [exec]; exact h.answersCompleting _ fun r _ h => h.responded fun _ => h.setTime _
  | restart =>
    rw [exec]; exact h.answersCompleting _ fun r _ h => (h.forStation (h.responded fun _ => h.softRestart.foresee)).oneInstant
  | readAxis | readSense | readTime | readAlarms | readLight | readPeer | readScene => rw [exec]; exact h.answersRead _
  | levelWindow => rw [exec]; exact h.answersCompleting _ fun r _ h => (h.setCmd _).responded fun x => (h.setCmd _).openWindow _ x
  | levelData => rw [exec]; exact h.answersCompleting _ fun r _ h => h.responded fun p => h.writeLevels _ p
  | replyDiscard => rw [exec]; exact h.answersCompleting _ fun _ _ h => h
  | unknownKind => rw [exec]; exact h.answersCompleting _ fun r _ h => h.reply r _

/-! ## A step -/

/-- The queue of commands is the surroundings'. -/
theorem State.tableLawful.setPending {s : State} (h : s.tableLawful) (l : List Instr) :
    State.tableLawful { s with pending := l } := h

theorem State.tableLawful.passUnit {s : State} (h : s.tableLawful) : s.passUnit.tableLawful := (h.setTime _).setCmd _

theorem State.tableLawful.clock {s : State} (h : s.tableLawful) : s.clock.tableLawful :=
  have advanced := tableLawful_ite h.passUnit (h.passUnit.setPending _)
  tableLawful_ite h (tableLawful_ite advanced (h.setPending _))

/-- Settles O13: the table changes only where an announcement is taken, where entries age and at the end of LOADING, and each of
the three keeps the laws. -/
theorem everyStepKeepsThePeerTableLaws : Obligations.EveryStepKeepsThePeerTableLaws := by
  intro s t h answer
  unfold step at answer; split at answer
  · exact answersLawful_exec _ (h.setPending _) t answer
  · cases answer; exact h.clock

end Sys2Proof.Machine
end
